-- ==== Sys2Proof/Word.lean ====
section
/-! DEFINITION. The word types of the device: 32-bit registers (scope of spec/00_scope.md, "All registers are 32
bits wide"), bytes, and sparse maps from a number to a value. -/

namespace Sys2Proof

/-- A register word. -/
abbrev Word := BitVec 32

/-- A byte. -/
abbrev Byte := BitVec 8

/-- A sparse map: what is not listed holds the map's default, which each reader names. -/
abbrev SMap (α : Type) := List (Nat × α)

end Sys2Proof
end

