-- ==== Sys2Proof/Syntax.lean ====
section
/-! DEFINITION. The commands and happenings of the device as syntax: the operand types and the one inductive Instr,
one constructor per row of spec/opcode_table.json. -/

namespace Sys2Proof

/-- Where a command came from and how it was sent: its session, its transport (0 to 7 a link port, 8 the MGMT SPI),
its sequence number, its ACK flag, and its EXEC_AT index when TIMED is set (R448, R449). -/
structure Ctx where
  sess : Nat
  via : Nat
  seq : Nat
  ack : Bool
  timed : Option Nat
  deriving DecidableEq, Repr

/-- A packet as its frames carry it (R430, R449, R487): its transport and channel, the 32 bytes of its header frame, its payload frames as
sent, the 16 bytes of its tag, and whether a signature that its payload carries verifies (R475, R481, R483). -/
structure RawPacket where
  via : Nat
  vc : Nat
  header : List Byte
  body : List Byte
  tag : List Byte
  sigOk : Bool
  deriving DecidableEq, Repr

/-- A command packet that the engine has read (R448, R449), its payload decrypted. tag is the COUNT under which its tag verifies with the
keys of the session it names, none where it verifies under none that is tried (R487 to R489); resvOk says that every reserved header bit
is 0; frames is the number of frames that came. -/
structure Packet where
  via : Nat
  vc : Nat
  opcode : Nat
  dest : Nat
  sess : Nat
  urgent : Bool
  ack : Bool
  timed : Bool
  resvOk : Bool
  seq : Nat
  length : Nat
  execAt : Nat
  frames : Nat
  tag : Option Nat
  sigOk : Bool
  payload : List Byte
  deriving DecidableEq, Repr

/-- The header fields of a segment command (R138): LEN, RATE, KIND, M. -/
structure SegHead where
  len : Nat
  rate : Nat
  kind : Nat
  m : Nat
  deriving DecidableEq, Repr

/-- A refill packet of VC2 (R147): its header fields, reserved bits all 0 or not, and the data bytes of its data frames. -/
structure Refill where
  sess : Nat
  forme : Nat
  ring : Nat
  count : Nat
  pos : Nat
  resvOk : Bool
  data : List Byte
  deriving DecidableEq, Repr

/-- One entry of RUN_START (R466): sequencer, entry address, and whether CS_ENTRY is used instead. -/
structure RunEntry where
  seq : Nat
  entry : Nat
  useReg : Bool
  deriving DecidableEq, Repr

/-- SESSION_OPEN's payload (R509): s, TAKEOVER, OPENCTR, whether the owner signature bytes are all 0, and whether
they verify under the enrolled owner key. -/
structure OpenReq where
  s : Nat
  takeover : Bool
  openCtr : Nat
  sigZero : Bool
  sigOk : Bool
  hostKey : List Byte
  hostNonce : List Byte
  deriving DecidableEq, Repr

/-- A VC1 block as received (R427, R441): its reserved-slot number, whether its header was valid, and its 64 bits as sent,
encrypted (R493). -/
structure Vc1Block where
  v : Nat
  hdrOk : Bool
  bits : Nat
  deriving DecidableEq, Repr

/-- A VC1 tag frame as received (R494): for each of its tags the slot it names and the 96 bits of the tag. -/
structure TagFrame where
  tags : List (Nat × Nat)
  deriving DecidableEq, Repr

/-- What a calibration step measured (R357, R359): the values of its class, and for a DIVIDER step the two ratios of
RINT. -/
structure CalMeas where
  m : List Rat
  ratio1 : Rat
  ratio2 : Rat
  deriving DecidableEq, Repr

/-- MEM_REPAIR_ADD's payload (R397, R466). -/
structure Repair where
  kind : Nat
  stack : Nat
  ch : Nat
  pc : Nat
  bg : Nat
  bank : Nat
  row : Nat
  deriving DecidableEq, Repr

/-- An ALIGN block as received (R406): the 64 bits of its payload, descrambled, and the block time of its arrival, counted by the
receiving port. -/
structure AlignBlock where
  body : Nat
  at_ : Nat
  deriving DecidableEq, Repr

/-- A valid LINIT block (R432, R435). -/
structure LinitBlock where
  kind : Nat
  acked : Bool
  buf0 : Nat
  buf2 : Nat
  buf3 : Nat
  deriving DecidableEq, Repr

/-- A HELLO as received (R491, R492): its payload, whether both certificates verify up to the root, and whether the leaf certifies the
identity key. -/
structure Hello where
  payload : List Byte
  certOk : Bool
  leafOk : Bool
  deriving DecidableEq, Repr

/-- A FINISH as received (R491): its payload and its tag. -/
structure Finish where
  payload : List Byte
  tag : List Byte
  deriving DecidableEq, Repr

/-- A frame as received (R428, R429): the 64 bits of its head block, its four data blocks with whether the header of each was valid, and of
a tag frame whether a signature that the packet's payload carries verifies. -/
structure Frame where
  head : Nat
  blocks : List (Bool × Nat)
  sigOk : Bool
  deriving DecidableEq, Repr

/-- A valid LINK block (R432). -/
structure LinkBlock where
  ackseq : Nat
  cr0 : Nat
  cr2 : Nat
  cr3 : Nat
  deriving DecidableEq, Repr

/-- What start-up stage 5 finds (R519): the entropy tests, and the identity key and its certificate chain. -/
structure SecStart where
  drbgOk : Bool
  keysOk : Bool
  deriving DecidableEq, Repr


/-- The commands and happenings of the device, one constructor per row of the table (spec/opcode_table.json).
Operands carry what the sender, the peer or the world supplies; what the device itself holds is read from its
state. -/
inductive Instr where
  /-- REG_READ (R31). Command that reads one register; an RC field is cleared in the same fabric cycle. -/
  | regRead (c : Ctx) (addr : Nat)
  /-- LATCHING_READ (R45). A read of the low word of a multi-word register latches the remaining words for the reads that follow. -/
  | latchingRead (c : Ctx) (addr : Nat)
  /-- REG_WRITE (R24). Command that writes one register with no behaviour of its own; it lands at the start of a fabric cycle under its access code. -/
  | regWrite (c : Ctx) (addr : Nat) (v : Nat)
  /-- REG_READ_MULTI (R466). Command that reads up to 256 consecutive registers. -/
  | regReadMulti (c : Ctx) (first : Nat) (count : Nat)
  /-- REG_WRITE_LIST (R466). Command that writes up to 256 address and value pairs in order; it stops at the first refused pair. -/
  | regWriteList (c : Ctx) (pairs : List (Nat × Nat))
  /-- TIMED_DISPATCH (R458). A pending TIMED command is dispatched from the timed table and takes effect at EXEC_AT, or late with status LATE. -/
  | timedDispatch (n : Nat)
  /-- TB_RATE_ADJ_WRITE (R43). A write to RATE_ADJ takes effect at the next fabric cycle, and OFFSET is compensated so that DeviceTime does not step. -/
  | tbRateAdjWrite (c : Ctx) (v : Nat)
  /-- TB_OFFSET_STAGE (R44). A write to TB_OFFSET0, TB_OFFSET1 or TB_OFFSET2 stages its word. -/
  | tbOffsetStage (c : Ctx) (w : Fin 3) (v : Nat)
  /-- TB_OFFSET_COMMIT (R44). A write to TB_OFFSET3 stages its word and commits all four staged words at the next fabric cycle, which sets STEP and increments TB_STEPCOUNT. -/
  | tbOffsetCommit (c : Ctx) (v : Nat)
  /-- TB_SEAL (R46). Setting TB_CTRL.SEAL locks OFFSET and RATE_ADJ until reset. -/
  | tbSeal (c : Ctx) (v : Nat)
  /-- SYNC_ARM (R51). Setting SYNC_ARM arms SYNC capture, or is refused with BUSY while sequencers run, alarms are enabled or TIMED commands are pending. -/
  | syncArm (c : Ctx) (v : Nat)
  /-- SYNC_DISARM (R52). Writing 0 to SYNC_ARM disarms capture and restores the former REG_STATE. -/
  | syncDisarm (c : Ctx) (v : Nat)
  /-- SYNC_EDGE (R50). A rising edge at SYNC_IN is stamped to 1/256 sample, or ignored as short or too fast. -/
  | syncEdge (stamp : Nat) (high : Nat)
  /-- REGISTRATION_APPLY (R53). The new W and d take effect at the first word at least 2,048 samples after the SYNC stamp; REG_STATE becomes REGISTERED. -/
  | registrationApply
  /-- SYNC_GEN_PULSE (R49). In GENERATE mode SYNC_OUT rises at system index TB_SYNC_GEN for 1,024 samples. -/
  | syncGenPulse
  /-- LINK_CHECK_START (R58). Setting LINKCHK starts 64 timing exchanges on every peer port that is up. -/
  | linkCheckStart (c : Ctx) (v : Nat)
  /-- TIMING_BLOCK_RX (R443). A VC1 timing block (REQ, RSP, FOLLOW_D or FOLLOW_S) is received; a REQ is answered and completed exchanges are recorded. -/
  | timingBlockRx (p : Fin 8) (b : Vc1Block) (stamp : Nat)
  /-- TIMING_EXCHANGE_TIMEOUT (R443). An exchange that is not complete within 10 µs of its REQ is dropped. -/
  | timingExchangeTimeout (p : Fin 8)
  /-- LINK_CHECK_DONE (R60). The link check ends: medians are stored, REG_STATE becomes CHECKED or MISMATCH, and LINK_CHECKED is produced. -/
  | linkCheckDone
  /-- ALARM_WRITE (R65). A write to an alarm's ENABLE, index or period takes effect from the next fabric cycle and sets its arming cycle. -/
  | alarmWrite (c : Ctx) (n : Fin 16) (w : Fin 4) (v : Nat)
  /-- ALARM_FIRE (R63). An enabled alarm fires at its index, or late in its arming cycle, and produces its event; a periodic alarm advances by its period. -/
  | alarmFire (n : Fin 16)
  /-- NOP (R75). Sequencer instruction that does nothing but uses one issue. -/
  | nop (k : Fin 576)
  /-- BLOCK (R80). Sequencer instruction that presents a block to the budget scheduler with a candidate start index. -/
  | block (k : Fin 576)
  /-- BLOCK_START (R305). An admitted block reaches its start index; its energy vector is charged to the ledgers and BLOCK_START is produced. -/
  | blockStart (k : Fin 576)
  /-- BLOCK_REPRESENT (R312). A deferred block is presented again with candidate T0 + 32 × L_def once it lies within 8,192 samples of the issue index. -/
  | blockRepresent (k : Fin 576)
  /-- END (R92). Sequencer instruction that closes the block and takes the sequencer to STOPPED. -/
  | endBlock (k : Fin 576)
  /-- YIELD (R84). Sequencer instruction that ends an alternate and presents the deferred block again, or acts as END. -/
  | yieldBlock (k : Fin 576)
  /-- GOTO (R92). Sequencer instruction that jumps to its target address. -/
  | goto (k : Fin 576)
  /-- LOOP (R550). Sequencer instruction that sets REMAIN of its loop counter to COUNT. -/
  | loop (k : Fin 576)
  /-- ENDL (R550). Sequencer instruction that decrements its counter and jumps to TARGET, or falls through. -/
  | endl (k : Fin 576)
  /-- JCOND (R111). Sequencer instruction that stalls until the verdict is known, then issues together with the first instruction of the chosen path. -/
  | jcond (k : Fin 576)
  /-- ARMD (R106). Sequencer instruction that discards the old verdict, arms a lane or gate condition and latches qualifying words. -/
  | armd (k : Fin 576)
  /-- WAIT (R92). Sequencer instruction that advances T by COUNT and may announce idle time to calibration. -/
  | wait (k : Fin 576)
  /-- PLAY (R144). Sequencer instruction that starts a galley or stream segment on a voice at T. -/
  | play (k : Fin 512)
  /-- CPLAY (R109). Sequencer instruction that plays SEGA or SEGB according to the verdict V. -/
  | cplay (k : Fin 512)
  /-- SETF (R126). Sequencer instruction that sets a carrier's frequency word from index T. -/
  | setf (k : Fin 512)
  /-- SETP (R126). Sequencer instruction that sets or adds to a carrier's phase offset from index T. -/
  | setp (k : Fin 512)
  /-- SETPORT (R169). Sequencer instruction that stages a mode, bias or voice binding for its port at T. -/
  | setport (k : Fin 512)
  /-- STROBE (R95). Sequencer instruction that makes a forme load strobe at T, applying every value staged to all eight ports. -/
  | strobe (k : Fin 512)
  /-- MARK (R153). Sequencer instruction that sets a marker bit over [T + OFFSET, T + OFFSET + LENGTH). -/
  | mark (k : Fin 512)
  /-- EMIT (R92). Sequencer instruction that produces an event on output OUT stamped at T, with LATE when it issues late. -/
  | emit (k : Fin 576)
  /-- WIN (R97). Read-out instruction that opens an integration window on the chosen tones, or is refused on overlap. -/
  | win (i : Fin 64)
  /-- CAPT (R186). Read-out instruction that starts a raw capture, or is not started for want of units or enable. -/
  | capt (i : Fin 64)
  /-- CAPTURE_END (R188). A capture reaches its end or cut index, and its header line is written after its data. xs, where given, are the
samples of the current word as in ADC_OVR; errs the errors that the next word to leave the capture buffer has taken (R391). -/
  | captureEnd (i : Fin 64) (xs : List Int) (errs : List (Nat × Nat))
  /-- UNDERRUN_ABORT (R88). After an underrun in a block with UPOL set, the sequencer and its gang enter ABORTED at the block's end index. -/
  | underrunAbort (k : Fin 576)
  /-- JUMP_TAKE_EFFECT (R100). A pending jump takes effect at the first boundary past its commit point: the block ends, later actions are withdrawn and the target is presented. -/
  | jumpTakeEffect (k : Fin 576)
  /-- SAFE_INTERVAL_END (R172). A safe interval ends; the new setting comes into force, MUTE is entered or left, and the bias DAC starts toward its code. -/
  | safeIntervalEnd (p : Fin 512)
  /-- CARRIER_FREQ_COMMIT (R126). A write to FREQ_HI commits a carrier's FREQ and PHMODE. -/
  | carrierFreqCommit (c : Ctx) (f : Fin 64) (n : Fin 32) (v : Nat)
  /-- CARRIER_OFS_COMMIT (R126). A write to OFS_HI commits a carrier's phase offset. -/
  | carrierOfsCommit (c : Ctx) (f : Fin 64) (n : Fin 32) (v : Nat)
  /-- SEG_LOAD (R138). Command that writes a segment header and data to the galley and makes it RESIDENT. -/
  | segLoad (c : Ctx) (f : Nat) (seg : Nat) (home : Nat) (h : SegHead) (data : List Byte)
  /-- LIB_STORE (R138). Command that writes a library image to DRAM. -/
  | libStore (c : Ctx) (line : Nat) (h : SegHead) (data : List Byte)
  /-- SEG_BIND (R139). Command that reads a library header and makes a segment KNOWN with its bound SQ. -/
  | segBind (c : Ctx) (f : Nat) (seg : Nat) (home : Nat) (line : Nat)
  /-- SEG_FETCH (R139). Command that queues the fetch of a KNOWN segment. -/
  | segFetch (c : Ctx) (f : Nat) (seg : Nat)
  /-- SEG_FREE (R138). Command that sets a segment EMPTY. -/
  | segFree (c : Ctx) (f : Nat) (seg : Nat)
  /-- SEG_INFO (R138). Command that replies with a segment's directory entry. -/
  | segInfo (c : Ctx) (f : Nat) (seg : Nat)
  /-- FETCH_START (R143). The next queued fetch starts once the one before it ends and its home lines are not pinned. -/
  | fetchStart (f : Fin 64)
  /-- FETCH_DONE (R141). A fetch completes; SQ is computed, the segment becomes RESIDENT and energies are recomputed. -/
  | fetchDone (f : Fin 64)
  /-- RING_BASE_WRITE (R134). A write of GAL_CTRL.RING_BASE re-splits the galley and zeroes lines whose class changed. -/
  | ringBaseWrite (c : Ctx) (f : Fin 64) (v : Nat)
  /-- RING_CONFIG_WRITE (R146). A write of a ring's configuration; setting EN zeroes RD and WR. -/
  | ringConfigWrite (c : Ctx) (f : Fin 64) (n : Fin 16) (w : Fin 2) (v : Nat)
  /-- REFILL_PACKET (R148). A VC2 refill packet is judged whole against the ring and accepted or discarded. -/
  | refillPacket (p : RawPacket)
  /-- MARKER_CTRL_WRITE (R156). A write to FM_MK_CTRL changes SEL, INV and TRIM from the landing cycle. -/
  | markerCtrlWrite (c : Ctx) (f : Fin 64) (v : Nat)
  /-- OP_MODE_WRITE (R163). A write to OP_MODE stages a setting, or is refused with BUSY when it would raise P_FS while CSp runs. -/
  | opModeWrite (c : Ctx) (p : Fin 512) (v : Nat)
  /-- FORME_STROBE_WRITE (R170). Writing 1 to FM_STROBE.GO makes a strobe at the landing cycle. -/
  | formeStrobeWrite (c : Ctx) (f : Fin 64) (v : Nat)
  /-- OUTPUT_ENABLE (R175). Command that sets ENABLED for the formes of its mask. -/
  | outputEnable (c : Ctx) (mask : Nat)
  /-- MUTE_ALL (R176). Urgent command that clears ENABLED and LIVE and takes every port to MUTE through a safe interval. -/
  | muteAll (c : Ctx)
  /-- IP_CTRL_WRITE (R183). A write to IP_CTRL sets RANGE and CAPDEC, or is refused with BUSY when RANGE would change during an open window. -/
  | ipCtrlWrite (c : Ctx) (i : Fin 64) (v : Nat)
  /-- ADC_OVR (R184). A corrected code at full scale sets ADC_OVR and marks the windows and captures that hold it CLIP: xs are the
corrected samples x[n] of the current word, the first first. -/
  | adcOvr (i : Fin 64) (xs : List Int)
  /-- CAP_CTRL_WRITE (R187). A write that sets IP_CAP_CTRL.EN is checked against the BARE class of the capture area. -/
  | capCtrlWrite (c : Ctx) (i : Fin 64) (v : Nat)
  /-- DECIMATED_SAMPLE (R199). A decimated sample enters the lane's buffer, or is discarded with LAG when the buffer is full. xs, where
given, are the input samples of the current word as in ADC_OVR. -/
  | decimatedSample (l : Fin 1024) (xs : List Int)
  /-- DEMOD_PROGRAM_START (R200). A lane's program starts for a window after the previous result is latched and its first sample has arrived. -/
  | demodProgramStart (l : Fin 1024)
  /-- DEMOD_NOP (R201). Demodulation instruction that does nothing. -/
  | demodNop (l : Fin 1024)
  /-- DEMOD_MAC (R203). Demodulation instruction that accumulates sample times kernel, with saturation. -/
  | demodMac (l : Fin 1024)
  /-- DEMOD_SKIP (R201). Demodulation instruction that discards COUNT samples. -/
  | demodSkip (l : Fin 1024)
  /-- DEMOD_REP (R204). Demodulation instruction that runs the next LEN instructions COUNT times from the repeat cache. -/
  | demodRep (l : Fin 1024)
  /-- DEMOD_SETKP (R202). Demodulation instruction that sets the kernel pointer. -/
  | demodSetkp (l : Fin 1024)
  /-- DEMOD_SETPS (R201). Demodulation instruction that sets the pre-shift. -/
  | demodSetps (l : Fin 1024)
  /-- DEMOD_ADD (R201). Demodulation instruction that adds or subtracts a shifted accumulator. -/
  | demodAdd (l : Fin 1024)
  /-- DEMOD_CLR (R201). Demodulation instruction that clears an accumulator and its SAT bit. -/
  | demodClr (l : Fin 1024)
  /-- DEMOD_END (R206). Demodulation instruction that latches the result accumulator and discards the rest of the window. -/
  | demodEnd (l : Fin 1024)
  /-- FINISH_STEP (R207). At the finish step the result goes to the discriminator; the state is formed, the record written and the decision word placed. -/
  | finishStep (l : Fin 1024)
  /-- RECORD_MOVE (R217). The record mover moves records from the ring to a bulk packet or the spool once credit, session or spool room allows. -/
  | recordMove (i : Fin 64)
  /-- KERN_LOAD (R222). Command that writes complex taps into an input's kernel store. -/
  | kernLoad (c : Ctx) (i : Nat) (first : Nat) (taps : List (Int × Int))
  /-- DPROG_LOAD (R208). Command that writes the demodulation program store. -/
  | dprogLoad (c : Ctx) (i : Nat) (first : Nat) (words : List Nat)
  /-- DPROG_REG_WRITE (R208). A REG_WRITE of IP_DPROG_a is checked and refused while a window is open. -/
  | dprogRegWrite (c : Ctx) (i : Fin 64) (a : Fin 256) (v : Nat)
  /-- KERN_READ (R466). Command that reads kernel taps. -/
  | kernRead (c : Ctx) (i : Nat) (first : Nat) (count : Nat)
  /-- VC1_BLOCK_SEND (R234). The next queued VC1 block is sent in a reserved slot. -/
  | vc1BlockSend (p : Fin 8)
  /-- DECISION_FRAME_RX (R236). A decision frame is received, checked, and delivered to XDc and forwarded, or dropped. -/
  | decisionFrameRx (p : Fin 8) (b : Vc1Block)
  /-- REVOKE_FRAME_RX (R246). A revoke frame taints the received words of its channel from DUE on and is forwarded. -/
  | revokeFrameRx (p : Fin 8) (b : Vc1Block)
  /-- VC1_TAG_FRAME_RX (R495). A VC1 tag frame is received, and the tags of its blocks are verified. -/
  | vc1TagFrameRx (p : Fin 8) (t : TagFrame)
  /-- TAG_TIMEOUT (R495). No tag arrives within 8,192 samples of a VC1 block acted on, which is a tag failure. -/
  | tagTimeout (p : Fin 8)
  /-- TRIGGER_EDGE (R249). An edge at a trigger input is stamped and presented, held or counted in OVER. -/
  | triggerEdge (t : Fin 16) (rising : Bool) (stamp : Nat)
  /-- HELD_EDGE_PRESENT (R249). A held edge event is presented in the fabric cycle that holds its stamp. -/
  | heldEdgePresent (t : Fin 16)
  /-- DT_WRITE (R251). A write to a decision threshold unit's registers clears its history. -/
  | dtWrite (c : Ctx) (u : Fin 16) (v : Nat)
  /-- TG_ARM (R256). Setting ARM arms or rearms a trigger engine: counters clear, timers stop, state S0. -/
  | tgArm (c : Ctx) (n : Fin 16) (v : Nat)
  /-- TG_DISARM (R256). Clearing ARM takes a trigger engine to IDLE and drops its actions still to come. -/
  | tgDisarm (c : Ctx) (n : Fin 16) (v : Nat)
  /-- TRIGGER_TRANSITION (R253). A trigger engine takes its main or escape transition on eligible conditions, with actions produced in the next cycle. -/
  | triggerTransition (n : Fin 16)
  /-- TRIGGER_TIMER_EXPIRE (R254). A started timer of an engine reaches its expiry and its level condition becomes true. -/
  | triggerTimerExpire (n : Fin 16) (m : Fin 4)
  /-- HOLDOFF_END (R259). An engine's hold-off ends by time or by event count. -/
  | holdoffEnd (n : Fin 16)
  /-- TG_CAPTURE_START (R260). A capture started by a FIRE begins at f + 768 + CAP_DLY, or is not started. -/
  | tgCaptureStart (n : Fin 16)
  /-- EVENT_FRAME_RX (R267). An event frame is received, forwarded and handed to the matching remote event producers. -/
  | eventFrameRx (p : Fin 8) (b : Vc1Block)
  /-- REMOTE_EVENT_DELIVER (R268). A held remote event is produced at its due index D, or late on arrival. -/
  | remoteEventDeliver (j : Fin 16)
  /-- CHANNEL_ACTIVATION (R275). Events presented to a channel in one cycle form one activation in the next router cycle and reach its consumers. -/
  | channelActivation (n : Fin 256)
  /-- EV_INJECT (R286). A write to EV_INJECT presents host-injection events. -/
  | evInject (c : Ctx) (v : Nat)
  /-- LOOP_UNMUTE (R281). Writing 1 to a bit of EV_LOOPCH unmutes that channel from the next router cycle. -/
  | loopUnmute (c : Ctx) (w : Fin 8) (v : Nat)
  /-- EVC_CLEAR (R290). Writing CLR sets a counter's count to 0 before the additions of that cycle. -/
  | evcClear (c : Ctx) (n : Fin 64) (v : Nat)
  /-- EVC_SNAPSHOT (R289). Writing SNAP copies the count and stamp into EVC_SNAP and EVC_SNAPT. -/
  | evcSnapshot (c : Ctx) (n : Fin 64) (v : Nat)
  /-- LEDGER_COMMIT (R295). Writing COMMIT checks and applies a ledger's staged parameters. -/
  | ledgerCommit (c : Ctx) (j : Fin 18) (v : Nat)
  /-- LEDGER_ENABLE (R296). A CFG write that changes EN enables a ledger, zeroing H and U, or disables it. -/
  | ledgerEnable (c : Ctx) (j : Fin 18) (v : Nat)
  /-- BUD_SEAL (R299). Setting BUD_CTRL.SEAL locks DIE, PKG and BUD_ESAMP until reset. -/
  | budSeal (c : Ctx) (v : Nat)
  /-- LEDGER_STALE (R317). A ledger passes its measurement deadline; STALE is set and an event produced. -/
  | ledgerStale (j : Fin 18)
  /-- BENCH_RUN_SET (R334). Setting RUN starts a bench pass in CONT or SINGLE mode. -/
  | benchRunSet (c : Ctx) (v : Nat)
  /-- BENCH_RUN_CLEAR (R335). Clearing RUN ends the pass at the next bench tick and abandons the visit in flight. -/
  | benchRunClear (c : Ctx) (v : Nat)
  /-- BREAK (R325). A visit begins with Break: the switches of the previous point open and its excitation goes to zero. -/
  | benchBreak
  /-- DISCHARGE (R325). Break ends and Discharge ties the converter input and leads to ground for BN_DISCH. -/
  | benchDischarge
  /-- LEAD_CHECK (R325). Discharge ends and the four leads of a BX point are checked for opens. -/
  | benchLeadCheck (opens : Bool)
  /-- MAKE (R325). The switches of the new point close. -/
  | benchMake
  /-- EXCITATION_ON (R325). At the end of Make the excitation is applied at positive polarity and the modulator warms up. -/
  | excitationOn
  /-- WARM_UP_END (R326). The 200 µs modulator warm-up ends and conversions begin. -/
  | warmUpEnd
  /-- CONVERSION_END (R328). A conversion's aperture ends; it is discarded or summed, may reverse the excitation, and may complete the visit's entry. -/
  | conversionEnd (code : Int)
  /-- EXC_MONITOR_CHECK (R332). Every 100 µs the excitation monitor checks source and sense, and may end the visit with a fault. -/
  | excMonitorCheck (vsrc : Rat) (imon : Rat) (vsense : Rat)
  /-- BN_EXC_WRITE (R331). A write to BN_PTn_EXC during the point's visit aborts the conversion and restarts settling. -/
  | bnExcWrite (c : Ctx) (n : Fin 32) (v : Nat)
  /-- BN_CONV_WRITE (R337). A write to BN_PTn_CONV is checked for curve and excitation pairing and applies at the next visit. -/
  | bnConvWrite (c : Ctx) (n : Fin 32) (v : Nat)
  /-- MAINS_EDGE (R327). A rising edge at MAINS_SENSE updates the tracked PLC length. -/
  | mainsEdge (tick : Nat)
  /-- MAINS_TIMEOUT (R327). No mains edge for 50 ms sets MAINS_LOST and reverts the PLC to 200,000 ticks. -/
  | mainsTimeout
  /-- BENCH_CAL_VISIT (R336). A calibration visit is inserted between two bench passes. -/
  | benchCalVisit
  /-- BENCH_RING_READ (R341). Command that returns bench ring entries and advances BN_RING_RD. -/
  | benchRingRead (c : Ctx) (count : Nat)
  /-- CURVE_LOAD (R341). Command that checks a user curve, writes it to the plate store and seals it. -/
  | curveLoad (c : Ctx) (image : List Byte)
  /-- CURVE_READ (R341). Command that returns a user curve image and its seal. -/
  | curveRead (c : Ctx) (n : Nat)
  /-- CAL_STEP_START (R357). The calibration engine starts a step in a slot for the oldest due class. -/
  | calStepStart (d : Fin 9)
  /-- CAL_STEP_DONE (R360). A calibration step completes and is accepted into the bracketing sets, or rejected. -/
  | calStepDone (d : Fin 9) (m : CalMeas)
  /-- CAL_DUE (R368). An instance passes 744 hours without an accepted step, and its CAL_DUE bit is set. -/
  | calDue (n : Nat)
  /-- CAL_COMMIT_PERIOD (R366). At each CAL_COMMITPER period a changed set is committed, or COMMIT_PENDING is set. -/
  | calCommitPeriod
  /-- CAL_REFV_COMMIT (R355). A write to CAL_REFV_HI commits REFV and its uncertainty and clears NOREF. -/
  | calRefvCommit (c : Ctx) (v : Nat)
  /-- CAL_SEAL (R367). Setting CAL_CTRL.SEAL locks REFV, periods, limits and IDLECAL until reset. -/
  | calSeal (c : Ctx) (v : Nat)
  /-- CAL_SET_READ (R367). Command that returns a sealed calibration set and its signature. -/
  | calSetRead (c : Ctx) (n : Nat)
  /-- CAL_TPOINT (R362). Command that adds or removes a calibration set. -/
  | calTpoint (c : Ctx) (n : Nat) (t : Nat)
  /-- CAL_RUN (R367). Command that marks instances due at once. -/
  | calRun (c : Ctx) (mask : Nat) (first : Nat) (last : Nat)
  /-- CAL_COMMIT (R366). Command that commits calibration sets now. -/
  | calCommit (c : Ctx) (mask : Nat)
  /-- CAL_XFER (R367). Command that schedules a comparison of RINT with an external standard. -/
  | calXfer (c : Ctx) (n : Nat) (v : Nat) (u : Nat)
  /-- CAL_XFER_DONE (R367). The RINT transfer comparison completes in a bench gap and its notice is sent. -/
  | calXferDone (r : Option Nat)
  /-- MEM_READ (R399). Command that reads DRAM lines. -/
  | memRead (c : Ctx) (first : Nat) (count : Nat)
  /-- MEM_WRITE (R382). Command that writes DRAM bytes, whole lines directly and part lines into the merge buffer. -/
  | memWrite (c : Ctx) (addr : Nat) (data : List Byte)
  /-- MEM_SETCLASS (R376). Command that rewrites granules under a new protection class. -/
  | memSetclass (c : Ctx) (first : Nat) (count : Nat) (cls : Nat)
  /-- SETCLASS_DONE (R376). The class rewrite completes and the final reply is sent. -/
  | setclassDone
  /-- MEM_THAW (R390). Command that resumes a frozen DRAM controller, optionally rewriting the failing line. -/
  | memThaw (c : Ctx) (action : Nat)
  /-- MEM_DIAG (R399). Command that returns a line as stored with its check bytes and syndrome. -/
  | memDiag (c : Ctx) (line : Nat)
  /-- MEM_REPAIR_ADD (R397). Command that records a DRAM repair entry in the fuse map. -/
  | memRepairAdd (c : Ctx) (r : Repair)
  /-- MEM_SCRUB_NOW (R399). Command that scrubs the named granules at once. -/
  | memScrubNow (c : Ctx) (first : Nat) (count : Nat)
  /-- MERGE_TIMEOUT (R382). A merge entry that has stood MEM_MERGE_TMO cycles is written by read-modify-write. -/
  | mergeTimeout (n : Nat)
  /-- DRAM_READ_RETURN (R386). DRAM read data return and are decoded: delivered, corrected, or the controller freezes. -/
  | dramReadReturn (pc : Fin 64) (errs : List (Nat × Nat))
  /-- CA_PARITY_ERROR (R387). A stack reports a command and address parity error, which freezes the controller. -/
  | caParityError (st : Fin 2) (ch : Fin 16)
  /-- DRAM_NO_RESPONSE (R387). A stack returns no data within 256 cycles of a read, which freezes the controller. -/
  | dramNoResponse (pc : Fin 64)
  /-- REFRESH_DUE (R385). A t_REFI elapses for a pseudo-channel, raising its refresh debt and forcing a refresh at debt 8. -/
  | refreshDue (pc : Fin 64)
  /-- STACK_TEMP_REPORT (R384). Every 1 ms a stack's temperature report sets the refresh rate and STACK_HOT. -/
  | stackTempReport (st : Fin 2) (t : Nat)
  /-- SCRUB_READ (R393). The DRAM scrub reads the next line in a free slot and queues any correction for write-back. -/
  | scrubRead
  /-- SRAM_SCRUB (R395). An SRAM macro is scrubbed in an idle port cycle, and corrected words are rewritten. -/
  | sramScrub (region : Nat) (inst : Nat) (word : Nat) (errs : List (Nat × Nat))
  /-- LN_PORT_ENABLE (R408). Setting LN_PCTL.EN starts a port's transmit and receive sides. -/
  | lnPortEnable (c : Ctx) (p : Fin 8) (v : Nat)
  /-- LN_PORT_DISABLE (R408). Clearing LN_PCTL.EN returns the port to electrical idle. -/
  | lnPortDisable (c : Ctx) (p : Fin 8) (v : Nat)
  /-- SIGNAL_DETECT (R409). Signal detect asserts on a lane, which goes to SEARCH or CDR. -/
  | signalDetect (n : Fin 72)
  /-- SIGNAL_LOSS (R409). Loss of signal detect returns a lane to NOSIG. -/
  | signalLoss (n : Fin 72)
  /-- CDR_LOCK (R409). Clock recovery locks and the lane enters HUNT. -/
  | cdrLock (n : Fin 72)
  /-- CDR_UNLOCK (R409). Loss of clock recovery lock returns the lane to CDR. -/
  | cdrUnlock (n : Fin 72)
  /-- EQ_SEARCH_STEP (R417). After 50 µs at one CTLE value the eye margin is measured and the next value set; the search ends with the best value. -/
  | eqSearchStep (n : Fin 72) (margin : Nat)
  /-- LANE_BLOCK_RX (R410). A 66-bit block is received; its header drives HUNT and LOCKED, and control blocks are sorted. -/
  | laneBlockRx (n : Fin 72) (hdr : Nat) (body : Nat)
  /-- ALIGN_BLOCK_RX (R412). An ALIGN block places and deskews a lane, and the port state is judged. -/
  | alignBlockRx (n : Fin 72) (b : AlignBlock)
  /-- ALIGN_TIME (R407). Every 16,384 block times all nine pairs send ALIGN, and any pending lane move to the spare is made. -/
  | alignTime (p : Fin 8)
  /-- LN_CTL_WRITE (R416). A write to LN_CTL sets equaliser, swing, polarity, loop, test pattern and TXOFF, or is refused on a placed lane. -/
  | lnCtlWrite (c : Ctx) (n : Fin 72) (v : Nat)
  /-- LK_ROLE_WRITE (R425). A write of LK_PCTL.ROLE, refused unless the port is disabled. -/
  | lkRoleWrite (c : Ctx) (p : Fin 8) (v : Nat)
  /-- DEVID_WRITE (R436). A write of LK_DEVID, refused while any port is enabled. -/
  | devidWrite (c : Ctx) (v : Nat)
  /-- LINIT_SEND (R435). In INIT a LINIT block is sent every 1 µs. -/
  | linitSend (p : Fin 8)
  /-- LINIT_RX (R435). A LINIT block is received; INIT completes to UP or ATTEST, or ROLEMIS is set. -/
  | linitRx (p : Fin 8) (b : LinitBlock)
  /-- HELLO_RX (R491). A peer's attestation HELLO is received and checked. -/
  | helloRx (p : Fin 8) (h : Hello)
  /-- FINISH_RX (R492). A peer's FINISH is received; attestation succeeds to UP with link keys, or fails to HALT. sigOk says
whether its signature verifies under the identity key of the HELLO. -/
  | finishRx (p : Fin 8) (f : Finish) (sigOk : Bool)
  /-- ATTEST_TIMEOUT (R492). Attestation not complete within 100 ms fails and takes the link to HALT. -/
  | attestTimeout (p : Fin 8)
  /-- FRAME_SEND (R437). A frame is sent when a credit of its channel and replay room allow. -/
  | frameSend (p : Fin 8)
  /-- FRAME_RX (R438). A frame is received; a good expected frame is delivered, otherwise retry begins. -/
  | frameRx (p : Fin 8) (f : Frame)
  /-- LINK_BLOCK_SEND (R433). A LINK block is sent after 64 non-reserved slots, or when no frame waits. -/
  | linkBlockSend (p : Fin 8)
  /-- LINK_BLOCK_RX (R437). A LINK block returns credits and acknowledges frames. -/
  | linkBlockRx (p : Fin 8) (b : LinkBlock)
  /-- RETRY_RX (R440). A RETRY rewinds the transmitter to the named frame. -/
  | retryRx (p : Fin 8) (n : Nat)
  /-- RETRY_RESEND (R439). In PENDING, a further RETRY is sent after 1 µs without the expected frame. -/
  | retryResend (p : Fin 8)
  /-- GIVEUP (R439). 4 µs after the first RETRY the receiver gives up and sends SPARE or RESET. -/
  | giveup (p : Fin 8)
  /-- RETRY1_RX (R441). A RETRY1 requeues the VC1 block of the named reserved slot, or counts V1LOST. -/
  | retry1Rx (p : Fin 8) (v : Nat)
  /-- SPARE_RX (R442). A SPARE makes the transmitter skip the logical lane, rewind, and move it to the spare at the next alignment time. -/
  | spareRx (p : Fin 8) (lane : Nat)
  /-- SPARE_RESEND (R442). SPARE is repeated every 1 µs until the lane has moved. -/
  | spareResend (p : Fin 8)
  /-- RESET_BLOCK_RX (R434). A RESET block takes the link to DOWN. -/
  | resetBlockRx (p : Fin 8)
  /-- LINK_TIMEOUT (R434). No valid LINK or LINIT block for 8 µs takes the link to DOWN. -/
  | linkTimeout (p : Fin 8)
  /-- LINK_RESTART (R434). Writing 1 to LK_PCTL.RESTART takes a halted link to DOWN. -/
  | linkRestart (c : Ctx) (p : Fin 8) (v : Nat)
  /-- LINK_STATS (R466). Command that returns a port's link registers latched in one cycle. -/
  | linkStats (c : Ctx) (p : Nat)
  /-- COMMAND_PACKET (R451). A command packet arrives and is judged: tag, length, sequence, destination, opcode, flags. -/
  | commandPacket (p : RawPacket)
  /-- COMMAND_ACCEPT (R452). The engine takes up the next checked packet in arrival order and runs its routine. -/
  | commandAccept
  /-- COMMAND_TIMEOUT (R460). A routine reaching its maximum time stops at a step boundary and replies TIMEOUT. -/
  | commandTimeout
  /-- URGENT_PREEMPT (R463). An urgent packet preempts the running routine at a case-word boundary and runs in the shadow bank. -/
  | urgentPreempt
  /-- ROUTINE_RESUME (R463). After an urgent routine the preempted routine resumes at its case word. -/
  | routineResume
  /-- IDENTIFY (R466). Command that returns IDENT, REVISION, DEVID, MC_VERSION and serial number. -/
  | identify (c : Ctx)
  /-- ECHO (R466). Command that returns its payload. -/
  | echo (c : Ctx) (data : List Byte)
  /-- SUMMARY (R466). Command that returns six status registers and the sample index. -/
  | summary (c : Ctx)
  /-- PROG_LOAD (R113). Command that checks and loads pulse program instructions and recomputes block energies. -/
  | progLoad (c : Ctx) (kind : Nat) (n : Nat) (first : Nat) (ins : List Nat)
  /-- PROG_READ (R466). Command that reads pulse program instructions. -/
  | progRead (c : Ctx) (kind : Nat) (n : Nat) (first : Nat) (count : Nat)
  /-- RUN_START (R114). Command that enters named sequencers into PENDING with a start index. -/
  | runStart (c : Ctx) (x : Nat) (es : List RunEntry)
  /-- RUN_JUMP (R101). Command that makes a jump request to a BLOCK target. -/
  | runJump (c : Ctx) (k : Nat) (tgt : Nat)
  /-- RUN_STATUS (R466). Command that returns the STATE of every sequencer. -/
  | runStatus (c : Ctx)
  /-- BUD_BLOCKINFO (R466). Command that returns a block's E, N_act and energy vector. -/
  | budBlockinfo (c : Ctx) (k : Nat) (addr : Nat)
  /-- BUD_ATTN_WRITE (R303). Command that writes one attenuation table row in one cycle. -/
  | budAttnWrite (c : Ctx) (p : Nat) (row : List Nat)
  /-- STOP (R115). Urgent command that stops named sequencers and trigger engines. -/
  | stop (c : Ctx) (cs : Nat) (rs : Nat) (tg : Nat)
  /-- ABORT (R467). Urgent command that stops the session's resources, cancels its TIMED commands and its routine. -/
  | abort (c : Ctx)
  /-- SPI_PUT (R472). MGMT SPI transaction that shifts in one command packet. -/
  | spiPut (p : RawPacket)
  /-- SPI_GET (R472). MGMT SPI transaction that shifts out the next reply or notice. -/
  | spiGet
  /-- SPI_STAT (R472). MGMT SPI transaction that shifts out the status byte. -/
  | spiStat
  /-- MC_LOAD_BEGIN (R476). Command that discards any staged microcode and sets LOADING. -/
  | mcLoadBegin (c : Ctx) (len : Nat)
  /-- MC_LOAD_DATA (R476). Command that writes bytes into the microcode stage. -/
  | mcLoadData (c : Ctx) (ofs : Nat) (data : List Byte)
  /-- MC_LOAD_COMMIT (R476). Command that verifies the staged image and writes it to the plate store. -/
  | mcLoadCommit (c : Ctx) (sigOk : Bool)
  /-- MC_INFO (R466). Command that returns the microcode version registers. -/
  | mcInfo (c : Ctx)
  /-- SESSION_OPEN (R483). Command that opens a session with owner signature and derives its keys. -/
  | sessionOpen (c : Ctx) (r : OpenReq)
  /-- SESSION_CLOSE (R486). Command that closes the sender's session. -/
  | sessionClose (c : Ctx) (n : Nat)
  /-- OWNER_ENROLL (R481). Command that enrols the owner key once and closes every session. -/
  | ownerEnroll (c : Ctx) (key : List Byte) (sigOk : Bool)
  /-- RES_SEAL (R499). Command that sets resources to the sending session with an attribute. -/
  | resSeal (c : Ctx) (kind : Nat) (attr : Nat) (first : Nat) (count : Nat)
  /-- RES_RELEASE (R499). Command that returns resources to FIRMWARE. -/
  | resRelease (c : Ctx) (kind : Nat) (attr : Nat) (first : Nat) (count : Nat)
  /-- CERT_READ (R509). Command that returns one certificate of the identity chain. -/
  | certRead (c : Ctx) (n : Nat)
  /-- COLOPHON_READ (R509). Command that returns colophons from the ring. -/
  | colophonRead (c : Ctx) (count : Nat) (peek : Bool)
  /-- ATTEST (R508). Command that returns a signed attestation statement. -/
  | attest (c : Ctx) (nonce : List Byte)
  /-- COLOPHON_SIGNED (R503). A colophon is signed and written to the colophon ring. -/
  | colophonSigned
  /-- COLOPHON_DEFERRED_ISSUE (R503). A deferred colophon is issued once the queue or ring has room. -/
  | colophonDeferredIssue (l : Fin 1024)
  /-- RESET_ASSERT (R516). RESET_N falls for 1 µs or more: ports mute, lanes go idle and volatile state is lost. -/
  | resetAssert (ns : Nat)
  /-- RESET_RELEASE (R519). RESET_N rises and start-up begins with the fuse read. -/
  | resetRelease
  /-- STARTUP_FUSES (R519). Stage 1 completes: the fuse map is read and verified. -/
  | startupFuses (ok : Bool)
  /-- STARTUP_CLOCKS (R519). Stage 2 completes: the PLLs lock and SAMPLECOUNT begins. -/
  | startupClocks (ok : Bool) (laneOk : Bool)
  /-- CLOCK_LOCK_TIMEOUT (R519). A PLL not locked within 2 ms stops start-up with code 2. -/
  | clockLockTimeout
  /-- STARTUP_SENSORS (R519). Stage 3 completes: the sensors are cross-checked and the offsets set. -/
  | startupSensors (reads : List (List (Option Nat)))
  /-- STARTUP_MEMORY (R396). Stage 4 completes: repairs, training, checker test and memory fill. -/
  | startupMemory (ok : Bool) (checkers : Bool)
  /-- STARTUP_SECURITY (R519). Stage 5 completes: entropy tests, BOOTNONCE, and key and certificate checks. -/
  | startupSecurity (r : SecStart)
  /-- PROOF (R520). Stage 6 completes: island crossings are measured and sample words aligned. -/
  | proof (ok : Bool)
  /-- STARTUP_CALIBRATION (R521). Stage 7 completes: calibration seals are verified and sets loaded. -/
  | startupCalibration (pass : List Nat)
  /-- STARTUP_MICROCODE (R477). Stage 8 completes: microcode is loaded and checked, or the factory image runs. -/
  | startupMicrocode (sigOk : Bool) (romOk : Bool)
  /-- RELEASE (R519). Chain heads are formed, registers take their reset values and the command engine is released. -/
  | release (us : Nat)
  /-- SENSOR_READ (R526). Every 100 µs all sensors are read and cross-checked, and TJ is published. -/
  | sensorRead (ts : List (Option Nat))
  /-- SYNTHETIC_UNDECIDED_WORD (R242). In every fabric cycle while a port is down, each enabled remote slot accepted on it receives a synthetic UNDECIDED word with A equal to the cycle's issue index plus 64, which ARMD may latch and DT units count and activate on. -/
  | syntheticUndecidedWord (p : Fin 8)
  /-- DRAM_COMMAND_SLOT (R379). In each command slot every pseudo-channel switches between READ and WRITE mode and issues one precharge, activate, read or write command from its bank queues in rotation order, closing rows under R380. -/
  | dramCommandSlot
  /-- COMMITTED_STEP (R464). A sort with COMMIT set closes a committed step of the running routine, and the sort that ends the routine sends its final reply. -/
  | committedStep
  deriving DecidableEq, Repr

end Sys2Proof
end

