-- ==== Sys2Proof/Decode.lean ====
section
/-! DEFINITION. The table's words. spec/opcode_table.json gives none of its rows any bits, so no word spells a command. The
encodings that the device itself decodes (sequencer and demodulation instructions, packet headers and payloads) stand in
Machine/SeqInstr.lean, Machine/DemodInstr.lean, Machine/Layout.lean and Machine/Engine.lean. -/

namespace Sys2Proof

/-- The command that a table word of nbits bits spells: none, since no row has bits. -/
def decodeTableWord (nbits w : Nat) : Option Instr :=
  match nbits, w with
  | _, _ => none

end Sys2Proof
end

