-- ==== Sys2Proof/Config.lean ====
section
/-! DEFINITION. What the spec leaves to each device or leaves open: constants with no body, so that no proof can see
a value of them. Each is named in a row of notes/assumptions. -/

namespace Sys2Proof

/-- A free value: the n-th value that the spec leaves open in a run. -/
opaque Config.free : Nat → Nat

/-- REVISION[23:16], the minor revision, which the stepping sets (R545). -/
opaque Config.revMinor : BitVec 8

/-- REVISION[15:0], the metal step (R545). -/
opaque Config.revMetal : BitVec 16

/-- The taps of phases 1 to 512 of the resampler coefficient table LQ5164_RESAMPLER_H (R131), a data file that the
manual names and does not print; taps 0 to 14 of each phase, as 19-bit patterns. -/
opaque Config.tap : Nat → Nat → BitVec 19

/-- The device serial number, held in fuses (R545). -/
opaque Config.serial : BitVec 128

/-- BOOTNONCE of a start-up: 32 bytes drawn from the DRBG (R480). -/
opaque Config.bootNonce : Nat → BitVec 256

/-- The n-th random string that the device draws, 96 bytes: for a key, a nonce or the secret number of a signature (R480). -/
opaque Config.random : Nat → BitVec 768

/-- The kelvin temperature that the cold-junction sensor shows at a reading in volts (R321). -/
opaque Config.coldJunction : Rat → Rat

/-- The correction of a conversion's code by the bench calibration (R330), whose formula the manual does not print: the zero and
the gain of the range in force, the RANGE code and the modulator's code. -/
opaque Config.benchCorrect : Rat → Rat → Nat → Int → Int

/-- The secret number of the identity signature over the seal of shipped calibration set n (R362, R505). -/
opaque Config.shippedSig : Nat → BitVec 768

/-- The random string from which the identity's private key was generated at manufacture (R479). -/
opaque Config.identity : BitVec 768

/-- The certificates in DER: 0 leaf, 1 production, 2 root (R479, R509). -/
opaque Config.cert : Nat → List Byte

/-- MC_VERSION, MC_SECVER and MC_MINSEC as a device holds them when the model's run begins, MC_PENDING there, and the VERSION and
SECVER of the factory image in ROM (R545). -/
opaque Config.mcVersion : BitVec 32
opaque Config.mcSecver : BitVec 32
opaque Config.mcMinsec : BitVec 32
opaque Config.mcPending : BitVec 32
opaque Config.romVersion : BitVec 32
opaque Config.romSecver : BitVec 32

/-- The code that the converter of an input gives for the signal at its land, at an instant in 1/256 sample and under a RANGE
code (R182, R183), where no row brings the word. -/
opaque Config.adc : Nat → Int → Nat → BitVec 12

/-- The correction stage of an input (R182): the manual does not print its formula. Its arguments are the coefficients in force of
the gain, offset and interleave classes, the sample index and the converter's code. -/
opaque Config.adcCorrect : List Rat → Nat → BitVec 12 → Int

/-- The words of the engine's register banks (R474): what the microcode leaves in register n is not in the manual. The first
argument names the contents. -/
opaque Config.bank : Nat → Nat → BitVec 32

/-- The SRAM spare rows and columns that the fuse map records (R396). -/
opaque Config.sramSpares : BitVec 16

end Sys2Proof
end

