-- ==== Sys2Proof/Machine/Bits.lean ====
section
/-! DEFINITION. Bit fields (R5), little-endian byte strings (R6), two's complement, and the sparse maps' two
operations. -/

namespace Sys2Proof.Machine

/-- The value listed for key k. -/
def sfind {α : Type} : SMap α → Nat → Option α
  | [], _ => none
  | (a, v) :: t, k => if a = k then some v else sfind t k

/-- The value a map holds at k, d where it lists none. -/
def sget {α : Type} (d : α) (m : SMap α) (k : Nat) : α := (sfind m k).getD d

/-- The map with v at k; keys stay in rising order. -/
def sput {α : Type} : SMap α → Nat → α → SMap α
  | [], k, v => [(k, v)]
  | (a, w) :: t, k, v =>
    if k < a then (k, v) :: (a, w) :: t
    else if k = a then (k, v) :: t
    else (a, w) :: sput t k v

/-- The map with nothing listed at k. -/
def sdel {α : Type} : SMap α → Nat → SMap α
  | [], _ => []
  | (a, w) :: t, k => if a = k then sdel t k else (a, w) :: sdel t k

/-- The field [hi:lo] of a number (R5). -/
def bitsOf (n hi lo : Nat) : Nat := n / 2 ^ lo % 2 ^ (hi + 1 - lo)

/-- Bit b of a number. -/
def bitOf (n b : Nat) : Bool := n / 2 ^ b % 2 == 1

/-- A Bool as a bit. -/
def b2n (b : Bool) : Nat := if b then 1 else 0

/-- The mask of bits [hi:lo] of a register word. -/
def maskOf (hi lo : Nat) : Word := BitVec.ofNat 32 ((2 ^ (hi + 1 - lo) - 1) * 2 ^ lo)

/-- The field [hi:lo] of a register word. -/
def getField (w : Word) (hi lo : Nat) : Nat := bitsOf w.toNat hi lo

/-- The word w with x in its field [hi:lo]. -/
def putField (w : Word) (hi lo x : Nat) : Word :=
  (w &&& ~~~(maskOf hi lo)) ||| (BitVec.ofNat 32 (x % 2 ^ (hi + 1 - lo) * 2 ^ lo))

/-- Two's complement reading of the low w bits of n. -/
def toSigned (w n : Nat) : Int :=
  let m := n % 2 ^ w
  if m < 2 ^ (w - 1) then (m : Int) else (m : Int) - (2 ^ w : Nat)

/-- The two's complement pattern of z in w bits. -/
def ofSigned (w : Nat) (z : Int) : Nat := (z % ((2 ^ w : Nat) : Int)).toNat

/-- Clamp z into [lo, hi]. -/
def clampI (lo hi z : Int) : Int := if z < lo then lo else if hi < z then hi else z

/-- Little-endian bytes of n, k of them (R6). -/
def leBytes : Nat → Nat → List Byte
  | 0, _ => []
  | k + 1, n => BitVec.ofNat 8 n :: leBytes k (n / 256)

/-- The number little-endian bytes spell (R6). -/
def leNat : List Byte → Nat
  | [] => 0
  | b :: t => b.toNat + 256 * leNat t

/-- Big-endian bytes of n, k of them. -/
def beBytes (k n : Nat) : List Byte := (leBytes k n).reverse

/-- n zero bytes. -/
def zeros (n : Nat) : List Byte := List.replicate n 0

/-- The bytes [a, a + n) of a string, zeros past its end. -/
def sliceB (l : List Byte) (a n : Nat) : List Byte :=
  let x := (l.drop a).take n
  x ++ zeros (n - x.length)

/-- The little-endian number in bytes [a, a + n). -/
def fieldB (l : List Byte) (a n : Nat) : Nat := leNat ((l.drop a).take n)

/-- Rounding-up division. -/
def ceilDiv (a b : Nat) : Nat := (a + b - 1) / b

/-- Floor division of an integer by a positive number. -/
def floorDiv (a : Int) (b : Nat) : Int := Int.fdiv a b

/-- The numbers 0 to n - 1 whose bit is set in a mask. -/
def bitsSet (n mask : Nat) : List Nat := (List.range n).filter (bitOf mask)

/-- The mask with bit b set. -/
def orBit (mask b : Nat) : Nat := if bitOf mask b then mask else mask + 2 ^ b

/-- Apply an operation for each element, first to last. -/
def forAllDo {α σ : Type} (l : List α) (f : α → σ → σ) (s : σ) : σ := l.foldl (fun s a => f a s) s

/-- Run f when b holds. -/
def onlyIf {σ : Type} (b : Bool) (f : σ → σ) (s : σ) : σ := if b then f s else s

/-- Change entry n of a list. -/
def listSet {α : Type} : List α → Nat → α → List α
  | [], _, _ => []
  | _ :: t, 0, v => v :: t
  | a :: t, n + 1, v => a :: listSet t n v

/-- Insert an element behind those that are not greater. -/
def insertBy {α : Type} (le : α → α → Bool) (a : α) : List α → List α
  | [] => [a]
  | h :: t => if le h a then h :: insertBy le a t else a :: h :: t

/-- Sort a list; equal elements keep their order. -/
def sortBy {α : Type} (le : α → α → Bool) (l : List α) : List α := l.foldl (fun r a => insertBy le a r) []

/-- Consecutive groups of n from a list (fuel: at most f groups). -/
def chunksOf {α : Type} (n : Nat) : Nat → List α → List (List α)
  | 0, _ => []
  | f + 1, l => if l.isEmpty then [] else l.take n :: chunksOf n f (l.drop n)

end Sys2Proof.Machine
end

