-- ==== Sys2Proof/Machine/Regs.lean ====
section
/-! DEFINITION. The register map of R30: one name per register kind, its place (block base, instance
stride, offset), its fields, their access codes (R11) and their Reset column (R8), as the register tables at
the end of each chapter of spec/ give them; and one name for each field. -/

namespace Sys2Proof.Machine

/-- The access codes of R11. -/
inductive Acc where
  | rw | ro | wo | w1c | rc | rwl
  deriving DecidableEq, Repr

/-- A field of a register: its bits [hi:lo], its access code and its reset value. -/
structure FieldDesc where
  hi : Nat
  lo : Nat
  acc : Acc
  reset : Nat
  deriving DecidableEq, Repr

/-- A register kind: the segments (base, count) of its instances, the instance stride, the offset within the
instance, up to two inner dimensions (count, stride), and its fields. -/
structure RegDesc where
  segs : List (Nat × Nat)
  stride : Nat
  off : Nat
  dim2 : Nat × Nat
  dim3 : Nat × Nat
  fields : List FieldDesc
  deriving DecidableEq, Repr

/-- The registers of the device, one name per row group of the register tables. -/
inductive RegName where
  | ident | revision | tbCtrl | tbStatus | tbScLo | tbScHi | tbSsiLo | tbSsiHi | tbDt | tbOffset | tbRateAdj
  | tbStepcount | tbSyncDelay | tbEpochLo | tbEpochHi | tbSyncSLo | tbSyncSHi | tbSyncF | tbWordofsLo
  | tbWordofsHi | tbRegdelay | tbSyncPer | tbSyncmonErr | tbSyncGenLo | tbSyncGenHi | tbLdly | tbLofs
  | tbLstat | tbTaLo | tbTaHi | tbTaPer | tbTaCtrl | evCtrl | evStatus | evInject | evLoopch | evEc | evEcCfg
  | evEcOwn | evEcLastLo | evEcLastHi | evcCtrl | evcStatus | evcValLo | evcValHi | evcSnapLo | evcSnapHi
  | evcSnaptLo | evcSnaptHi | evcWsLo | evcWsHi | evcWeLo | evcWeHi | budCtrl | budStatus | budReserve
  | budEsamp | budLeadmax | budHotlead | budTj | budLeadnow | budAdmits | budAlts | budDefers | budRefusals
  | budCfg | budCLo | budCHi | budPcoolLo | budPcoolHi | budPstatLo | budPstatHi | budTbase | budTlim
  | budLag | budTmo | budHlimLo | budHlimHi | budDecayLo | budDecayHi | budFloorLo | budFloorHi | budHLo
  | budHHi | budULo | budUHi | budTmod | budTmeas | budLstat | budOwn | budHlimeLo | budHlimeHi | budAttn
  | bnCtrl | bnStatus | bnScanmask | bnPeriod | bnRingWr | bnRingRd | bnRingDrop | bnPasscnt | bnDiscard
  | bnSense | bnDisch | bnPtConv | bnPtExc | bnPtStat | calCtrl | calStatus | calRefvLo | calRefvHi
  | calRefvU | calCommitper | calDue | calTpoint | calProv | calXmask | calCountLo | calCountHi | calTime
  | calPeriod | calLimit | memCtrl | memStatus | memGran | memMergeTmo | memScrubPer | memCorrDram
  | memCorrSram | memUeSram | memParerr | memRmw | memFreezes | memScrubLine | memScrubPasses | memSramPasses
  | memFrzCause | memFrzLine | memFrzSynd | memFrzSsiLo | memFrzSsiHi | memSue | memSpares | memRepairFree
  | drRefstat | lkDevid | lnPctl | lnPstat | lnPmap | lnPeer | lnAlseq | lnUpcnt | lnDowncnt | lnCtl | lnStat
  | lnHdrerr | lnBlkerr | lnUnlockcnt | lnPrbserr | lnDskw | lnEye | lkPctl | lkPstat | lkCred0 | lkCred23
  | lkPeerbuf | lkReplay | lkRtwait | lkRetrycnt | lkGiveup | lkV1retry | lkV1lost | lkLostfr | lkMisvc
  | lkSparecnt | lkFtx | lkFrx | lkUpcnt | lkHaltcnt | ceStatus | ceAlert | ceAlertEn | ceAccepted
  | ceAuthfail | ceStale | ceDups | ceTimeouts | cePreempts | ceSpidrop | ceNotify | ceHighseq | ceNotlost
  | ceNotseq | mcVersion | mcPending | mcSecver | mcMinsec | mcStatus | secStatus | secOpenctr | secOwnerdig
  | secSerial | secBootnonce | secSess | secSessfail | secTagfail | secColwr | secColrd | secColdefer
  | secSigq | secOwn | thCtrl | thStatus | thTj | thTmin | thBroken0 | thBroken1 | thStart | thElapsed
  | thDiet | thCvofs | thTs | opMode | opBias | opTrim | opModeAct | opBiasAct | opKern | opSkew | opStatus
  | opPfsLo | opPfsHi | opCgain | opCofs | opCimg | opBind | fmStrobe | fmOuten | fmStrobecnt
  | fmLaststrobeLo | fmLaststrobeHi | fmSafe | fmSpancut | fmIlim | fmMkCtrl | fmMkState | galLate01
  | galCtrl | galStatus | galClip | galLoadser | galRflag0 | galRflag1 | galLate27 | galRing | galRingRate
  | galRingRd | galRingWr | fmCarFreqLo | fmCarFreqHi | fmCarOfsLo | fmCarOfsHi | ipCtrl | ipStatus | ipSkew
  | ipCapBase | ipCapSize | ipCapWr | ipCapCtrl | ipCapLost | ipCapser | ipRecCtrl | ipRecFill | ipRecDrop
  | ipSpoolBase | ipSpoolSize | ipSpoolWr | ipSpoolRd | ipDprog | dlFreqLo | dlFreqHi | dlOfsLo | dlOfsHi
  | dlCtrl | dlKbase | dlKlen | dlKreg | dlB | dlBCLo | dlBCHi | dlDisc | dlFolio | dlLastI | dlLastQ
  | dlLastState | dlResults | csCtrl | csStatus | csPc | csEntry | csSpan | csJtgt | csTLo | csTHi | csBlock
  | csBlockser | csLeadLo | csLeadHi | csEnergyLo | csEnergyHi | csAlt | csGateL01 | csGateL23 | csGateCtrl
  | csLoop | tgCtrl | tgStatus | tgHold | tgHoldec | tgCap | tgCaplen | tgCapdly | tgLimit | tgCount
  | tgTperiod | tgPat | tgDc | tgLevel | tgMc | tgMcThresh | tgMinmax | tgMean | tgRms | tgAmpl | tgPeriod
  | tgNcross | tgMendLo | tgMendHi | tgMflags | tgS | tgST | tgSE | tgFirecnt | tgLastfireLo | tgLastfireHi
  | tiCfg | dt | dtFires | tgPub | tgPubExtra | tgXin | tgFwd | tgFwdIo | tgXstatus | dfCtrl | dfStatus
  | dfPortdown | dfLatecnt | dfTxdrop | dfRxdrop | dfTaintcnt | dfPub | dfPubExtra | dfXin | dfFwd | dfFwdIo
  | dfWord
  deriving DecidableEq, Repr

/-- Short form of a register kind of the table. -/
def mkDesc (segs : List (Nat × Nat)) (stride off n2 s2 n3 s3 : Nat) (fs : List FieldDesc) : RegDesc :=
  ⟨segs, stride, off, (n2, s2), (n3, s3), fs⟩

/-- The register tables of spec/, register by register. -/
def RegName.desc : RegName → RegDesc
  | .ident => mkDesc [(0x0, 1)] 0x0 0x0 1 0x0 1 0x0 [⟨31, 0, .ro, 0x51644E44⟩]
  | .revision => mkDesc [(0x0, 1)] 0x0 0x4 1 0x0 1 0x0 [⟨31, 24, .ro, 1⟩, ⟨23, 16, .ro, 0⟩, ⟨15, 0, .ro, 0⟩]
  | .tbCtrl => mkDesc [(0x0, 1)] 0x0 0x10000 1 0x0 1 0x0 [⟨8, 8, .rwl, 0⟩, ⟨7, 7, .rw, 0⟩, ⟨5, 4, .rw, 0⟩, ⟨1, 1, .wo, 0⟩, ⟨0, 0, .rw, 0⟩]
  | .tbStatus => mkDesc [(0x0, 1)] 0x0 0x10004 1 0x0 1 0x0 [⟨15, 8, .w1c, 0⟩, ⟨7, 7, .w1c, 0⟩, ⟨6, 6, .w1c, 0⟩, ⟨5, 5, .w1c, 0⟩, ⟨4, 4, .w1c, 0⟩, ⟨2, 0, .ro, 0⟩]
  | .tbScLo => mkDesc [(0x0, 1)] 0x0 0x10008 1 0x0 1 0x0 [⟨31, 0, .ro, 0⟩]
  | .tbScHi => mkDesc [(0x0, 1)] 0x0 0x1000C 1 0x0 1 0x0 [⟨31, 0, .ro, 0⟩]
  | .tbSsiLo => mkDesc [(0x0, 1)] 0x0 0x10010 1 0x0 1 0x0 [⟨31, 0, .ro, 0⟩]
  | .tbSsiHi => mkDesc [(0x0, 1)] 0x0 0x10014 1 0x0 1 0x0 [⟨31, 0, .ro, 0⟩]
  | .tbDt => mkDesc [(0x0, 1)] 0x0 0x10018 4 0x4 1 0x0 [⟨31, 0, .ro, 0⟩]
  | .tbOffset => mkDesc [(0x0, 1)] 0x0 0x10030 4 0x4 1 0x0 [⟨31, 0, .rwl, 0⟩]
  | .tbRateAdj => mkDesc [(0x0, 1)] 0x0 0x10040 1 0x0 1 0x0 [⟨31, 0, .rwl, 0⟩]
  | .tbStepcount => mkDesc [(0x0, 1)] 0x0 0x10044 1 0x0 1 0x0 [⟨31, 0, .ro, 0⟩]
  | .tbSyncDelay => mkDesc [(0x0, 1)] 0x0 0x10050 1 0x0 1 0x0 [⟨31, 0, .rw, 0⟩]
  | .tbEpochLo => mkDesc [(0x0, 1)] 0x0 0x10054 1 0x0 1 0x0 [⟨31, 0, .rw, 0⟩]
  | .tbEpochHi => mkDesc [(0x0, 1)] 0x0 0x10058 1 0x0 1 0x0 [⟨31, 0, .rw, 0⟩]
  | .tbSyncSLo => mkDesc [(0x0, 1)] 0x0 0x10060 1 0x0 1 0x0 [⟨31, 0, .ro, 0⟩]
  | .tbSyncSHi => mkDesc [(0x0, 1)] 0x0 0x10064 1 0x0 1 0x0 [⟨31, 0, .ro, 0⟩]
  | .tbSyncF => mkDesc [(0x0, 1)] 0x0 0x10068 1 0x0 1 0x0 [⟨7, 0, .ro, 0⟩]
  | .tbWordofsLo => mkDesc [(0x0, 1)] 0x0 0x10070 1 0x0 1 0x0 [⟨31, 0, .ro, 0⟩]
  | .tbWordofsHi => mkDesc [(0x0, 1)] 0x0 0x10074 1 0x0 1 0x0 [⟨31, 0, .ro, 0⟩]
  | .tbRegdelay => mkDesc [(0x0, 1)] 0x0 0x10078 1 0x0 1 0x0 [⟨12, 0, .ro, 0⟩]
  | .tbSyncPer => mkDesc [(0x0, 1)] 0x0 0x10080 1 0x0 1 0x0 [⟨31, 0, .rw, 0⟩]
  | .tbSyncmonErr => mkDesc [(0x0, 1)] 0x0 0x10084 1 0x0 1 0x0 [⟨31, 0, .ro, 0⟩]
  | .tbSyncGenLo => mkDesc [(0x0, 1)] 0x0 0x10088 1 0x0 1 0x0 [⟨31, 0, .rw, 0⟩]
  | .tbSyncGenHi => mkDesc [(0x0, 1)] 0x0 0x1008C 1 0x0 1 0x0 [⟨31, 0, .rw, 0⟩]
  | .tbLdly => mkDesc [(0x10100, 8)] 0x10 0x0 1 0x0 1 0x0 [⟨31, 0, .ro, 0⟩]
  | .tbLofs => mkDesc [(0x10100, 8)] 0x10 0x4 1 0x0 1 0x0 [⟨31, 0, .ro, 0⟩]
  | .tbLstat => mkDesc [(0x10100, 8)] 0x10 0x8 1 0x0 1 0x0 [⟨1, 1, .ro, 0⟩, ⟨0, 0, .ro, 0⟩]
  | .tbTaLo => mkDesc [(0x10200, 16)] 0x10 0x0 1 0x0 1 0x0 [⟨31, 0, .rw, 0⟩]
  | .tbTaHi => mkDesc [(0x10200, 16)] 0x10 0x4 1 0x0 1 0x0 [⟨31, 0, .rw, 0⟩]
  | .tbTaPer => mkDesc [(0x10200, 16)] 0x10 0x8 1 0x0 1 0x0 [⟨31, 0, .rw, 0⟩]
  | .tbTaCtrl => mkDesc [(0x10200, 16)] 0x10 0xC 1 0x0 1 0x0 [⟨1, 1, .w1c, 0⟩, ⟨0, 0, .rw, 0⟩]
  | .evCtrl => mkDesc [(0x0, 1)] 0x0 0x20000 1 0x0 1 0x0 [⟨6, 0, .rw, 0x20⟩]
  | .evStatus => mkDesc [(0x0, 1)] 0x0 0x20004 1 0x0 1 0x0 [⟨2, 2, .w1c, 0⟩, ⟨1, 1, .w1c, 0⟩, ⟨0, 0, .w1c, 0⟩]
  | .evInject => mkDesc [(0x0, 1)] 0x0 0x20008 1 0x0 1 0x0 [⟨15, 0, .wo, 0⟩]
  | .evLoopch => mkDesc [(0x0, 1)] 0x0 0x20010 8 0x4 1 0x0 [⟨31, 0, .w1c, 0⟩]
  | .evEc => mkDesc [(0x21000, 256)] 0x20 0x0 4 0x4 1 0x0 [⟨31, 16, .rw, 0⟩, ⟨15, 0, .rw, 0⟩]
  | .evEcCfg => mkDesc [(0x21000, 256)] 0x20 0x10 1 0x0 1 0x0 [⟨0, 0, .rw, 1⟩]
  | .evEcOwn => mkDesc [(0x21000, 256)] 0x20 0x14 1 0x0 1 0x0 [⟨8, 8, .ro, 0⟩, ⟨3, 0, .ro, 0xF⟩]
  | .evEcLastLo => mkDesc [(0x21000, 256)] 0x20 0x18 1 0x0 1 0x0 [⟨31, 0, .ro, 0⟩]
  | .evEcLastHi => mkDesc [(0x21000, 256)] 0x20 0x1C 1 0x0 1 0x0 [⟨31, 0, .ro, 0⟩]
  | .evcCtrl => mkDesc [(0x24000, 64)] 0x40 0x0 1 0x0 1 0x0 [⟨31, 31, .rw, 0⟩, ⟨30, 30, .rw, 0⟩, ⟨29, 29, .rw, 0⟩, ⟨24, 16, .rw, 0⟩, ⟨15, 8, .rw, 0⟩, ⟨1, 1, .wo, 0⟩, ⟨0, 0, .wo, 0⟩]
  | .evcStatus => mkDesc [(0x24000, 64)] 0x40 0x4 1 0x0 1 0x0 [⟨1, 1, .w1c, 0⟩, ⟨0, 0, .w1c, 0⟩]
  | .evcValLo => mkDesc [(0x24000, 64)] 0x40 0x8 1 0x0 1 0x0 [⟨31, 0, .ro, 0⟩]
  | .evcValHi => mkDesc [(0x24000, 64)] 0x40 0xC 1 0x0 1 0x0 [⟨15, 0, .ro, 0⟩]
  | .evcSnapLo => mkDesc [(0x24000, 64)] 0x40 0x10 1 0x0 1 0x0 [⟨31, 0, .ro, 0⟩]
  | .evcSnapHi => mkDesc [(0x24000, 64)] 0x40 0x14 1 0x0 1 0x0 [⟨15, 0, .ro, 0⟩]
  | .evcSnaptLo => mkDesc [(0x24000, 64)] 0x40 0x18 1 0x0 1 0x0 [⟨31, 0, .ro, 0⟩]
  | .evcSnaptHi => mkDesc [(0x24000, 64)] 0x40 0x1C 1 0x0 1 0x0 [⟨31, 0, .ro, 0⟩]
  | .evcWsLo => mkDesc [(0x24000, 64)] 0x40 0x20 1 0x0 1 0x0 [⟨31, 0, .rw, 0⟩]
  | .evcWsHi => mkDesc [(0x24000, 64)] 0x40 0x24 1 0x0 1 0x0 [⟨31, 0, .rw, 0⟩]
  | .evcWeLo => mkDesc [(0x24000, 64)] 0x40 0x28 1 0x0 1 0x0 [⟨31, 0, .rw, 0⟩]
  | .evcWeHi => mkDesc [(0x24000, 64)] 0x40 0x2C 1 0x0 1 0x0 [⟨31, 0, .rw, 0⟩]
  | .budCtrl => mkDesc [(0x0, 1)] 0x0 0x30000 1 0x0 1 0x0 [⟨0, 0, .rwl, 0⟩]
  | .budStatus => mkDesc [(0x0, 1)] 0x0 0x30004 1 0x0 1 0x0 [⟨6, 6, .w1c, 0⟩, ⟨5, 5, .w1c, 0⟩, ⟨4, 4, .w1c, 0⟩, ⟨3, 3, .w1c, 0⟩, ⟨2, 2, .w1c, 0⟩, ⟨1, 1, .w1c, 0⟩, ⟨0, 0, .ro, 0⟩]
  | .budReserve => mkDesc [(0x0, 1)] 0x0 0x30008 1 0x0 1 0x0 [⟨23, 16, .rw, 0⟩, ⟨15, 8, .rw, 0⟩, ⟨7, 0, .rw, 0⟩]
  | .budEsamp => mkDesc [(0x0, 1)] 0x0 0x3000C 1 0x0 1 0x0 [⟨31, 0, .rwl, 0xF42400⟩]
  | .budLeadmax => mkDesc [(0x0, 1)] 0x0 0x30010 1 0x0 1 0x0 [⟨31, 0, .rw, 0x7A120⟩]
  | .budHotlead => mkDesc [(0x0, 1)] 0x0 0x30014 1 0x0 1 0x0 [⟨31, 0, .rw, 0xC350⟩]
  | .budTj => mkDesc [(0x0, 1)] 0x0 0x30018 1 0x0 1 0x0 [⟨31, 0, .ro, 0⟩]
  | .budLeadnow => mkDesc [(0x0, 1)] 0x0 0x3001C 1 0x0 1 0x0 [⟨9, 0, .ro, 0⟩]
  | .budAdmits => mkDesc [(0x0, 1)] 0x0 0x30020 1 0x0 1 0x0 [⟨31, 0, .ro, 0⟩]
  | .budAlts => mkDesc [(0x0, 1)] 0x0 0x30024 1 0x0 1 0x0 [⟨31, 0, .ro, 0⟩]
  | .budDefers => mkDesc [(0x0, 1)] 0x0 0x30028 1 0x0 1 0x0 [⟨31, 0, .ro, 0⟩]
  | .budRefusals => mkDesc [(0x0, 1)] 0x0 0x3002C 1 0x0 1 0x0 [⟨31, 0, .ro, 0⟩]
  | .budCfg => mkDesc [(0x30100, 18)] 0x80 0x0 1 0x0 1 0x0 [⟨31, 31, .rw, 0⟩, ⟨30, 29, .rw, 0⟩, ⟨28, 28, .wo, 0⟩, ⟨19, 16, .rw, 0⟩]
  | .budCLo => mkDesc [(0x30100, 18)] 0x80 0x4 1 0x0 1 0x0 [⟨31, 0, .rw, 0⟩]
  | .budCHi => mkDesc [(0x30100, 18)] 0x80 0x8 1 0x0 1 0x0 [⟨15, 0, .rw, 0⟩]
  | .budPcoolLo => mkDesc [(0x30100, 18)] 0x80 0xC 1 0x0 1 0x0 [⟨31, 0, .rw, 0⟩]
  | .budPcoolHi => mkDesc [(0x30100, 18)] 0x80 0x10 1 0x0 1 0x0 [⟨15, 0, .rw, 0⟩]
  | .budPstatLo => mkDesc [(0x30100, 18)] 0x80 0x14 1 0x0 1 0x0 [⟨31, 0, .rw, 0⟩]
  | .budPstatHi => mkDesc [(0x30100, 18)] 0x80 0x18 1 0x0 1 0x0 [⟨15, 0, .rw, 0⟩]
  | .budTbase => mkDesc [(0x30100, 18)] 0x80 0x1C 1 0x0 1 0x0 [⟨31, 0, .rw, 0⟩]
  | .budTlim => mkDesc [(0x30100, 18)] 0x80 0x20 1 0x0 1 0x0 [⟨31, 0, .rw, 0⟩]
  | .budLag => mkDesc [(0x30100, 18)] 0x80 0x24 1 0x0 1 0x0 [⟨31, 0, .rw, 0⟩]
  | .budTmo => mkDesc [(0x30100, 18)] 0x80 0x28 1 0x0 1 0x0 [⟨31, 0, .rw, 0⟩]
  | .budHlimLo => mkDesc [(0x30100, 18)] 0x80 0x30 1 0x0 1 0x0 [⟨31, 0, .ro, 0⟩]
  | .budHlimHi => mkDesc [(0x30100, 18)] 0x80 0x34 1 0x0 1 0x0 [⟨31, 0, .ro, 0⟩]
  | .budDecayLo => mkDesc [(0x30100, 18)] 0x80 0x38 1 0x0 1 0x0 [⟨31, 0, .ro, 0⟩]
  | .budDecayHi => mkDesc [(0x30100, 18)] 0x80 0x3C 1 0x0 1 0x0 [⟨15, 0, .ro, 0⟩]
  | .budFloorLo => mkDesc [(0x30100, 18)] 0x80 0x40 1 0x0 1 0x0 [⟨31, 0, .ro, 0⟩]
  | .budFloorHi => mkDesc [(0x30100, 18)] 0x80 0x44 1 0x0 1 0x0 [⟨31, 0, .ro, 0⟩]
  | .budHLo => mkDesc [(0x30100, 18)] 0x80 0x48 1 0x0 1 0x0 [⟨31, 0, .ro, 0⟩]
  | .budHHi => mkDesc [(0x30100, 18)] 0x80 0x4C 1 0x0 1 0x0 [⟨31, 0, .ro, 0⟩]
  | .budULo => mkDesc [(0x30100, 18)] 0x80 0x50 1 0x0 1 0x0 [⟨31, 0, .ro, 0⟩]
  | .budUHi => mkDesc [(0x30100, 18)] 0x80 0x54 1 0x0 1 0x0 [⟨31, 0, .ro, 0⟩]
  | .budTmod => mkDesc [(0x30100, 18)] 0x80 0x58 1 0x0 1 0x0 [⟨31, 0, .ro, 0⟩]
  | .budTmeas => mkDesc [(0x30100, 18)] 0x80 0x5C 1 0x0 1 0x0 [⟨31, 0, .ro, 0⟩]
  | .budLstat => mkDesc [(0x30100, 18)] 0x80 0x60 1 0x0 1 0x0 [⟨1, 1, .w1c, 0⟩, ⟨0, 0, .w1c, 0⟩]
  | .budOwn => mkDesc [(0x30100, 18)] 0x80 0x64 1 0x0 1 0x0 [⟨8, 8, .ro, 0⟩, ⟨3, 0, .ro, 0xF⟩]
  | .budHlimeLo => mkDesc [(0x30100, 18)] 0x80 0x68 1 0x0 1 0x0 [⟨31, 0, .ro, 0⟩]
  | .budHlimeHi => mkDesc [(0x30100, 18)] 0x80 0x6C 1 0x0 1 0x0 [⟨31, 0, .ro, 0⟩]
  | .budAttn => mkDesc [(0x38000, 512)] 0x40 0x0 16 0x4 1 0x0 [⟨31, 0, .rw, 0⟩]
  | .bnCtrl => mkDesc [(0x0, 1)] 0x0 0x40000 1 0x0 1 0x0 [⟨19, 19, .rw, 0⟩, ⟨17, 16, .rw, 0⟩, ⟨15, 8, .rw, 0⟩, ⟨2, 2, .rw, 0⟩, ⟨1, 1, .rw, 0⟩, ⟨0, 0, .rw, 0⟩]
  | .bnStatus => mkDesc [(0x0, 1)] 0x0 0x40004 1 0x0 1 0x0 [⟨13, 13, .ro, 0⟩, ⟨12, 8, .ro, 0⟩, ⟨4, 4, .w1c, 0⟩, ⟨3, 3, .w1c, 0⟩, ⟨2, 2, .w1c, 0⟩, ⟨1, 1, .w1c, 0⟩, ⟨0, 0, .w1c, 0⟩]
  | .bnScanmask => mkDesc [(0x0, 1)] 0x0 0x40008 1 0x0 1 0x0 [⟨31, 0, .rw, 0⟩]
  | .bnPeriod => mkDesc [(0x0, 1)] 0x0 0x4000C 1 0x0 1 0x0 [⟨31, 0, .ro, 0x30D40⟩]
  | .bnRingWr => mkDesc [(0x0, 1)] 0x0 0x40010 1 0x0 1 0x0 [⟨11, 0, .ro, 0⟩]
  | .bnRingRd => mkDesc [(0x0, 1)] 0x0 0x40014 1 0x0 1 0x0 [⟨11, 0, .rw, 0⟩]
  | .bnRingDrop => mkDesc [(0x0, 1)] 0x0 0x40018 1 0x0 1 0x0 [⟨31, 0, .rc, 0⟩]
  | .bnPasscnt => mkDesc [(0x0, 1)] 0x0 0x4001C 1 0x0 1 0x0 [⟨31, 0, .ro, 0⟩]
  | .bnDiscard => mkDesc [(0x0, 1)] 0x0 0x40020 1 0x0 1 0x0 [⟨31, 0, .rc, 0⟩]
  | .bnSense => mkDesc [(0x0, 1)] 0x0 0x40024 1 0x0 1 0x0 [⟨8, 0, .rw, 0⟩]
  | .bnDisch => mkDesc [(0x0, 1)] 0x0 0x40028 1 0x0 1 0x0 [⟨13, 0, .rw, 0x64⟩]
  | .bnPtConv => mkDesc [(0x40100, 32)] 0x10 0x0 1 0x0 1 0x0 [⟨29, 24, .rw, 0⟩, ⟨23, 16, .rw, 1⟩, ⟨15, 12, .rw, 0⟩, ⟨9, 8, .rw, 2⟩, ⟨4, 0, .rw, 3⟩]
  | .bnPtExc => mkDesc [(0x40100, 32)] 0x10 0x4 1 0x0 1 0x0 [⟨7, 6, .rw, 0⟩, ⟨5, 5, .rw, 0⟩, ⟨4, 2, .rw, 0⟩, ⟨1, 0, .rw, 0⟩]
  | .bnPtStat => mkDesc [(0x40100, 32)] 0x10 0x8 1 0x0 1 0x0 [⟨2, 2, .ro, 0⟩, ⟨1, 0, .ro, 0⟩]
  | .calCtrl => mkDesc [(0x0, 1)] 0x0 0x50000 1 0x0 1 0x0 [⟨1, 1, .rwl, 0⟩, ⟨0, 0, .rwl, 0⟩]
  | .calStatus => mkDesc [(0x0, 1)] 0x0 0x50004 1 0x0 1 0x0 [⟨6, 6, .ro, 1⟩, ⟨5, 5, .w1c, 0⟩, ⟨4, 4, .ro, 0⟩, ⟨3, 3, .w1c, 0⟩, ⟨2, 2, .w1c, 0⟩, ⟨1, 1, .w1c, 0⟩, ⟨0, 0, .ro, 0⟩]
  | .calRefvLo => mkDesc [(0x0, 1)] 0x0 0x50010 1 0x0 1 0x0 [⟨31, 0, .rwl, 0⟩]
  | .calRefvHi => mkDesc [(0x0, 1)] 0x0 0x50014 1 0x0 1 0x0 [⟨31, 0, .rwl, 0⟩]
  | .calRefvU => mkDesc [(0x0, 1)] 0x0 0x50018 1 0x0 1 0x0 [⟨31, 0, .rwl, 0⟩]
  | .calCommitper => mkDesc [(0x0, 1)] 0x0 0x5001C 1 0x0 1 0x0 [⟨31, 0, .rwl, 0xA⟩]
  | .calDue => mkDesc [(0x0, 1)] 0x0 0x50020 1 0x0 1 0x0 [⟨12, 0, .ro, 0⟩]
  | .calTpoint => mkDesc [(0x0, 1)] 0x0 0x50040 8 0x4 1 0x0 [⟨31, 0, .ro, 0⟩]
  | .calProv => mkDesc [(0x0, 1)] 0x0 0x50060 1 0x0 1 0x0 [⟨7, 0, .ro, 0⟩]
  | .calXmask => mkDesc [(0x0, 1)] 0x0 0x50080 19 0x4 1 0x0 [⟨31, 0, .ro, 0⟩]
  | .calCountLo => mkDesc [(0x50100, 13)] 0x20 0x0 1 0x0 1 0x0 [⟨31, 0, .ro, 0⟩]
  | .calCountHi => mkDesc [(0x50100, 13)] 0x20 0x4 1 0x0 1 0x0 [⟨15, 0, .ro, 0⟩]
  | .calTime => mkDesc [(0x50100, 13)] 0x20 0x8 4 0x4 1 0x0 [⟨31, 0, .ro, 0⟩]
  | .calPeriod => mkDesc [(0x50100, 13)] 0x20 0x18 1 0x0 1 0x0 [⟨31, 0, .rwl, 0x15180⟩]
  | .calLimit => mkDesc [(0x50100, 13)] 0x20 0x1C 1 0x0 1 0x0 [⟨31, 16, .rc, 0⟩, ⟨15, 0, .rwl, 0⟩]
  | .memCtrl => mkDesc [(0x0, 1)] 0x0 0x60000 1 0x0 1 0x0 [⟨2, 2, .rw, 1⟩, ⟨1, 1, .rw, 1⟩, ⟨0, 0, .rw, 1⟩]
  | .memStatus => mkDesc [(0x0, 1)] 0x0 0x60004 1 0x0 1 0x0 [⟨7, 7, .w1c, 0⟩, ⟨6, 6, .ro, 0⟩, ⟨5, 5, .w1c, 0⟩, ⟨4, 4, .w1c, 0⟩, ⟨3, 3, .w1c, 0⟩, ⟨2, 2, .w1c, 0⟩, ⟨1, 1, .ro, 0⟩, ⟨0, 0, .ro, 0⟩]
  | .memGran => mkDesc [(0x0, 1)] 0x0 0x60010 3 0x4 1 0x0 [⟨31, 0, .ro, 0⟩]
  | .memMergeTmo => mkDesc [(0x0, 1)] 0x0 0x60020 1 0x0 1 0x0 [⟨15, 0, .rw, 0x200⟩]
  | .memScrubPer => mkDesc [(0x0, 1)] 0x0 0x60024 1 0x0 1 0x0 [⟨15, 0, .rw, 0x18⟩]
  | .memCorrDram => mkDesc [(0x0, 1)] 0x0 0x60030 1 0x0 1 0x0 [⟨31, 0, .rc, 0⟩]
  | .memCorrSram => mkDesc [(0x0, 1)] 0x0 0x60034 1 0x0 1 0x0 [⟨31, 0, .rc, 0⟩]
  | .memUeSram => mkDesc [(0x0, 1)] 0x0 0x60038 1 0x0 1 0x0 [⟨31, 0, .rc, 0⟩]
  | .memParerr => mkDesc [(0x0, 1)] 0x0 0x6003C 1 0x0 1 0x0 [⟨31, 0, .rc, 0⟩]
  | .memRmw => mkDesc [(0x0, 1)] 0x0 0x60040 1 0x0 1 0x0 [⟨31, 0, .rc, 0⟩]
  | .memFreezes => mkDesc [(0x0, 1)] 0x0 0x60044 1 0x0 1 0x0 [⟨31, 0, .ro, 0⟩]
  | .memScrubLine => mkDesc [(0x0, 1)] 0x0 0x60050 1 0x0 1 0x0 [⟨30, 0, .ro, 0⟩]
  | .memScrubPasses => mkDesc [(0x0, 1)] 0x0 0x60054 1 0x0 1 0x0 [⟨31, 0, .ro, 0⟩]
  | .memSramPasses => mkDesc [(0x0, 1)] 0x0 0x60058 1 0x0 1 0x0 [⟨31, 0, .ro, 0⟩]
  | .memFrzCause => mkDesc [(0x0, 1)] 0x0 0x60080 1 0x0 1 0x0 [⟨23, 20, .ro, 0⟩, ⟨19, 18, .ro, 0⟩, ⟨17, 14, .ro, 0⟩, ⟨13, 13, .ro, 0⟩, ⟨12, 9, .ro, 0⟩, ⟨8, 8, .ro, 0⟩, ⟨3, 0, .ro, 0⟩]
  | .memFrzLine => mkDesc [(0x0, 1)] 0x0 0x60084 1 0x0 1 0x0 [⟨30, 0, .ro, 0⟩]
  | .memFrzSynd => mkDesc [(0x0, 1)] 0x0 0x60088 1 0x0 1 0x0 [⟨31, 0, .ro, 0⟩]
  | .memFrzSsiLo => mkDesc [(0x0, 1)] 0x0 0x6008C 1 0x0 1 0x0 [⟨31, 0, .ro, 0⟩]
  | .memFrzSsiHi => mkDesc [(0x0, 1)] 0x0 0x60090 1 0x0 1 0x0 [⟨31, 0, .ro, 0⟩]
  | .memSue => mkDesc [(0x0, 1)] 0x0 0x600A0 1 0x0 1 0x0 [⟨31, 28, .ro, 0⟩, ⟨27, 22, .ro, 0⟩, ⟨16, 0, .ro, 0⟩]
  | .memSpares => mkDesc [(0x0, 1)] 0x0 0x600C0 1 0x0 1 0x0 [⟨31, 16, .ro, 0⟩, ⟨15, 0, .ro, 0⟩]
  | .memRepairFree => mkDesc [(0x0, 1)] 0x0 0x600C4 1 0x0 1 0x0 [⟨8, 0, .ro, 0x100⟩]
  | .drRefstat => mkDesc [(0x0, 1)] 0x0 0x60100 2 0x4 1 0x0 [⟨20, 20, .ro, 0⟩, ⟨19, 16, .ro, 0⟩, ⟨15, 0, .rc, 0⟩]
  | .lkDevid => mkDesc [(0x0, 1)] 0x0 0x70000 1 0x0 1 0x0 [⟨13, 0, .rw, 0x3FFF⟩]
  | .lnPctl => mkDesc [(0x70100, 8)] 0x40 0x0 1 0x0 1 0x0 [⟨1, 1, .rw, 0⟩, ⟨0, 0, .rw, 0⟩]
  | .lnPstat => mkDesc [(0x70100, 8)] 0x40 0x4 1 0x0 1 0x0 [⟨24, 16, .ro, 0⟩, ⟨15, 8, .ro, 0⟩, ⟨6, 6, .w1c, 0⟩, ⟨5, 5, .w1c, 0⟩, ⟨2, 0, .ro, 0⟩]
  | .lnPmap => mkDesc [(0x70100, 8)] 0x40 0x8 1 0x0 1 0x0 [⟨31, 0, .ro, 0x76543210⟩]
  | .lnPeer => mkDesc [(0x70100, 8)] 0x40 0xC 1 0x0 1 0x0 [⟨29, 16, .ro, 0⟩, ⟨14, 12, .ro, 0⟩, ⟨0, 0, .ro, 0⟩]
  | .lnAlseq => mkDesc [(0x70100, 8)] 0x40 0x10 1 0x0 1 0x0 [⟨15, 0, .ro, 0⟩]
  | .lnUpcnt => mkDesc [(0x70100, 8)] 0x40 0x14 1 0x0 1 0x0 [⟨31, 0, .ro, 0⟩]
  | .lnDowncnt => mkDesc [(0x70100, 8)] 0x40 0x18 1 0x0 1 0x0 [⟨31, 0, .ro, 0⟩]
  | .lnCtl => mkDesc [(0x71000, 72)] 0x40 0x0 1 0x0 1 0x0 [⟨12, 12, .rw, 0⟩, ⟨11, 10, .rw, 0⟩, ⟨9, 8, .rw, 0⟩, ⟨7, 7, .rw, 0⟩, ⟨6, 6, .rw, 0⟩, ⟨5, 4, .rw, 2⟩, ⟨3, 0, .rw, 6⟩]
  | .lnStat => mkDesc [(0x71000, 72)] 0x40 0x4 1 0x0 1 0x0 [⟨18, 18, .w1c, 0⟩, ⟨17, 17, .w1c, 0⟩, ⟨16, 16, .w1c, 0⟩, ⟨15, 15, .w1c, 0⟩, ⟨8, 8, .ro, 0⟩, ⟨7, 4, .ro, 0xE⟩, ⟨2, 0, .ro, 0⟩]
  | .lnHdrerr => mkDesc [(0x71000, 72)] 0x40 0x8 1 0x0 1 0x0 [⟨31, 0, .rc, 0⟩]
  | .lnBlkerr => mkDesc [(0x71000, 72)] 0x40 0xC 1 0x0 1 0x0 [⟨31, 0, .rc, 0⟩]
  | .lnUnlockcnt => mkDesc [(0x71000, 72)] 0x40 0x10 1 0x0 1 0x0 [⟨31, 0, .rc, 0⟩]
  | .lnPrbserr => mkDesc [(0x71000, 72)] 0x40 0x14 1 0x0 1 0x0 [⟨31, 0, .rc, 0⟩]
  | .lnDskw => mkDesc [(0x71000, 72)] 0x40 0x18 1 0x0 1 0x0 [⟨4, 0, .ro, 0⟩]
  | .lnEye => mkDesc [(0x71000, 72)] 0x40 0x1C 1 0x0 1 0x0 [⟨15, 8, .ro, 0⟩, ⟨7, 0, .ro, 0⟩]
  | .lkPctl => mkDesc [(0x70400, 8)] 0x80 0x0 1 0x0 1 0x0 [⟨1, 1, .wo, 0⟩, ⟨0, 0, .rw, 0⟩]
  | .lkPstat => mkDesc [(0x70400, 8)] 0x80 0x4 1 0x0 1 0x0 [⟨19, 16, .ro, 0⟩, ⟨15, 15, .ro, 0⟩, ⟨14, 14, .w1c, 0⟩, ⟨13, 13, .w1c, 0⟩, ⟨12, 12, .w1c, 0⟩, ⟨11, 11, .w1c, 0⟩, ⟨10, 10, .w1c, 0⟩, ⟨7, 4, .ro, 0⟩, ⟨2, 0, .ro, 0⟩]
  | .lkCred0 => mkDesc [(0x70400, 8)] 0x80 0x8 1 0x0 1 0x0 [⟨10, 0, .ro, 0⟩]
  | .lkCred23 => mkDesc [(0x70400, 8)] 0x80 0xC 1 0x0 1 0x0 [⟨26, 16, .ro, 0⟩, ⟨10, 0, .ro, 0⟩]
  | .lkPeerbuf => mkDesc [(0x70400, 8)] 0x80 0x10 1 0x0 1 0x0 [⟨23, 16, .ro, 0⟩, ⟨15, 8, .ro, 0⟩, ⟨7, 0, .ro, 0⟩]
  | .lkReplay => mkDesc [(0x70400, 8)] 0x80 0x14 1 0x0 1 0x0 [⟨11, 0, .ro, 0⟩]
  | .lkRtwait => mkDesc [(0x70400, 8)] 0x80 0x18 1 0x0 1 0x0 [⟨15, 0, .rw, 0x400⟩]
  | .lkRetrycnt => mkDesc [(0x70400, 8)] 0x80 0x1C 1 0x0 1 0x0 [⟨31, 0, .rc, 0⟩]
  | .lkGiveup => mkDesc [(0x70400, 8)] 0x80 0x20 1 0x0 1 0x0 [⟨31, 0, .rc, 0⟩]
  | .lkV1retry => mkDesc [(0x70400, 8)] 0x80 0x24 1 0x0 1 0x0 [⟨31, 0, .rc, 0⟩]
  | .lkV1lost => mkDesc [(0x70400, 8)] 0x80 0x28 1 0x0 1 0x0 [⟨31, 0, .rc, 0⟩]
  | .lkLostfr => mkDesc [(0x70400, 8)] 0x80 0x2C 1 0x0 1 0x0 [⟨31, 0, .rc, 0⟩]
  | .lkMisvc => mkDesc [(0x70400, 8)] 0x80 0x30 1 0x0 1 0x0 [⟨31, 0, .rc, 0⟩]
  | .lkSparecnt => mkDesc [(0x70400, 8)] 0x80 0x34 1 0x0 1 0x0 [⟨31, 0, .ro, 0⟩]
  | .lkFtx => mkDesc [(0x70400, 8)] 0x80 0x38 1 0x0 1 0x0 [⟨31, 0, .ro, 0⟩]
  | .lkFrx => mkDesc [(0x70400, 8)] 0x80 0x3C 1 0x0 1 0x0 [⟨31, 0, .ro, 0⟩]
  | .lkUpcnt => mkDesc [(0x70400, 8)] 0x80 0x40 1 0x0 1 0x0 [⟨31, 0, .ro, 0⟩]
  | .lkHaltcnt => mkDesc [(0x70400, 8)] 0x80 0x44 1 0x0 1 0x0 [⟨31, 0, .ro, 0⟩]
  | .ceStatus => mkDesc [(0x0, 1)] 0x0 0x80000 1 0x0 1 0x0 [⟨31, 24, .ro, 0⟩, ⟨23, 16, .ro, 0⟩, ⟨10, 8, .ro, 0⟩, ⟨2, 2, .ro, 0⟩, ⟨1, 1, .ro, 0⟩, ⟨0, 0, .ro, 0⟩]
  | .ceAlert => mkDesc [(0x0, 1)] 0x0 0x80004 1 0x0 1 0x0 [⟨19, 19, .w1c, 0⟩, ⟨18, 18, .w1c, 0⟩, ⟨17, 17, .w1c, 0⟩, ⟨16, 16, .w1c, 0⟩, ⟨8, 0, .w1c, 0⟩]
  | .ceAlertEn => mkDesc [(0x0, 1)] 0x0 0x80008 1 0x0 1 0x0 [⟨31, 0, .rw, 0⟩]
  | .ceAccepted => mkDesc [(0x0, 1)] 0x0 0x80010 1 0x0 1 0x0 [⟨31, 0, .ro, 0⟩]
  | .ceAuthfail => mkDesc [(0x0, 1)] 0x0 0x80014 1 0x0 1 0x0 [⟨31, 0, .rc, 0⟩]
  | .ceStale => mkDesc [(0x0, 1)] 0x0 0x80018 1 0x0 1 0x0 [⟨31, 0, .rc, 0⟩]
  | .ceDups => mkDesc [(0x0, 1)] 0x0 0x8001C 1 0x0 1 0x0 [⟨31, 0, .rc, 0⟩]
  | .ceTimeouts => mkDesc [(0x0, 1)] 0x0 0x80020 1 0x0 1 0x0 [⟨31, 0, .rc, 0⟩]
  | .cePreempts => mkDesc [(0x0, 1)] 0x0 0x80024 1 0x0 1 0x0 [⟨31, 0, .rc, 0⟩]
  | .ceSpidrop => mkDesc [(0x0, 1)] 0x0 0x80028 1 0x0 1 0x0 [⟨31, 0, .rc, 0⟩]
  | .ceNotify => mkDesc [(0x80040, 8)] 0x10 0x0 1 0x0 1 0x0 [⟨8, 0, .rw, 0x1FF⟩]
  | .ceHighseq => mkDesc [(0x80040, 8)] 0x10 0x4 1 0x0 1 0x0 [⟨31, 0, .ro, 0xFFFFFFFF⟩]
  | .ceNotlost => mkDesc [(0x80040, 8)] 0x10 0x8 1 0x0 1 0x0 [⟨31, 0, .rc, 0⟩]
  | .ceNotseq => mkDesc [(0x80040, 8)] 0x10 0xC 1 0x0 1 0x0 [⟨31, 0, .ro, 0⟩]
  | .mcVersion => mkDesc [(0x0, 1)] 0x0 0x80100 1 0x0 1 0x0 [⟨31, 24, .ro, 0⟩, ⟨23, 16, .ro, 0⟩, ⟨15, 0, .ro, 0⟩]
  | .mcPending => mkDesc [(0x0, 1)] 0x0 0x80104 1 0x0 1 0x0 [⟨31, 0, .ro, 0⟩]
  | .mcSecver => mkDesc [(0x0, 1)] 0x0 0x80108 1 0x0 1 0x0 [⟨31, 0, .ro, 0⟩]
  | .mcMinsec => mkDesc [(0x0, 1)] 0x0 0x8010C 1 0x0 1 0x0 [⟨31, 0, .ro, 0⟩]
  | .mcStatus => mkDesc [(0x0, 1)] 0x0 0x80110 1 0x0 1 0x0 [⟨2, 2, .ro, 0⟩, ⟨1, 1, .ro, 0⟩, ⟨0, 0, .ro, 0⟩]
  | .secStatus => mkDesc [(0x0, 1)] 0x0 0x80800 1 0x0 1 0x0 [⟨31, 24, .ro, 0⟩, ⟨2, 2, .ro, 0⟩, ⟨1, 1, .ro, 0⟩, ⟨0, 0, .ro, 0⟩]
  | .secOpenctr => mkDesc [(0x0, 1)] 0x0 0x80804 1 0x0 1 0x0 [⟨31, 0, .ro, 0⟩]
  | .secOwnerdig => mkDesc [(0x0, 1)] 0x0 0x80810 12 0x4 1 0x0 [⟨31, 0, .ro, 0⟩]
  | .secSerial => mkDesc [(0x0, 1)] 0x0 0x80840 4 0x4 1 0x0 [⟨31, 0, .ro, 0⟩]
  | .secBootnonce => mkDesc [(0x0, 1)] 0x0 0x80850 8 0x4 1 0x0 [⟨31, 0, .ro, 0⟩]
  | .secSess => mkDesc [(0x80880, 8)] 0x8 0x0 1 0x0 1 0x0 [⟨31, 16, .ro, 0⟩, ⟨4, 4, .ro, 0⟩, ⟨3, 0, .ro, 0⟩]
  | .secSessfail => mkDesc [(0x80880, 8)] 0x8 0x4 1 0x0 1 0x0 [⟨31, 0, .rc, 0⟩]
  | .secTagfail => mkDesc [(0x0, 1)] 0x0 0x808C0 8 0x4 1 0x0 [⟨31, 0, .rc, 0⟩]
  | .secColwr => mkDesc [(0x0, 1)] 0x0 0x808E0 1 0x0 1 0x0 [⟨11, 0, .ro, 0⟩]
  | .secColrd => mkDesc [(0x0, 1)] 0x0 0x808E4 1 0x0 1 0x0 [⟨11, 0, .rw, 0⟩]
  | .secColdefer => mkDesc [(0x0, 1)] 0x0 0x808E8 1 0x0 1 0x0 [⟨31, 0, .rc, 0⟩]
  | .secSigq => mkDesc [(0x0, 1)] 0x0 0x808EC 1 0x0 1 0x0 [⟨6, 0, .ro, 0⟩]
  | .secOwn => mkDesc [(0x0, 1)] 0x0 0x80900 576 0x4 1 0x0 [⟨8, 8, .ro, 0⟩, ⟨3, 0, .ro, 0xF⟩]
  | .thCtrl => mkDesc [(0x0, 1)] 0x0 0x90000 1 0x0 1 0x0 [⟨0, 0, .rw, 1⟩]
  | .thStatus => mkDesc [(0x0, 1)] 0x0 0x90004 1 0x0 1 0x0 [⟨6, 6, .ro, 0⟩, ⟨5, 5, .ro, 0⟩, ⟨4, 4, .w1c, 0⟩, ⟨3, 3, .w1c, 0⟩, ⟨2, 2, .w1c, 0⟩, ⟨1, 1, .w1c, 0⟩]
  | .thTj => mkDesc [(0x0, 1)] 0x0 0x90008 1 0x0 1 0x0 [⟨25, 20, .ro, 0⟩, ⟨18, 0, .ro, 0⟩]
  | .thTmin => mkDesc [(0x0, 1)] 0x0 0x9000C 1 0x0 1 0x0 [⟨25, 20, .ro, 0⟩, ⟨18, 0, .ro, 0⟩]
  | .thBroken0 => mkDesc [(0x0, 1)] 0x0 0x90010 1 0x0 1 0x0 [⟨31, 0, .w1c, 0⟩]
  | .thBroken1 => mkDesc [(0x0, 1)] 0x0 0x90014 1 0x0 1 0x0 [⟨15, 0, .w1c, 0⟩]
  | .thStart => mkDesc [(0x0, 1)] 0x0 0x90020 1 0x0 1 0x0 [⟨3, 3, .ro, 0⟩, ⟨2, 2, .ro, 0⟩, ⟨1, 0, .ro, 0⟩]
  | .thElapsed => mkDesc [(0x0, 1)] 0x0 0x90024 1 0x0 1 0x0 [⟨31, 0, .ro, 0⟩]
  | .thDiet => mkDesc [(0x0, 1)] 0x0 0x90040 8 0x4 1 0x0 [⟨31, 31, .ro, 0⟩, ⟨18, 0, .ro, 0⟩]
  | .thCvofs => mkDesc [(0x0, 1)] 0x0 0x90060 8 0x4 1 0x0 [⟨31, 0, .ro, 0⟩]
  | .thTs => mkDesc [(0x0, 1)] 0x0 0x90100 48 0x4 1 0x0 [⟨31, 31, .ro, 0⟩, ⟨30, 30, .ro, 0⟩, ⟨18, 0, .ro, 0⟩]
  | .opMode => mkDesc [(0x100000, 512)] 0x1000 0x0 1 0x0 1 0x0 [⟨9, 8, .rw, 0⟩, ⟨5, 4, .rw, 0⟩, ⟨1, 0, .rw, 0⟩]
  | .opBias => mkDesc [(0x100000, 512)] 0x1000 0x4 1 0x0 1 0x0 [⟨19, 0, .rw, 0⟩]
  | .opTrim => mkDesc [(0x100000, 512)] 0x1000 0x8 1 0x0 1 0x0 [⟨13, 0, .rw, 0⟩]
  | .opModeAct => mkDesc [(0x100000, 512)] 0x1000 0x10 1 0x0 1 0x0 [⟨31, 0, .ro, 0⟩]
  | .opBiasAct => mkDesc [(0x100000, 512)] 0x1000 0x14 1 0x0 1 0x0 [⟨19, 0, .ro, 0⟩]
  | .opKern => mkDesc [(0x100000, 512)] 0x1000 0x18 1 0x0 1 0x0 [⟨13, 8, .ro, 0⟩, ⟨7, 0, .ro, 0⟩]
  | .opSkew => mkDesc [(0x100000, 512)] 0x1000 0x1C 1 0x0 1 0x0 [⟨13, 0, .ro, 0⟩]
  | .opStatus => mkDesc [(0x100000, 512)] 0x1000 0x20 1 0x0 1 0x0 [⟨7, 7, .ro, 1⟩, ⟨6, 6, .ro, 0⟩, ⟨3, 3, .w1c, 0⟩, ⟨2, 2, .w1c, 0⟩, ⟨1, 1, .w1c, 0⟩, ⟨0, 0, .w1c, 0⟩]
  | .opPfsLo => mkDesc [(0x100000, 512)] 0x1000 0x30 1 0x0 1 0x0 [⟨31, 0, .ro, 0⟩]
  | .opPfsHi => mkDesc [(0x100000, 512)] 0x1000 0x34 1 0x0 1 0x0 [⟨15, 0, .ro, 0⟩]
  | .opCgain => mkDesc [(0x100000, 512)] 0x1000 0x40 1 0x0 1 0x0 [⟨17, 0, .ro, 0x10000⟩]
  | .opCofs => mkDesc [(0x100000, 512)] 0x1000 0x44 1 0x0 1 0x0 [⟨15, 0, .ro, 0⟩]
  | .opCimg => mkDesc [(0x100000, 512)] 0x1000 0x48 1 0x0 1 0x0 [⟨15, 0, .ro, 0⟩]
  | .opBind => mkDesc [(0x100000, 512)] 0x1000 0x100 16 0x4 1 0x0 [⟨12, 8, .ro, 0⟩, ⟨4, 0, .rw, 0⟩]
  | .fmStrobe => mkDesc [(0x300000, 64)] 0x400 0x0 1 0x0 1 0x0 [⟨0, 0, .wo, 0⟩]
  | .fmOuten => mkDesc [(0x300000, 64)] 0x400 0x4 1 0x0 1 0x0 [⟨1, 1, .ro, 0⟩, ⟨0, 0, .ro, 0⟩]
  | .fmStrobecnt => mkDesc [(0x300000, 64)] 0x400 0x8 1 0x0 1 0x0 [⟨31, 0, .ro, 0⟩]
  | .fmLaststrobeLo => mkDesc [(0x300000, 64)] 0x400 0xC 1 0x0 1 0x0 [⟨31, 0, .ro, 0⟩]
  | .fmLaststrobeHi => mkDesc [(0x300000, 64)] 0x400 0x10 1 0x0 1 0x0 [⟨31, 0, .ro, 0⟩]
  | .fmSafe => mkDesc [(0x300000, 64)] 0x400 0x14 1 0x0 1 0x0 [⟨7, 0, .ro, 0⟩]
  | .fmSpancut => mkDesc [(0x300000, 64)] 0x400 0x18 1 0x0 1 0x0 [⟨7, 0, .ro, 0⟩]
  | .fmIlim => mkDesc [(0x300000, 64)] 0x400 0x1C 1 0x0 1 0x0 [⟨7, 0, .ro, 0⟩]
  | .fmMkCtrl => mkDesc [(0x300000, 64)] 0x400 0xC0 1 0x0 1 0x0 [⟨29, 24, .rw, 0⟩, ⟨16, 16, .rw, 0⟩, ⟨15, 0, .rw, 0⟩]
  | .fmMkState => mkDesc [(0x300000, 64)] 0x400 0xC4 1 0x0 1 0x0 [⟨15, 0, .ro, 0⟩]
  | .galLate01 => mkDesc [(0x300000, 64)] 0x400 0xC8 2 0x4 1 0x0 [⟨31, 16, .rc, 0⟩, ⟨15, 0, .rc, 0⟩]
  | .galCtrl => mkDesc [(0x300000, 64)] 0x400 0xD0 1 0x0 1 0x0 [⟨5, 0, .rw, 0x20⟩]
  | .galStatus => mkDesc [(0x300000, 64)] 0x400 0xD4 1 0x0 1 0x0 [⟨31, 16, .ro, 0⟩, ⟨4, 4, .w1c, 0⟩, ⟨3, 3, .w1c, 0⟩, ⟨2, 2, .w1c, 0⟩, ⟨1, 1, .w1c, 0⟩]
  | .galClip => mkDesc [(0x300000, 64)] 0x400 0xD8 1 0x0 1 0x0 [⟨7, 0, .w1c, 0⟩]
  | .galLoadser => mkDesc [(0x300000, 64)] 0x400 0xDC 1 0x0 1 0x0 [⟨31, 0, .ro, 0⟩]
  | .galRflag0 => mkDesc [(0x300000, 64)] 0x400 0xE0 1 0x0 1 0x0 [⟨31, 16, .w1c, 0⟩, ⟨15, 0, .w1c, 0⟩]
  | .galRflag1 => mkDesc [(0x300000, 64)] 0x400 0xE4 1 0x0 1 0x0 [⟨31, 16, .w1c, 0⟩, ⟨15, 0, .w1c, 0⟩]
  | .galLate27 => mkDesc [(0x300000, 64)] 0x400 0xE8 6 0x4 1 0x0 [⟨31, 16, .rc, 0⟩, ⟨15, 0, .rc, 0⟩]
  | .galRing => mkDesc [(0x300000, 64)] 0x400 0x100 16 0x10 1 0x0 [⟨31, 31, .rw, 0⟩, ⟨30, 30, .rw, 0⟩, ⟨29, 26, .rw, 0⟩, ⟨25, 22, .rw, 0⟩, ⟨14, 0, .rw, 0⟩]
  | .galRingRate => mkDesc [(0x300000, 64)] 0x400 0x104 16 0x10 1 0x0 [⟨31, 0, .rw, 0⟩]
  | .galRingRd => mkDesc [(0x300000, 64)] 0x400 0x108 16 0x10 1 0x0 [⟨31, 0, .ro, 0⟩]
  | .galRingWr => mkDesc [(0x300000, 64)] 0x400 0x10C 16 0x10 1 0x0 [⟨31, 0, .ro, 0⟩]
  | .fmCarFreqLo => mkDesc [(0x300000, 64)] 0x400 0x200 32 0x10 1 0x0 [⟨31, 0, .rw, 0⟩]
  | .fmCarFreqHi => mkDesc [(0x300000, 64)] 0x400 0x204 32 0x10 1 0x0 [⟨16, 16, .rw, 0⟩, ⟨15, 0, .rw, 0⟩]
  | .fmCarOfsLo => mkDesc [(0x300000, 64)] 0x400 0x208 32 0x10 1 0x0 [⟨31, 0, .rw, 0⟩]
  | .fmCarOfsHi => mkDesc [(0x300000, 64)] 0x400 0x20C 32 0x10 1 0x0 [⟨15, 0, .rw, 0⟩]
  | .ipCtrl => mkDesc [(0x400000, 64)] 0x4000 0x0 1 0x0 1 0x0 [⟨6, 4, .rw, 0⟩, ⟨1, 0, .rw, 0⟩]
  | .ipStatus => mkDesc [(0x400000, 64)] 0x4000 0x4 1 0x0 1 0x0 [⟨16, 16, .ro, 0⟩, ⟨9, 9, .w1c, 0⟩, ⟨8, 8, .w1c, 0⟩, ⟨7, 7, .w1c, 0⟩, ⟨6, 6, .w1c, 0⟩, ⟨5, 5, .w1c, 0⟩, ⟨4, 4, .w1c, 0⟩, ⟨3, 3, .w1c, 0⟩, ⟨2, 2, .w1c, 0⟩, ⟨1, 1, .w1c, 0⟩, ⟨0, 0, .w1c, 0⟩]
  | .ipSkew => mkDesc [(0x400000, 64)] 0x4000 0x8 1 0x0 1 0x0 [⟨13, 0, .ro, 0⟩]
  | .ipCapBase => mkDesc [(0x400000, 64)] 0x4000 0x10 1 0x0 1 0x0 [⟨30, 0, .rw, 0⟩]
  | .ipCapSize => mkDesc [(0x400000, 64)] 0x4000 0x14 1 0x0 1 0x0 [⟨30, 0, .rw, 0⟩]
  | .ipCapWr => mkDesc [(0x400000, 64)] 0x4000 0x18 1 0x0 1 0x0 [⟨30, 0, .rw, 0⟩]
  | .ipCapCtrl => mkDesc [(0x400000, 64)] 0x4000 0x1C 1 0x0 1 0x0 [⟨1, 1, .rw, 0⟩, ⟨0, 0, .rw, 0⟩]
  | .ipCapLost => mkDesc [(0x400000, 64)] 0x4000 0x20 1 0x0 1 0x0 [⟨31, 0, .rc, 0⟩]
  | .ipCapser => mkDesc [(0x400000, 64)] 0x4000 0x24 1 0x0 1 0x0 [⟨31, 0, .ro, 0⟩]
  | .ipRecCtrl => mkDesc [(0x400000, 64)] 0x4000 0x40 1 0x0 1 0x0 [⟨6, 4, .rw, 0⟩, ⟨3, 1, .rw, 0⟩, ⟨0, 0, .rw, 0⟩]
  | .ipRecFill => mkDesc [(0x400000, 64)] 0x4000 0x44 1 0x0 1 0x0 [⟨10, 0, .ro, 0⟩]
  | .ipRecDrop => mkDesc [(0x400000, 64)] 0x4000 0x48 1 0x0 1 0x0 [⟨31, 0, .rc, 0⟩]
  | .ipSpoolBase => mkDesc [(0x400000, 64)] 0x4000 0x50 1 0x0 1 0x0 [⟨30, 0, .rw, 0⟩]
  | .ipSpoolSize => mkDesc [(0x400000, 64)] 0x4000 0x54 1 0x0 1 0x0 [⟨30, 0, .rw, 0⟩]
  | .ipSpoolWr => mkDesc [(0x400000, 64)] 0x4000 0x58 1 0x0 1 0x0 [⟨30, 0, .ro, 0⟩]
  | .ipSpoolRd => mkDesc [(0x400000, 64)] 0x4000 0x5C 1 0x0 1 0x0 [⟨30, 0, .rw, 0⟩]
  | .ipDprog => mkDesc [(0x400000, 64)] 0x4000 0x800 256 0x4 1 0x0 [⟨31, 0, .rw, 0⟩]
  | .dlFreqLo => mkDesc [(0x400000, 64)] 0x4000 0x1000 16 0x100 1 0x0 [⟨31, 0, .rw, 0⟩]
  | .dlFreqHi => mkDesc [(0x400000, 64)] 0x4000 0x1004 16 0x100 1 0x0 [⟨15, 0, .rw, 0⟩]
  | .dlOfsLo => mkDesc [(0x400000, 64)] 0x4000 0x1008 16 0x100 1 0x0 [⟨31, 0, .rw, 0⟩]
  | .dlOfsHi => mkDesc [(0x400000, 64)] 0x4000 0x100C 16 0x100 1 0x0 [⟨15, 0, .rw, 0⟩]
  | .dlCtrl => mkDesc [(0x400000, 64)] 0x4000 0x1010 16 0x100 1 0x0 [⟨31, 24, .rw, 0⟩, ⟨23, 20, .rw, 0⟩, ⟨19, 16, .rw, 0⟩, ⟨15, 14, .rw, 0⟩, ⟨13, 13, .rw, 0⟩, ⟨11, 10, .rw, 0⟩]
  | .dlKbase => mkDesc [(0x400000, 64)] 0x4000 0x1014 16 0x100 1 0x0 [⟨14, 0, .rw, 0⟩]
  | .dlKlen => mkDesc [(0x400000, 64)] 0x4000 0x1018 16 0x100 1 0x0 [⟨12, 0, .rw, 1⟩]
  | .dlKreg => mkDesc [(0x400000, 64)] 0x4000 0x101C 16 0x100 1 0x0 [⟨31, 16, .rw, 0⟩, ⟨15, 0, .rw, 0⟩]
  | .dlB => mkDesc [(0x400000, 64)] 0x4000 0x1020 16 0x100 3 0x10 [⟨31, 16, .rw, 0⟩, ⟨15, 0, .rw, 0⟩]
  | .dlBCLo => mkDesc [(0x400000, 64)] 0x4000 0x1024 16 0x100 3 0x10 [⟨31, 0, .rw, 0⟩]
  | .dlBCHi => mkDesc [(0x400000, 64)] 0x4000 0x1028 16 0x100 3 0x10 [⟨15, 0, .rw, 0⟩]
  | .dlDisc => mkDesc [(0x400000, 64)] 0x4000 0x1050 16 0x100 1 0x0 [⟨17, 16, .rw, 0⟩, ⟨15, 0, .rw, 0xFFFF⟩]
  | .dlFolio => mkDesc [(0x400000, 64)] 0x4000 0x1054 16 0x100 1 0x0 [⟨31, 0, .ro, 0⟩]
  | .dlLastI => mkDesc [(0x400000, 64)] 0x4000 0x1058 16 0x100 1 0x0 [⟨31, 0, .ro, 0⟩]
  | .dlLastQ => mkDesc [(0x400000, 64)] 0x4000 0x105C 16 0x100 1 0x0 [⟨31, 0, .ro, 0⟩]
  | .dlLastState => mkDesc [(0x400000, 64)] 0x4000 0x1060 16 0x100 1 0x0 [⟨31, 16, .ro, 0⟩, ⟨1, 0, .ro, 3⟩]
  | .dlResults => mkDesc [(0x400000, 64)] 0x4000 0x1064 16 0x100 1 0x0 [⟨31, 0, .rc, 0⟩]
  | .csCtrl => mkDesc [(0x500000, 512), (0x580000, 64)] 0x100 0x0 1 0x0 1 0x0 [⟨21, 16, .rw, 0⟩, ⟨8, 8, .rw, 0⟩, ⟨7, 0, .rw, 0⟩]
  | .csStatus => mkDesc [(0x500000, 512), (0x580000, 64)] 0x100 0x4 1 0x0 1 0x0 [⟨15, 15, .w1c, 0⟩, ⟨14, 14, .w1c, 0⟩, ⟨13, 13, .w1c, 0⟩, ⟨12, 12, .w1c, 0⟩, ⟨11, 11, .w1c, 0⟩, ⟨10, 10, .w1c, 0⟩, ⟨9, 9, .w1c, 0⟩, ⟨8, 8, .w1c, 0⟩, ⟨3, 3, .ro, 0⟩, ⟨2, 0, .ro, 0⟩]
  | .csPc => mkDesc [(0x500000, 512), (0x580000, 64)] 0x100 0x8 1 0x0 1 0x0 [⟨14, 0, .ro, 0⟩]
  | .csEntry => mkDesc [(0x500000, 512), (0x580000, 64)] 0x100 0xC 1 0x0 1 0x0 [⟨14, 0, .rw, 0⟩]
  | .csSpan => mkDesc [(0x500000, 512), (0x580000, 64)] 0x100 0x10 1 0x0 1 0x0 [⟨31, 16, .rw, 0x8000⟩, ⟨14, 0, .rw, 0⟩]
  | .csJtgt => mkDesc [(0x500000, 512), (0x580000, 64)] 0x100 0x14 1 0x0 1 0x0 [⟨14, 0, .rw, 0⟩]
  | .csTLo => mkDesc [(0x500000, 512), (0x580000, 64)] 0x100 0x18 1 0x0 1 0x0 [⟨31, 0, .ro, 0⟩]
  | .csTHi => mkDesc [(0x500000, 512), (0x580000, 64)] 0x100 0x1C 1 0x0 1 0x0 [⟨31, 0, .ro, 0⟩]
  | .csBlock => mkDesc [(0x500000, 512), (0x580000, 64)] 0x100 0x20 1 0x0 1 0x0 [⟨31, 30, .ro, 0⟩, ⟨29, 29, .ro, 0⟩, ⟨15, 0, .ro, 0⟩]
  | .csBlockser => mkDesc [(0x500000, 512), (0x580000, 64)] 0x100 0x24 1 0x0 1 0x0 [⟨31, 0, .ro, 0⟩]
  | .csLeadLo => mkDesc [(0x500000, 512), (0x580000, 64)] 0x100 0x28 1 0x0 1 0x0 [⟨31, 0, .ro, 0⟩]
  | .csLeadHi => mkDesc [(0x500000, 512), (0x580000, 64)] 0x100 0x2C 1 0x0 1 0x0 [⟨31, 0, .ro, 0⟩]
  | .csEnergyLo => mkDesc [(0x500000, 512), (0x580000, 64)] 0x100 0x30 1 0x0 1 0x0 [⟨31, 0, .ro, 0⟩]
  | .csEnergyHi => mkDesc [(0x500000, 512), (0x580000, 64)] 0x100 0x34 1 0x0 1 0x0 [⟨31, 0, .ro, 0⟩]
  | .csAlt => mkDesc [(0x500000, 512), (0x580000, 64)] 0x100 0x40 4 0x4 1 0x0 [⟨31, 31, .rw, 0⟩, ⟨14, 0, .rw, 0⟩]
  | .csGateL01 => mkDesc [(0x500000, 512), (0x580000, 64)] 0x100 0x50 4 0xC 1 0x0 [⟨26, 16, .rw, 0⟩, ⟨10, 0, .rw, 0⟩]
  | .csGateL23 => mkDesc [(0x500000, 512), (0x580000, 64)] 0x100 0x54 4 0xC 1 0x0 [⟨26, 16, .rw, 0⟩, ⟨10, 0, .rw, 0⟩]
  | .csGateCtrl => mkDesc [(0x500000, 512), (0x580000, 64)] 0x100 0x58 4 0xC 1 0x0 [⟨31, 16, .rw, 0⟩, ⟨15, 13, .rw, 0⟩, ⟨12, 10, .rw, 0⟩, ⟨9, 7, .rw, 0⟩, ⟨6, 4, .rw, 0⟩, ⟨3, 3, .rw, 0⟩, ⟨1, 0, .rw, 0⟩]
  | .csLoop => mkDesc [(0x500000, 512), (0x580000, 64)] 0x100 0x80 4 0x4 1 0x0 [⟨23, 0, .ro, 0⟩]
  | .tgCtrl => mkDesc [(0x600000, 16)] 0x400 0x0 1 0x0 1 0x0 [⟨31, 24, .rw, 0⟩, ⟨23, 23, .rw, 0⟩, ⟨22, 20, .rw, 0⟩, ⟨19, 18, .rw, 0⟩, ⟨17, 16, .rw, 0⟩, ⟨15, 12, .rw, 0⟩, ⟨11, 1, .rw, 0⟩, ⟨0, 0, .rw, 0⟩]
  | .tgStatus => mkDesc [(0x600000, 16)] 0x400 0x4 1 0x0 1 0x0 [⟨9, 9, .w1c, 0⟩, ⟨8, 8, .w1c, 0⟩, ⟨7, 4, .ro, 0⟩, ⟨3, 3, .ro, 0⟩, ⟨2, 0, .ro, 0⟩]
  | .tgHold => mkDesc [(0x600000, 16)] 0x400 0x8 1 0x0 1 0x0 [⟨31, 0, .rw, 0⟩]
  | .tgHoldec => mkDesc [(0x600000, 16)] 0x400 0xC 1 0x0 1 0x0 [⟨31, 24, .rw, 0⟩]
  | .tgCap => mkDesc [(0x600000, 16)] 0x400 0x10 1 0x0 1 0x0 [⟨31, 31, .rw, 0⟩, ⟨30, 30, .rw, 0⟩, ⟨13, 8, .rw, 0⟩, ⟨5, 0, .rw, 0⟩]
  | .tgCaplen => mkDesc [(0x600000, 16)] 0x400 0x14 1 0x0 1 0x0 [⟨31, 0, .rw, 2⟩]
  | .tgCapdly => mkDesc [(0x600000, 16)] 0x400 0x18 1 0x0 1 0x0 [⟨31, 0, .rw, 0⟩]
  | .tgLimit => mkDesc [(0x600000, 16)] 0x400 0x20 4 0x4 1 0x0 [⟨31, 0, .rw, 0⟩]
  | .tgCount => mkDesc [(0x600000, 16)] 0x400 0x30 4 0x4 1 0x0 [⟨31, 0, .ro, 0⟩]
  | .tgTperiod => mkDesc [(0x600000, 16)] 0x400 0x40 4 0x4 1 0x0 [⟨31, 0, .rw, 0x40⟩]
  | .tgPat => mkDesc [(0x600000, 16)] 0x400 0x50 2 0x4 1 0x0 [⟨31, 0, .rw, 0⟩]
  | .tgDc => mkDesc [(0x600000, 16)] 0x400 0x58 2 0x4 1 0x0 [⟨31, 0, .rw, 0xFFFFFFFF⟩]
  | .tgLevel => mkDesc [(0x600000, 16)] 0x400 0x60 1 0x0 1 0x0 [⟨27, 20, .rw, 0⟩, ⟨11, 0, .rw, 0⟩]
  | .tgMc => mkDesc [(0x600000, 16)] 0x400 0x70 4 0x8 1 0x0 [⟨4, 4, .rw, 0⟩, ⟨3, 3, .rw, 0⟩, ⟨2, 0, .rw, 0⟩]
  | .tgMcThresh => mkDesc [(0x600000, 16)] 0x400 0x74 4 0x8 1 0x0 [⟨31, 0, .rw, 0⟩]
  | .tgMinmax => mkDesc [(0x600000, 16)] 0x400 0xA0 1 0x0 1 0x0 [⟨27, 16, .ro, 0⟩, ⟨11, 0, .ro, 0⟩]
  | .tgMean => mkDesc [(0x600000, 16)] 0x400 0xA4 1 0x0 1 0x0 [⟨23, 0, .ro, 0⟩]
  | .tgRms => mkDesc [(0x600000, 16)] 0x400 0xA8 1 0x0 1 0x0 [⟨23, 0, .ro, 0⟩]
  | .tgAmpl => mkDesc [(0x600000, 16)] 0x400 0xAC 1 0x0 1 0x0 [⟨23, 0, .ro, 0⟩]
  | .tgPeriod => mkDesc [(0x600000, 16)] 0x400 0xB0 1 0x0 1 0x0 [⟨31, 0, .ro, 0⟩]
  | .tgNcross => mkDesc [(0x600000, 16)] 0x400 0xB4 1 0x0 1 0x0 [⟨31, 0, .ro, 0⟩]
  | .tgMendLo => mkDesc [(0x600000, 16)] 0x400 0xB8 1 0x0 1 0x0 [⟨31, 0, .ro, 0⟩]
  | .tgMendHi => mkDesc [(0x600000, 16)] 0x400 0xBC 1 0x0 1 0x0 [⟨31, 0, .ro, 0⟩]
  | .tgMflags => mkDesc [(0x600000, 16)] 0x400 0xC0 1 0x0 1 0x0 [⟨4, 0, .ro, 0⟩]
  | .tgS => mkDesc [(0x600000, 16)] 0x400 0x100 16 0xC 1 0x0 [⟨31, 29, .rw, 0⟩, ⟨24, 16, .rw, 0x1FF⟩, ⟨8, 0, .rw, 0x1FF⟩]
  | .tgST => mkDesc [(0x600000, 16)] 0x400 0x104 16 0xC 1 0x0 [⟨19, 16, .rw, 0⟩, ⟨15, 0, .rw, 0⟩]
  | .tgSE => mkDesc [(0x600000, 16)] 0x400 0x108 16 0xC 1 0x0 [⟨28, 20, .rw, 0x1FF⟩, ⟨19, 16, .rw, 0⟩, ⟨15, 0, .rw, 0⟩]
  | .tgFirecnt => mkDesc [(0x600000, 16)] 0x400 0x1C0 1 0x0 1 0x0 [⟨31, 0, .ro, 0⟩]
  | .tgLastfireLo => mkDesc [(0x600000, 16)] 0x400 0x1C4 1 0x0 1 0x0 [⟨31, 0, .ro, 0⟩]
  | .tgLastfireHi => mkDesc [(0x600000, 16)] 0x400 0x1C8 1 0x0 1 0x0 [⟨31, 0, .ro, 0⟩]
  | .tiCfg => mkDesc [(0x604000, 16)] 0x10 0x0 1 0x0 1 0x0 [⟨31, 24, .rc, 0⟩, ⟨23, 12, .rw, 0⟩, ⟨1, 0, .rw, 0⟩]
  | .dt => mkDesc [(0x604100, 16)] 0x8 0x0 1 0x0 1 0x0 [⟨31, 28, .rw, 0⟩, ⟨27, 22, .rw, 0⟩, ⟨21, 16, .rw, 0⟩, ⟨10, 0, .rw, 0⟩]
  | .dtFires => mkDesc [(0x604100, 16)] 0x8 0x4 1 0x0 1 0x0 [⟨31, 0, .rc, 0⟩]
  | .tgPub => mkDesc [(0x604200, 16)] 0x8 0x0 1 0x0 1 0x0 [⟨31, 31, .rw, 0⟩, ⟨23, 16, .rw, 0⟩, ⟨15, 8, .rw, 0⟩, ⟨7, 0, .rw, 0⟩]
  | .tgPubExtra => mkDesc [(0x604200, 16)] 0x8 0x4 1 0x0 1 0x0 [⟨15, 0, .rw, 0⟩]
  | .tgXin => mkDesc [(0x0, 1)] 0x0 0x604300 16 0x4 1 0x0 [⟨31, 31, .rw, 0⟩, ⟨10, 8, .rw, 0⟩, ⟨7, 0, .rw, 0⟩]
  | .tgFwd => mkDesc [(0x604400, 16)] 0x8 0x0 1 0x0 1 0x0 [⟨31, 31, .rw, 0⟩, ⟨15, 8, .rw, 0⟩, ⟨7, 0, .rw, 0⟩]
  | .tgFwdIo => mkDesc [(0x604400, 16)] 0x8 0x4 1 0x0 1 0x0 [⟨15, 8, .rw, 0⟩, ⟨7, 0, .rw, 0⟩]
  | .tgXstatus => mkDesc [(0x0, 1)] 0x0 0x604500 1 0x0 1 0x0 [⟨3, 3, .w1c, 0⟩, ⟨2, 2, .w1c, 0⟩, ⟨1, 1, .w1c, 0⟩, ⟨0, 0, .w1c, 0⟩]
  | .dfCtrl => mkDesc [(0x0, 1)] 0x0 0x700000 1 0x0 1 0x0 [⟨0, 0, .rw, 0⟩]
  | .dfStatus => mkDesc [(0x0, 1)] 0x0 0x700004 1 0x0 1 0x0 [⟨7, 7, .w1c, 0⟩, ⟨6, 6, .w1c, 0⟩, ⟨5, 5, .w1c, 0⟩, ⟨4, 4, .w1c, 0⟩, ⟨3, 3, .w1c, 0⟩, ⟨2, 2, .w1c, 0⟩, ⟨1, 1, .w1c, 0⟩, ⟨0, 0, .w1c, 0⟩]
  | .dfPortdown => mkDesc [(0x0, 1)] 0x0 0x700008 1 0x0 1 0x0 [⟨7, 0, .ro, 0xFF⟩]
  | .dfLatecnt => mkDesc [(0x0, 1)] 0x0 0x700010 1 0x0 1 0x0 [⟨31, 0, .rc, 0⟩]
  | .dfTxdrop => mkDesc [(0x0, 1)] 0x0 0x700014 1 0x0 1 0x0 [⟨31, 0, .rc, 0⟩]
  | .dfRxdrop => mkDesc [(0x0, 1)] 0x0 0x700018 1 0x0 1 0x0 [⟨31, 0, .rc, 0⟩]
  | .dfTaintcnt => mkDesc [(0x0, 1)] 0x0 0x70001C 1 0x0 1 0x0 [⟨31, 0, .ro, 0⟩]
  | .dfPub => mkDesc [(0x700100, 256)] 0x8 0x0 1 0x0 1 0x0 [⟨31, 31, .rw, 0⟩, ⟨23, 16, .rw, 0⟩, ⟨9, 0, .rw, 0⟩]
  | .dfPubExtra => mkDesc [(0x700100, 256)] 0x8 0x4 1 0x0 1 0x0 [⟨15, 0, .rw, 0⟩]
  | .dfXin => mkDesc [(0x0, 1)] 0x0 0x700900 256 0x4 1 0x0 [⟨31, 31, .rw, 0⟩, ⟨8, 8, .ro, 0⟩, ⟨2, 0, .rw, 0⟩]
  | .dfFwd => mkDesc [(0x700D00, 64)] 0x8 0x0 1 0x0 1 0x0 [⟨31, 31, .rw, 0⟩, ⟨15, 8, .rw, 0⟩, ⟨7, 0, .rw, 0⟩]
  | .dfFwdIo => mkDesc [(0x700D00, 64)] 0x8 0x4 1 0x0 1 0x0 [⟨15, 8, .rw, 0⟩, ⟨7, 0, .rw, 0⟩]
  | .dfWord => mkDesc [(0x0, 1)] 0x0 0x701000 1280 0x4 1 0x0 [⟨3, 0, .ro, 0⟩]

/-- The registers of the block "identity". -/
def regBlock0 : List RegName :=
  List.flatten [
    [.ident, .revision]]

/-- The registers of the block "time base". -/
def regBlock1 : List RegName :=
  List.flatten [
    [.tbCtrl, .tbStatus, .tbScLo, .tbScHi, .tbSsiLo, .tbSsiHi, .tbDt, .tbOffset, .tbRateAdj, .tbStepcount, .tbSyncDelay, .tbEpochLo],
    [.tbEpochHi, .tbSyncSLo, .tbSyncSHi, .tbSyncF, .tbWordofsLo, .tbWordofsHi, .tbRegdelay, .tbSyncPer, .tbSyncmonErr, .tbSyncGenLo, .tbSyncGenHi, .tbLdly],
    [.tbLofs, .tbLstat, .tbTaLo, .tbTaHi, .tbTaPer, .tbTaCtrl]]

/-- The registers of the block "events". -/
def regBlock2 : List RegName :=
  List.flatten [
    [.evCtrl, .evStatus, .evInject, .evLoopch, .evEc, .evEcCfg, .evEcOwn, .evEcLastLo, .evEcLastHi, .evcCtrl, .evcStatus, .evcValLo],
    [.evcValHi, .evcSnapLo, .evcSnapHi, .evcSnaptLo, .evcSnaptHi, .evcWsLo, .evcWsHi, .evcWeLo, .evcWeHi]]

/-- The registers of the block "budget". -/
def regBlock3 : List RegName :=
  List.flatten [
    [.budCtrl, .budStatus, .budReserve, .budEsamp, .budLeadmax, .budHotlead, .budTj, .budLeadnow, .budAdmits, .budAlts, .budDefers, .budRefusals],
    [.budCfg, .budCLo, .budCHi, .budPcoolLo, .budPcoolHi, .budPstatLo, .budPstatHi, .budTbase, .budTlim, .budLag, .budTmo, .budHlimLo],
    [.budHlimHi, .budDecayLo, .budDecayHi, .budFloorLo, .budFloorHi, .budHLo, .budHHi, .budULo, .budUHi, .budTmod, .budTmeas, .budLstat],
    [.budOwn, .budHlimeLo, .budHlimeHi, .budAttn]]

/-- The registers of the block "bench". -/
def regBlock4 : List RegName :=
  List.flatten [
    [.bnCtrl, .bnStatus, .bnScanmask, .bnPeriod, .bnRingWr, .bnRingRd, .bnRingDrop, .bnPasscnt, .bnDiscard, .bnSense, .bnDisch, .bnPtConv],
    [.bnPtExc, .bnPtStat]]

/-- The registers of the block "calibration". -/
def regBlock5 : List RegName :=
  List.flatten [
    [.calCtrl, .calStatus, .calRefvLo, .calRefvHi, .calRefvU, .calCommitper, .calDue, .calTpoint, .calProv, .calXmask, .calCountLo, .calCountHi],
    [.calTime, .calPeriod, .calLimit]]

/-- The registers of the block "memory". -/
def regBlock6 : List RegName :=
  List.flatten [
    [.memCtrl, .memStatus, .memGran, .memMergeTmo, .memScrubPer, .memCorrDram, .memCorrSram, .memUeSram, .memParerr, .memRmw, .memFreezes, .memScrubLine],
    [.memScrubPasses, .memSramPasses, .memFrzCause, .memFrzLine, .memFrzSynd, .memFrzSsiLo, .memFrzSsiHi, .memSue, .memSpares, .memRepairFree, .drRefstat]]

/-- The registers of the block "lanes". -/
def regBlock7 : List RegName :=
  List.flatten [
    [.lkDevid, .lnPctl, .lnPstat, .lnPmap, .lnPeer, .lnAlseq, .lnUpcnt, .lnDowncnt, .lnCtl, .lnStat, .lnHdrerr, .lnBlkerr],
    [.lnUnlockcnt, .lnPrbserr, .lnDskw, .lnEye, .lkPctl, .lkPstat, .lkCred0, .lkCred23, .lkPeerbuf, .lkReplay, .lkRtwait, .lkRetrycnt],
    [.lkGiveup, .lkV1retry, .lkV1lost, .lkLostfr, .lkMisvc, .lkSparecnt, .lkFtx, .lkFrx, .lkUpcnt, .lkHaltcnt]]

/-- The registers of the block "command engine". -/
def regBlock8 : List RegName :=
  List.flatten [
    [.ceStatus, .ceAlert, .ceAlertEn, .ceAccepted, .ceAuthfail, .ceStale, .ceDups, .ceTimeouts, .cePreempts, .ceSpidrop, .ceNotify, .ceHighseq],
    [.ceNotlost, .ceNotseq, .mcVersion, .mcPending, .mcSecver, .mcMinsec, .mcStatus, .secStatus, .secOpenctr, .secOwnerdig, .secSerial, .secBootnonce],
    [.secSess, .secSessfail, .secTagfail, .secColwr, .secColrd, .secColdefer, .secSigq, .secOwn]]

/-- The registers of the block "thermal". -/
def regBlock9 : List RegName :=
  List.flatten [
    [.thCtrl, .thStatus, .thTj, .thTmin, .thBroken0, .thBroken1, .thStart, .thElapsed, .thDiet, .thCvofs, .thTs]]

/-- The registers of the block "output port". -/
def regBlock10 : List RegName :=
  List.flatten [
    [.opMode, .opBias, .opTrim, .opModeAct, .opBiasAct, .opKern, .opSkew, .opStatus, .opPfsLo, .opPfsHi, .opCgain, .opCofs],
    [.opCimg, .opBind]]

/-- The registers of the block "forme". -/
def regBlock11 : List RegName :=
  List.flatten [
    [.fmStrobe, .fmOuten, .fmStrobecnt, .fmLaststrobeLo, .fmLaststrobeHi, .fmSafe, .fmSpancut, .fmIlim, .fmMkCtrl, .fmMkState, .galLate01, .galCtrl],
    [.galStatus, .galClip, .galLoadser, .galRflag0, .galRflag1, .galLate27, .galRing, .galRingRate, .galRingRd, .galRingWr, .fmCarFreqLo, .fmCarFreqHi],
    [.fmCarOfsLo, .fmCarOfsHi]]

/-- The registers of the block "input port". -/
def regBlock12 : List RegName :=
  List.flatten [
    [.ipCtrl, .ipStatus, .ipSkew, .ipCapBase, .ipCapSize, .ipCapWr, .ipCapCtrl, .ipCapLost, .ipCapser, .ipRecCtrl, .ipRecFill, .ipRecDrop],
    [.ipSpoolBase, .ipSpoolSize, .ipSpoolWr, .ipSpoolRd, .ipDprog, .dlFreqLo, .dlFreqHi, .dlOfsLo, .dlOfsHi, .dlCtrl, .dlKbase, .dlKlen],
    [.dlKreg, .dlB, .dlBCLo, .dlBCHi, .dlDisc, .dlFolio, .dlLastI, .dlLastQ, .dlLastState, .dlResults]]

/-- The registers of the block "sequencers (CS then RS)". -/
def regBlock13 : List RegName :=
  List.flatten [
    [.csCtrl, .csStatus, .csPc, .csEntry, .csSpan, .csJtgt, .csTLo, .csTHi, .csBlock, .csBlockser, .csLeadLo, .csLeadHi],
    [.csEnergyLo, .csEnergyHi, .csAlt, .csGateL01, .csGateL23, .csGateCtrl, .csLoop]]

/-- The registers of the block "triggers". -/
def regBlock14 : List RegName :=
  List.flatten [
    [.tgCtrl, .tgStatus, .tgHold, .tgHoldec, .tgCap, .tgCaplen, .tgCapdly, .tgLimit, .tgCount, .tgTperiod, .tgPat, .tgDc],
    [.tgLevel, .tgMc, .tgMcThresh, .tgMinmax, .tgMean, .tgRms, .tgAmpl, .tgPeriod, .tgNcross, .tgMendLo, .tgMendHi, .tgMflags],
    [.tgS, .tgST, .tgSE, .tgFirecnt, .tgLastfireLo, .tgLastfireHi, .tiCfg, .dt, .dtFires, .tgPub, .tgPubExtra, .tgXin],
    [.tgFwd, .tgFwdIo, .tgXstatus]]

/-- The registers of the block "decision fabric". -/
def regBlock15 : List RegName :=
  List.flatten [
    [.dfCtrl, .dfStatus, .dfPortdown, .dfLatecnt, .dfTxdrop, .dfRxdrop, .dfTaintcnt, .dfPub, .dfPubExtra, .dfXin, .dfFwd, .dfFwdIo],
    [.dfWord]]

/-- A field of a named register. -/
structure Fld where
  reg : RegName
  hi : Nat
  lo : Nat
  deriving DecidableEq, Repr

namespace F

/-- IDENT, bits [31:0]. -/
abbrev ident : Fld := ⟨.ident, 31, 0⟩
/-- REVISION.MAJOR, bits [31:24]. -/
abbrev revisionMajor : Fld := ⟨.revision, 31, 24⟩
/-- REVISION.MINOR, bits [23:16]. -/
abbrev revisionMinor : Fld := ⟨.revision, 23, 16⟩
/-- REVISION.METAL, bits [15:0]. -/
abbrev revisionMetal : Fld := ⟨.revision, 15, 0⟩
/-- TB_CTRL.SEAL, bits [8:8]. -/
abbrev tbCtrlSeal : Fld := ⟨.tbCtrl, 8, 8⟩
/-- TB_CTRL.REFCLK_OUT_EN, bits [7:7]. -/
abbrev tbCtrlRefclkOutEn : Fld := ⟨.tbCtrl, 7, 7⟩
/-- TB_CTRL.SYNC_OUT_MODE, bits [5:4]. -/
abbrev tbCtrlSyncOutMode : Fld := ⟨.tbCtrl, 5, 4⟩
/-- TB_CTRL.LINKCHK, bits [1:1]. -/
abbrev tbCtrlLinkchk : Fld := ⟨.tbCtrl, 1, 1⟩
/-- TB_CTRL.SYNC_ARM, bits [0:0]. -/
abbrev tbCtrlSyncArm : Fld := ⟨.tbCtrl, 0, 0⟩
/-- TB_STATUS.LINKBAD, bits [15:8]. -/
abbrev tbStatusLinkbad : Fld := ⟨.tbStatus, 15, 8⟩
/-- TB_STATUS.STEP, bits [7:7]. -/
abbrev tbStatusStep : Fld := ⟨.tbStatus, 7, 7⟩
/-- TB_STATUS.SYNC_DRIFT, bits [6:6]. -/
abbrev tbStatusSyncDrift : Fld := ⟨.tbStatus, 6, 6⟩
/-- TB_STATUS.SYNC_SHORT, bits [5:5]. -/
abbrev tbStatusSyncShort : Fld := ⟨.tbStatus, 5, 5⟩
/-- TB_STATUS.SYNC_FAST, bits [4:4]. -/
abbrev tbStatusSyncFast : Fld := ⟨.tbStatus, 4, 4⟩
/-- TB_STATUS.REG_STATE, bits [2:0]. -/
abbrev tbStatusRegState : Fld := ⟨.tbStatus, 2, 0⟩
/-- TB_SC_LO, bits [31:0]. -/
abbrev tbScLo : Fld := ⟨.tbScLo, 31, 0⟩
/-- TB_SC_HI, bits [31:0]. -/
abbrev tbScHi : Fld := ⟨.tbScHi, 31, 0⟩
/-- TB_SSI_LO, bits [31:0]. -/
abbrev tbSsiLo : Fld := ⟨.tbSsiLo, 31, 0⟩
/-- TB_SSI_HI, bits [31:0]. -/
abbrev tbSsiHi : Fld := ⟨.tbSsiHi, 31, 0⟩
/-- TB_DT, bits [31:0]. -/
abbrev tbDt : Fld := ⟨.tbDt, 31, 0⟩
/-- TB_OFFSET, bits [31:0]. -/
abbrev tbOffset : Fld := ⟨.tbOffset, 31, 0⟩
/-- TB_RATE_ADJ, bits [31:0]. -/
abbrev tbRateAdj : Fld := ⟨.tbRateAdj, 31, 0⟩
/-- TB_STEPCOUNT, bits [31:0]. -/
abbrev tbStepcount : Fld := ⟨.tbStepcount, 31, 0⟩
/-- TB_SYNC_DELAY, bits [31:0]. -/
abbrev tbSyncDelay : Fld := ⟨.tbSyncDelay, 31, 0⟩
/-- TB_EPOCH_LO, bits [31:0]. -/
abbrev tbEpochLo : Fld := ⟨.tbEpochLo, 31, 0⟩
/-- TB_EPOCH_HI, bits [31:0]. -/
abbrev tbEpochHi : Fld := ⟨.tbEpochHi, 31, 0⟩
/-- TB_SYNC_S_LO, bits [31:0]. -/
abbrev tbSyncSLo : Fld := ⟨.tbSyncSLo, 31, 0⟩
/-- TB_SYNC_S_HI, bits [31:0]. -/
abbrev tbSyncSHi : Fld := ⟨.tbSyncSHi, 31, 0⟩
/-- TB_SYNC_F.F, bits [7:0]. -/
abbrev tbSyncFF : Fld := ⟨.tbSyncF, 7, 0⟩
/-- TB_WORDOFS_LO, bits [31:0]. -/
abbrev tbWordofsLo : Fld := ⟨.tbWordofsLo, 31, 0⟩
/-- TB_WORDOFS_HI, bits [31:0]. -/
abbrev tbWordofsHi : Fld := ⟨.tbWordofsHi, 31, 0⟩
/-- TB_REGDELAY.D, bits [12:0]. -/
abbrev tbRegdelayD : Fld := ⟨.tbRegdelay, 12, 0⟩
/-- TB_SYNC_PER, bits [31:0]. -/
abbrev tbSyncPer : Fld := ⟨.tbSyncPer, 31, 0⟩
/-- TB_SYNCMON_ERR, bits [31:0]. -/
abbrev tbSyncmonErr : Fld := ⟨.tbSyncmonErr, 31, 0⟩
/-- TB_SYNC_GEN_LO, bits [31:0]. -/
abbrev tbSyncGenLo : Fld := ⟨.tbSyncGenLo, 31, 0⟩
/-- TB_SYNC_GEN_HI, bits [31:0]. -/
abbrev tbSyncGenHi : Fld := ⟨.tbSyncGenHi, 31, 0⟩
/-- TB_LDLY, bits [31:0]. -/
abbrev tbLdly : Fld := ⟨.tbLdly, 31, 0⟩
/-- TB_LOFS, bits [31:0]. -/
abbrev tbLofs : Fld := ⟨.tbLofs, 31, 0⟩
/-- TB_LSTAT.MEASURED, bits [1:1]. -/
abbrev tbLstatMeasured : Fld := ⟨.tbLstat, 1, 1⟩
/-- TB_LSTAT.PASS, bits [0:0]. -/
abbrev tbLstatPass : Fld := ⟨.tbLstat, 0, 0⟩
/-- TB_TA_LO, bits [31:0]. -/
abbrev tbTaLo : Fld := ⟨.tbTaLo, 31, 0⟩
/-- TB_TA_HI, bits [31:0]. -/
abbrev tbTaHi : Fld := ⟨.tbTaHi, 31, 0⟩
/-- TB_TA_PER, bits [31:0]. -/
abbrev tbTaPer : Fld := ⟨.tbTaPer, 31, 0⟩
/-- TB_TA_CTRL.FIRED, bits [1:1]. -/
abbrev tbTaCtrlFired : Fld := ⟨.tbTaCtrl, 1, 1⟩
/-- TB_TA_CTRL.ENABLE, bits [0:0]. -/
abbrev tbTaCtrlEnable : Fld := ⟨.tbTaCtrl, 0, 0⟩
/-- EV_CTRL.LOOP_MAX, bits [6:0]. -/
abbrev evCtrlLoopMax : Fld := ⟨.evCtrl, 6, 0⟩
/-- EV_STATUS.SEALCUT, bits [2:2]. -/
abbrev evStatusSealcut : Fld := ⟨.evStatus, 2, 2⟩
/-- EV_STATUS.LOOP, bits [1:1]. -/
abbrev evStatusLoop : Fld := ⟨.evStatus, 1, 1⟩
/-- EV_STATUS.COINCIDE, bits [0:0]. -/
abbrev evStatusCoincide : Fld := ⟨.evStatus, 0, 0⟩
/-- EV_INJECT.HI, bits [15:0]. -/
abbrev evInjectHi : Fld := ⟨.evInject, 15, 0⟩
/-- EV_LOOPCH, bits [31:0]. -/
abbrev evLoopch : Fld := ⟨.evLoopch, 31, 0⟩
/-- EV_EC.ODD, bits [31:16]. -/
abbrev evEcOdd : Fld := ⟨.evEc, 31, 16⟩
/-- EV_EC.EVEN, bits [15:0]. -/
abbrev evEcEven : Fld := ⟨.evEc, 15, 0⟩
/-- EV_EC_CFG.GUARD, bits [0:0]. -/
abbrev evEcCfgGuard : Fld := ⟨.evEcCfg, 0, 0⟩
/-- EV_EC_OWN.SEALED, bits [8:8]. -/
abbrev evEcOwnSealed : Fld := ⟨.evEcOwn, 8, 8⟩
/-- EV_EC_OWN.OWNER, bits [3:0]. -/
abbrev evEcOwnOwner : Fld := ⟨.evEcOwn, 3, 0⟩
/-- EV_EC_LAST_LO, bits [31:0]. -/
abbrev evEcLastLo : Fld := ⟨.evEcLastLo, 31, 0⟩
/-- EV_EC_LAST_HI, bits [31:0]. -/
abbrev evEcLastHi : Fld := ⟨.evEcLastHi, 31, 0⟩
/-- EVC_CTRL.EN, bits [31:31]. -/
abbrev evcCtrlEn : Fld := ⟨.evcCtrl, 31, 31⟩
/-- EVC_CTRL.GATED, bits [30:30]. -/
abbrev evcCtrlGated : Fld := ⟨.evcCtrl, 30, 30⟩
/-- EVC_CTRL.SNAP_EN, bits [29:29]. -/
abbrev evcCtrlSnapEn : Fld := ⟨.evcCtrl, 29, 29⟩
/-- EVC_CTRL.SRC, bits [24:16]. -/
abbrev evcCtrlSrc : Fld := ⟨.evcCtrl, 24, 16⟩
/-- EVC_CTRL.SNAP_EC, bits [15:8]. -/
abbrev evcCtrlSnapEc : Fld := ⟨.evcCtrl, 15, 8⟩
/-- EVC_CTRL.SNAP, bits [1:1]. -/
abbrev evcCtrlSnap : Fld := ⟨.evcCtrl, 1, 1⟩
/-- EVC_CTRL.CLR, bits [0:0]. -/
abbrev evcCtrlClr : Fld := ⟨.evcCtrl, 0, 0⟩
/-- EVC_STATUS.WRAP, bits [1:1]. -/
abbrev evcStatusWrap : Fld := ⟨.evcStatus, 1, 1⟩
/-- EVC_STATUS.SNAPPED, bits [0:0]. -/
abbrev evcStatusSnapped : Fld := ⟨.evcStatus, 0, 0⟩
/-- EVC_VAL_LO, bits [31:0]. -/
abbrev evcValLo : Fld := ⟨.evcValLo, 31, 0⟩
/-- EVC_VAL_HI, bits [15:0]. -/
abbrev evcValHi : Fld := ⟨.evcValHi, 15, 0⟩
/-- EVC_SNAP_LO, bits [31:0]. -/
abbrev evcSnapLo : Fld := ⟨.evcSnapLo, 31, 0⟩
/-- EVC_SNAP_HI, bits [15:0]. -/
abbrev evcSnapHi : Fld := ⟨.evcSnapHi, 15, 0⟩
/-- EVC_SNAPT_LO, bits [31:0]. -/
abbrev evcSnaptLo : Fld := ⟨.evcSnaptLo, 31, 0⟩
/-- EVC_SNAPT_HI, bits [31:0]. -/
abbrev evcSnaptHi : Fld := ⟨.evcSnaptHi, 31, 0⟩
/-- EVC_WS_LO, bits [31:0]. -/
abbrev evcWsLo : Fld := ⟨.evcWsLo, 31, 0⟩
/-- EVC_WS_HI, bits [31:0]. -/
abbrev evcWsHi : Fld := ⟨.evcWsHi, 31, 0⟩
/-- EVC_WE_LO, bits [31:0]. -/
abbrev evcWeLo : Fld := ⟨.evcWeLo, 31, 0⟩
/-- EVC_WE_HI, bits [31:0]. -/
abbrev evcWeHi : Fld := ⟨.evcWeHi, 31, 0⟩
/-- BUD_CTRL.SEAL, bits [0:0]. -/
abbrev budCtrlSeal : Fld := ⟨.budCtrl, 0, 0⟩
/-- BUD_STATUS.STALE, bits [6:6]. -/
abbrev budStatusStale : Fld := ⟨.budStatus, 6, 6⟩
/-- BUD_STATUS.OVER, bits [5:5]. -/
abbrev budStatusOver : Fld := ⟨.budStatus, 5, 5⟩
/-- BUD_STATUS.INFEAS, bits [4:4]. -/
abbrev budStatusInfeas : Fld := ⟨.budStatus, 4, 4⟩
/-- BUD_STATUS.DEFER, bits [3:3]. -/
abbrev budStatusDefer : Fld := ⟨.budStatus, 3, 3⟩
/-- BUD_STATUS.ALT, bits [2:2]. -/
abbrev budStatusAlt : Fld := ⟨.budStatus, 2, 2⟩
/-- BUD_STATUS.LEAD, bits [1:1]. -/
abbrev budStatusLead : Fld := ⟨.budStatus, 1, 1⟩
/-- BUD_STATUS.HOT, bits [0:0]. -/
abbrev budStatusHot : Fld := ⟨.budStatus, 0, 0⟩
/-- BUD_RESERVE.RES2, bits [23:16]. -/
abbrev budReserveRes2 : Fld := ⟨.budReserve, 23, 16⟩
/-- BUD_RESERVE.RES1, bits [15:8]. -/
abbrev budReserveRes1 : Fld := ⟨.budReserve, 15, 8⟩
/-- BUD_RESERVE.RES0, bits [7:0]. -/
abbrev budReserveRes0 : Fld := ⟨.budReserve, 7, 0⟩
/-- BUD_ESAMP, bits [31:0]. -/
abbrev budEsamp : Fld := ⟨.budEsamp, 31, 0⟩
/-- BUD_LEADMAX, bits [31:0]. -/
abbrev budLeadmax : Fld := ⟨.budLeadmax, 31, 0⟩
/-- BUD_HOTLEAD, bits [31:0]. -/
abbrev budHotlead : Fld := ⟨.budHotlead, 31, 0⟩
/-- BUD_TJ, bits [31:0]. -/
abbrev budTj : Fld := ⟨.budTj, 31, 0⟩
/-- BUD_LEADNOW.N, bits [9:0]. -/
abbrev budLeadnowN : Fld := ⟨.budLeadnow, 9, 0⟩
/-- BUD_ADMITS, bits [31:0]. -/
abbrev budAdmits : Fld := ⟨.budAdmits, 31, 0⟩
/-- BUD_ALTS, bits [31:0]. -/
abbrev budAlts : Fld := ⟨.budAlts, 31, 0⟩
/-- BUD_DEFERS, bits [31:0]. -/
abbrev budDefers : Fld := ⟨.budDefers, 31, 0⟩
/-- BUD_REFUSALS, bits [31:0]. -/
abbrev budRefusals : Fld := ⟨.budRefusals, 31, 0⟩
/-- BUD_CFG.EN, bits [31:31]. -/
abbrev budCfgEn : Fld := ⟨.budCfg, 31, 31⟩
/-- BUD_CFG.CMODE, bits [30:29]. -/
abbrev budCfgCmode : Fld := ⟨.budCfg, 30, 29⟩
/-- BUD_CFG.COMMIT, bits [28:28]. -/
abbrev budCfgCommit : Fld := ⟨.budCfg, 28, 28⟩
/-- BUD_CFG.SRC, bits [19:16]. -/
abbrev budCfgSrc : Fld := ⟨.budCfg, 19, 16⟩
/-- BUD_C_LO, bits [31:0]. -/
abbrev budCLo : Fld := ⟨.budCLo, 31, 0⟩
/-- BUD_C_HI, bits [15:0]. -/
abbrev budCHi : Fld := ⟨.budCHi, 15, 0⟩
/-- BUD_PCOOL_LO, bits [31:0]. -/
abbrev budPcoolLo : Fld := ⟨.budPcoolLo, 31, 0⟩
/-- BUD_PCOOL_HI, bits [15:0]. -/
abbrev budPcoolHi : Fld := ⟨.budPcoolHi, 15, 0⟩
/-- BUD_PSTAT_LO, bits [31:0]. -/
abbrev budPstatLo : Fld := ⟨.budPstatLo, 31, 0⟩
/-- BUD_PSTAT_HI, bits [15:0]. -/
abbrev budPstatHi : Fld := ⟨.budPstatHi, 15, 0⟩
/-- BUD_TBASE, bits [31:0]. -/
abbrev budTbase : Fld := ⟨.budTbase, 31, 0⟩
/-- BUD_TLIM, bits [31:0]. -/
abbrev budTlim : Fld := ⟨.budTlim, 31, 0⟩
/-- BUD_LAG, bits [31:0]. -/
abbrev budLag : Fld := ⟨.budLag, 31, 0⟩
/-- BUD_TMO, bits [31:0]. -/
abbrev budTmo : Fld := ⟨.budTmo, 31, 0⟩
/-- BUD_HLIM_LO, bits [31:0]. -/
abbrev budHlimLo : Fld := ⟨.budHlimLo, 31, 0⟩
/-- BUD_HLIM_HI, bits [31:0]. -/
abbrev budHlimHi : Fld := ⟨.budHlimHi, 31, 0⟩
/-- BUD_DECAY_LO, bits [31:0]. -/
abbrev budDecayLo : Fld := ⟨.budDecayLo, 31, 0⟩
/-- BUD_DECAY_HI, bits [15:0]. -/
abbrev budDecayHi : Fld := ⟨.budDecayHi, 15, 0⟩
/-- BUD_FLOOR_LO, bits [31:0]. -/
abbrev budFloorLo : Fld := ⟨.budFloorLo, 31, 0⟩
/-- BUD_FLOOR_HI, bits [31:0]. -/
abbrev budFloorHi : Fld := ⟨.budFloorHi, 31, 0⟩
/-- BUD_H_LO, bits [31:0]. -/
abbrev budHLo : Fld := ⟨.budHLo, 31, 0⟩
/-- BUD_H_HI, bits [31:0]. -/
abbrev budHHi : Fld := ⟨.budHHi, 31, 0⟩
/-- BUD_U_LO, bits [31:0]. -/
abbrev budULo : Fld := ⟨.budULo, 31, 0⟩
/-- BUD_U_HI, bits [31:0]. -/
abbrev budUHi : Fld := ⟨.budUHi, 31, 0⟩
/-- BUD_TMOD, bits [31:0]. -/
abbrev budTmod : Fld := ⟨.budTmod, 31, 0⟩
/-- BUD_TMEAS, bits [31:0]. -/
abbrev budTmeas : Fld := ⟨.budTmeas, 31, 0⟩
/-- BUD_LSTAT.OVER, bits [1:1]. -/
abbrev budLstatOver : Fld := ⟨.budLstat, 1, 1⟩
/-- BUD_LSTAT.STALE, bits [0:0]. -/
abbrev budLstatStale : Fld := ⟨.budLstat, 0, 0⟩
/-- BUD_OWN.SEALED, bits [8:8]. -/
abbrev budOwnSealed : Fld := ⟨.budOwn, 8, 8⟩
/-- BUD_OWN.OWNER, bits [3:0]. -/
abbrev budOwnOwner : Fld := ⟨.budOwn, 3, 0⟩
/-- BUD_HLIME_LO, bits [31:0]. -/
abbrev budHlimeLo : Fld := ⟨.budHlimeLo, 31, 0⟩
/-- BUD_HLIME_HI, bits [31:0]. -/
abbrev budHlimeHi : Fld := ⟨.budHlimeHi, 31, 0⟩
/-- BUD_ATTN, bits [31:0]. -/
abbrev budAttn : Fld := ⟨.budAttn, 31, 0⟩
/-- BN_CTRL.CALSLOT_EN, bits [19:19]. -/
abbrev bnCtrlCalslotEn : Fld := ⟨.bnCtrl, 19, 19⟩
/-- BN_CTRL.MAINS, bits [17:16]. -/
abbrev bnCtrlMains : Fld := ⟨.bnCtrl, 17, 16⟩
/-- BN_CTRL.START_EC, bits [15:8]. -/
abbrev bnCtrlStartEc : Fld := ⟨.bnCtrl, 15, 8⟩
/-- BN_CTRL.START_EN, bits [2:2]. -/
abbrev bnCtrlStartEn : Fld := ⟨.bnCtrl, 2, 2⟩
/-- BN_CTRL.MODE, bits [1:1]. -/
abbrev bnCtrlMode : Fld := ⟨.bnCtrl, 1, 1⟩
/-- BN_CTRL.RUN, bits [0:0]. -/
abbrev bnCtrlRun : Fld := ⟨.bnCtrl, 0, 0⟩
/-- BN_STATUS.ACTIVE, bits [13:13]. -/
abbrev bnStatusActive : Fld := ⟨.bnStatus, 13, 13⟩
/-- BN_STATUS.CUR, bits [12:8]. -/
abbrev bnStatusCur : Fld := ⟨.bnStatus, 12, 8⟩
/-- BN_STATUS.OVR, bits [4:4]. -/
abbrev bnStatusOvr : Fld := ⟨.bnStatus, 4, 4⟩
/-- BN_STATUS.MAINS_LOST, bits [3:3]. -/
abbrev bnStatusMainsLost : Fld := ⟨.bnStatus, 3, 3⟩
/-- BN_STATUS.SETTLE_ABORT, bits [2:2]. -/
abbrev bnStatusSettleAbort : Fld := ⟨.bnStatus, 2, 2⟩
/-- BN_STATUS.EXC_FAULT, bits [1:1]. -/
abbrev bnStatusExcFault : Fld := ⟨.bnStatus, 1, 1⟩
/-- BN_STATUS.RING_DROP, bits [0:0]. -/
abbrev bnStatusRingDrop : Fld := ⟨.bnStatus, 0, 0⟩
/-- BN_SCANMASK, bits [31:0]. -/
abbrev bnScanmask : Fld := ⟨.bnScanmask, 31, 0⟩
/-- BN_PERIOD, bits [31:0]. -/
abbrev bnPeriod : Fld := ⟨.bnPeriod, 31, 0⟩
/-- BN_RING_WR, bits [11:0]. -/
abbrev bnRingWr : Fld := ⟨.bnRingWr, 11, 0⟩
/-- BN_RING_RD, bits [11:0]. -/
abbrev bnRingRd : Fld := ⟨.bnRingRd, 11, 0⟩
/-- BN_RING_DROP, bits [31:0]. -/
abbrev bnRingDrop : Fld := ⟨.bnRingDrop, 31, 0⟩
/-- BN_PASSCNT, bits [31:0]. -/
abbrev bnPasscnt : Fld := ⟨.bnPasscnt, 31, 0⟩
/-- BN_DISCARD, bits [31:0]. -/
abbrev bnDiscard : Fld := ⟨.bnDiscard, 31, 0⟩
/-- BN_SENSE.PORT, bits [8:0]. -/
abbrev bnSensePort : Fld := ⟨.bnSense, 8, 0⟩
/-- BN_DISCH, bits [13:0]. -/
abbrev bnDisch : Fld := ⟨.bnDisch, 13, 0⟩
/-- BN_PT_CONV.CURVE, bits [29:24]. -/
abbrev bnPtConvCurve : Fld := ⟨.bnPtConv, 29, 24⟩
/-- BN_PT_CONV.NPLC, bits [23:16]. -/
abbrev bnPtConvNplc : Fld := ⟨.bnPtConv, 23, 16⟩
/-- BN_PT_CONV.AVG, bits [15:12]. -/
abbrev bnPtConvAvg : Fld := ⟨.bnPtConv, 15, 12⟩
/-- BN_PT_CONV.RANGE, bits [9:8]. -/
abbrev bnPtConvRange : Fld := ⟨.bnPtConv, 9, 8⟩
/-- BN_PT_CONV.SETTLE, bits [4:0]. -/
abbrev bnPtConvSettle : Fld := ⟨.bnPtConv, 4, 0⟩
/-- BN_PT_EXC.EXC, bits [7:6]. -/
abbrev bnPtExcExc : Fld := ⟨.bnPtExc, 7, 6⟩
/-- BN_PT_EXC.REV, bits [5:5]. -/
abbrev bnPtExcRev : Fld := ⟨.bnPtExc, 5, 5⟩
/-- BN_PT_EXC.LEVEL, bits [4:2]. -/
abbrev bnPtExcLevel : Fld := ⟨.bnPtExc, 4, 2⟩
/-- BN_PT_EXC.SHUNT, bits [1:0]. -/
abbrev bnPtExcShunt : Fld := ⟨.bnPtExc, 1, 0⟩
/-- BN_PT_STAT.OVR, bits [2:2]. -/
abbrev bnPtStatOvr : Fld := ⟨.bnPtStat, 2, 2⟩
/-- BN_PT_STAT.FAULT, bits [1:0]. -/
abbrev bnPtStatFault : Fld := ⟨.bnPtStat, 1, 0⟩
/-- CAL_CTRL.IDLECAL, bits [1:1]. -/
abbrev calCtrlIdlecal : Fld := ⟨.calCtrl, 1, 1⟩
/-- CAL_CTRL.SEAL, bits [0:0]. -/
abbrev calCtrlSeal : Fld := ⟨.calCtrl, 0, 0⟩
/-- CAL_STATUS.NOREF, bits [6:6]. -/
abbrev calStatusNoref : Fld := ⟨.calStatus, 6, 6⟩
/-- CAL_STATUS.RINT_SUSPECT, bits [5:5]. -/
abbrev calStatusRintSuspect : Fld := ⟨.calStatus, 5, 5⟩
/-- CAL_STATUS.COMMIT_PENDING, bits [4:4]. -/
abbrev calStatusCommitPending : Fld := ⟨.calStatus, 4, 4⟩
/-- CAL_STATUS.CALCUT, bits [3:3]. -/
abbrev calStatusCalcut : Fld := ⟨.calStatus, 3, 3⟩
/-- CAL_STATUS.ABANDON, bits [2:2]. -/
abbrev calStatusAbandon : Fld := ⟨.calStatus, 2, 2⟩
/-- CAL_STATUS.REJECT, bits [1:1]. -/
abbrev calStatusReject : Fld := ⟨.calStatus, 1, 1⟩
/-- CAL_STATUS.EXTRAP, bits [0:0]. -/
abbrev calStatusExtrap : Fld := ⟨.calStatus, 0, 0⟩
/-- CAL_REFV_LO, bits [31:0]. -/
abbrev calRefvLo : Fld := ⟨.calRefvLo, 31, 0⟩
/-- CAL_REFV_HI, bits [31:0]. -/
abbrev calRefvHi : Fld := ⟨.calRefvHi, 31, 0⟩
/-- CAL_REFV_U, bits [31:0]. -/
abbrev calRefvU : Fld := ⟨.calRefvU, 31, 0⟩
/-- CAL_COMMITPER, bits [31:0]. -/
abbrev calCommitper : Fld := ⟨.calCommitper, 31, 0⟩
/-- CAL_DUE, bits [12:0]. -/
abbrev calDue : Fld := ⟨.calDue, 12, 0⟩
/-- CAL_TPOINT, bits [31:0]. -/
abbrev calTpoint : Fld := ⟨.calTpoint, 31, 0⟩
/-- CAL_PROV, bits [7:0]. -/
abbrev calProv : Fld := ⟨.calProv, 7, 0⟩
/-- CAL_XMASK, bits [31:0]. -/
abbrev calXmask : Fld := ⟨.calXmask, 31, 0⟩
/-- CAL_COUNT_LO, bits [31:0]. -/
abbrev calCountLo : Fld := ⟨.calCountLo, 31, 0⟩
/-- CAL_COUNT_HI, bits [15:0]. -/
abbrev calCountHi : Fld := ⟨.calCountHi, 15, 0⟩
/-- CAL_TIME, bits [31:0]. -/
abbrev calTime : Fld := ⟨.calTime, 31, 0⟩
/-- CAL_PERIOD, bits [31:0]. -/
abbrev calPeriod : Fld := ⟨.calPeriod, 31, 0⟩
/-- CAL_LIMIT.REJECT, bits [31:16]. -/
abbrev calLimitReject : Fld := ⟨.calLimit, 31, 16⟩
/-- CAL_LIMIT.LIMIT, bits [15:0]. -/
abbrev calLimitLimit : Fld := ⟨.calLimit, 15, 0⟩
/-- MEM_CTRL.SRAM_SCRUB_EN, bits [2:2]. -/
abbrev memCtrlSramScrubEn : Fld := ⟨.memCtrl, 2, 2⟩
/-- MEM_CTRL.SCRUB_LEAD, bits [1:1]. -/
abbrev memCtrlScrubLead : Fld := ⟨.memCtrl, 1, 1⟩
/-- MEM_CTRL.SCRUB_EN, bits [0:0]. -/
abbrev memCtrlScrubEn : Fld := ⟨.memCtrl, 0, 0⟩
/-- MEM_STATUS.SCRUB_BEHIND, bits [7:7]. -/
abbrev memStatusScrubBehind : Fld := ⟨.memStatus, 7, 7⟩
/-- MEM_STATUS.STACK_HOT, bits [6:6]. -/
abbrev memStatusStackHot : Fld := ⟨.memStatus, 6, 6⟩
/-- MEM_STATUS.REF_FORCED, bits [5:5]. -/
abbrev memStatusRefForced : Fld := ⟨.memStatus, 5, 5⟩
/-- MEM_STATUS.RMW, bits [4:4]. -/
abbrev memStatusRmw : Fld := ⟨.memStatus, 4, 4⟩
/-- MEM_STATUS.PARERR, bits [3:3]. -/
abbrev memStatusParerr : Fld := ⟨.memStatus, 3, 3⟩
/-- MEM_STATUS.SRAM_UE, bits [2:2]. -/
abbrev memStatusSramUe : Fld := ⟨.memStatus, 2, 2⟩
/-- MEM_STATUS.SETCLASS_BUSY, bits [1:1]. -/
abbrev memStatusSetclassBusy : Fld := ⟨.memStatus, 1, 1⟩
/-- MEM_STATUS.FROZEN, bits [0:0]. -/
abbrev memStatusFrozen : Fld := ⟨.memStatus, 0, 0⟩
/-- MEM_GRAN, bits [31:0]. -/
abbrev memGran : Fld := ⟨.memGran, 31, 0⟩
/-- MEM_MERGE_TMO, bits [15:0]. -/
abbrev memMergeTmo : Fld := ⟨.memMergeTmo, 15, 0⟩
/-- MEM_SCRUB_PER, bits [15:0]. -/
abbrev memScrubPer : Fld := ⟨.memScrubPer, 15, 0⟩
/-- MEM_CORR_DRAM, bits [31:0]. -/
abbrev memCorrDram : Fld := ⟨.memCorrDram, 31, 0⟩
/-- MEM_CORR_SRAM, bits [31:0]. -/
abbrev memCorrSram : Fld := ⟨.memCorrSram, 31, 0⟩
/-- MEM_UE_SRAM, bits [31:0]. -/
abbrev memUeSram : Fld := ⟨.memUeSram, 31, 0⟩
/-- MEM_PARERR, bits [31:0]. -/
abbrev memParerr : Fld := ⟨.memParerr, 31, 0⟩
/-- MEM_RMW, bits [31:0]. -/
abbrev memRmw : Fld := ⟨.memRmw, 31, 0⟩
/-- MEM_FREEZES, bits [31:0]. -/
abbrev memFreezes : Fld := ⟨.memFreezes, 31, 0⟩
/-- MEM_SCRUB_LINE, bits [30:0]. -/
abbrev memScrubLine : Fld := ⟨.memScrubLine, 30, 0⟩
/-- MEM_SCRUB_PASSES, bits [31:0]. -/
abbrev memScrubPasses : Fld := ⟨.memScrubPasses, 31, 0⟩
/-- MEM_SRAM_PASSES, bits [31:0]. -/
abbrev memSramPasses : Fld := ⟨.memSramPasses, 31, 0⟩
/-- MEM_FRZ_CAUSE.REQ, bits [23:20]. -/
abbrev memFrzCauseReq : Fld := ⟨.memFrzCause, 23, 20⟩
/-- MEM_FRZ_CAUSE.BANK, bits [19:18]. -/
abbrev memFrzCauseBank : Fld := ⟨.memFrzCause, 19, 18⟩
/-- MEM_FRZ_CAUSE.BG, bits [17:14]. -/
abbrev memFrzCauseBg : Fld := ⟨.memFrzCause, 17, 14⟩
/-- MEM_FRZ_CAUSE.PC, bits [13:13]. -/
abbrev memFrzCausePc : Fld := ⟨.memFrzCause, 13, 13⟩
/-- MEM_FRZ_CAUSE.CH, bits [12:9]. -/
abbrev memFrzCauseCh : Fld := ⟨.memFrzCause, 12, 9⟩
/-- MEM_FRZ_CAUSE.STACK, bits [8:8]. -/
abbrev memFrzCauseStack : Fld := ⟨.memFrzCause, 8, 8⟩
/-- MEM_FRZ_CAUSE.CAUSE, bits [3:0]. -/
abbrev memFrzCauseCause : Fld := ⟨.memFrzCause, 3, 0⟩
/-- MEM_FRZ_LINE, bits [30:0]. -/
abbrev memFrzLine : Fld := ⟨.memFrzLine, 30, 0⟩
/-- MEM_FRZ_SYND, bits [31:0]. -/
abbrev memFrzSynd : Fld := ⟨.memFrzSynd, 31, 0⟩
/-- MEM_FRZ_SSI_LO, bits [31:0]. -/
abbrev memFrzSsiLo : Fld := ⟨.memFrzSsiLo, 31, 0⟩
/-- MEM_FRZ_SSI_HI, bits [31:0]. -/
abbrev memFrzSsiHi : Fld := ⟨.memFrzSsiHi, 31, 0⟩
/-- MEM_SUE.REGION, bits [31:28]. -/
abbrev memSueRegion : Fld := ⟨.memSue, 31, 28⟩
/-- MEM_SUE.INST, bits [27:22]. -/
abbrev memSueInst : Fld := ⟨.memSue, 27, 22⟩
/-- MEM_SUE.WORD, bits [16:0]. -/
abbrev memSueWord : Fld := ⟨.memSue, 16, 0⟩
/-- MEM_SPARES.DRAM, bits [31:16]. -/
abbrev memSparesDram : Fld := ⟨.memSpares, 31, 16⟩
/-- MEM_SPARES.SRAM, bits [15:0]. -/
abbrev memSparesSram : Fld := ⟨.memSpares, 15, 0⟩
/-- MEM_REPAIR_FREE, bits [8:0]. -/
abbrev memRepairFree : Fld := ⟨.memRepairFree, 8, 0⟩
/-- DR_REFSTAT.HOT, bits [20:20]. -/
abbrev drRefstatHot : Fld := ⟨.drRefstat, 20, 20⟩
/-- DR_REFSTAT.MAXDEBT, bits [19:16]. -/
abbrev drRefstatMaxdebt : Fld := ⟨.drRefstat, 19, 16⟩
/-- DR_REFSTAT.FORCED, bits [15:0]. -/
abbrev drRefstatForced : Fld := ⟨.drRefstat, 15, 0⟩
/-- LK_DEVID.DEVID, bits [13:0]. -/
abbrev lkDevidDevid : Fld := ⟨.lkDevid, 13, 0⟩
/-- LN_PCTL.EQS, bits [1:1]. -/
abbrev lnPctlEqs : Fld := ⟨.lnPctl, 1, 1⟩
/-- LN_PCTL.EN, bits [0:0]. -/
abbrev lnPctlEn : Fld := ⟨.lnPctl, 0, 0⟩
/-- LN_PSTAT.LOCKED, bits [24:16]. -/
abbrev lnPstatLocked : Fld := ⟨.lnPstat, 24, 16⟩
/-- LN_PSTAT.PLACED, bits [15:8]. -/
abbrev lnPstatPlaced : Fld := ⟨.lnPstat, 15, 8⟩
/-- LN_PSTAT.MISWIRE, bits [6:6]. -/
abbrev lnPstatMiswire : Fld := ⟨.lnPstat, 6, 6⟩
/-- LN_PSTAT.DESKEW_FAIL, bits [5:5]. -/
abbrev lnPstatDeskewFail : Fld := ⟨.lnPstat, 5, 5⟩
/-- LN_PSTAT.PSTATE, bits [2:0]. -/
abbrev lnPstatPstate : Fld := ⟨.lnPstat, 2, 0⟩
/-- LN_PMAP, bits [31:0]. -/
abbrev lnPmap : Fld := ⟨.lnPmap, 31, 0⟩
/-- LN_PEER.DEVID, bits [29:16]. -/
abbrev lnPeerDevid : Fld := ⟨.lnPeer, 29, 16⟩
/-- LN_PEER.PORT, bits [14:12]. -/
abbrev lnPeerPort : Fld := ⟨.lnPeer, 14, 12⟩
/-- LN_PEER.VALID, bits [0:0]. -/
abbrev lnPeerValid : Fld := ⟨.lnPeer, 0, 0⟩
/-- LN_ALSEQ, bits [15:0]. -/
abbrev lnAlseq : Fld := ⟨.lnAlseq, 15, 0⟩
/-- LN_UPCNT, bits [31:0]. -/
abbrev lnUpcnt : Fld := ⟨.lnUpcnt, 31, 0⟩
/-- LN_DOWNCNT, bits [31:0]. -/
abbrev lnDowncnt : Fld := ⟨.lnDowncnt, 31, 0⟩
/-- LN_CTL.TXOFF, bits [12:12]. -/
abbrev lnCtlTxoff : Fld := ⟨.lnCtl, 12, 12⟩
/-- LN_CTL.TESTPAT, bits [11:10]. -/
abbrev lnCtlTestpat : Fld := ⟨.lnCtl, 11, 10⟩
/-- LN_CTL.LOOP, bits [9:8]. -/
abbrev lnCtlLoop : Fld := ⟨.lnCtl, 9, 8⟩
/-- LN_CTL.RXINV, bits [7:7]. -/
abbrev lnCtlRxinv : Fld := ⟨.lnCtl, 7, 7⟩
/-- LN_CTL.TXINV, bits [6:6]. -/
abbrev lnCtlTxinv : Fld := ⟨.lnCtl, 6, 6⟩
/-- LN_CTL.SWING, bits [5:4]. -/
abbrev lnCtlSwing : Fld := ⟨.lnCtl, 5, 4⟩
/-- LN_CTL.CTLE, bits [3:0]. -/
abbrev lnCtlCtle : Fld := ⟨.lnCtl, 3, 0⟩
/-- LN_STAT.PRBS_ERR, bits [18:18]. -/
abbrev lnStatPrbsErr : Fld := ⟨.lnStat, 18, 18⟩
/-- LN_STAT.BADALIGN, bits [17:17]. -/
abbrev lnStatBadalign : Fld := ⟨.lnStat, 17, 17⟩
/-- LN_STAT.UNLOCKED, bits [16:16]. -/
abbrev lnStatUnlocked : Fld := ⟨.lnStat, 16, 16⟩
/-- LN_STAT.BLKERR, bits [15:15]. -/
abbrev lnStatBlkerr : Fld := ⟨.lnStat, 15, 15⟩
/-- LN_STAT.SIGDET, bits [8:8]. -/
abbrev lnStatSigdet : Fld := ⟨.lnStat, 8, 8⟩
/-- LN_STAT.LLANE, bits [7:4]. -/
abbrev lnStatLlane : Fld := ⟨.lnStat, 7, 4⟩
/-- LN_STAT.LSTATE, bits [2:0]. -/
abbrev lnStatLstate : Fld := ⟨.lnStat, 2, 0⟩
/-- LN_HDRERR, bits [31:0]. -/
abbrev lnHdrerr : Fld := ⟨.lnHdrerr, 31, 0⟩
/-- LN_BLKERR, bits [31:0]. -/
abbrev lnBlkerr : Fld := ⟨.lnBlkerr, 31, 0⟩
/-- LN_UNLOCKCNT, bits [31:0]. -/
abbrev lnUnlockcnt : Fld := ⟨.lnUnlockcnt, 31, 0⟩
/-- LN_PRBSERR, bits [31:0]. -/
abbrev lnPrbserr : Fld := ⟨.lnPrbserr, 31, 0⟩
/-- LN_DSKW, bits [4:0]. -/
abbrev lnDskw : Fld := ⟨.lnDskw, 4, 0⟩
/-- LN_EYE.CODE, bits [15:8]. -/
abbrev lnEyeCode : Fld := ⟨.lnEye, 15, 8⟩
/-- LN_EYE.MARGIN, bits [7:0]. -/
abbrev lnEyeMargin : Fld := ⟨.lnEye, 7, 0⟩
/-- LK_PCTL.RESTART, bits [1:1]. -/
abbrev lkPctlRestart : Fld := ⟨.lkPctl, 1, 1⟩
/-- LK_PCTL.ROLE, bits [0:0]. -/
abbrev lkPctlRole : Fld := ⟨.lkPctl, 0, 0⟩
/-- LK_PSTAT.SKIPLANE, bits [19:16]. -/
abbrev lkPstatSkiplane : Fld := ⟨.lkPstat, 19, 16⟩
/-- LK_PSTAT.SKIP, bits [15:15]. -/
abbrev lkPstatSkip : Fld := ⟨.lkPstat, 15, 15⟩
/-- LK_PSTAT.V1LOST, bits [14:14]. -/
abbrev lkPstatV1lost : Fld := ⟨.lkPstat, 14, 14⟩
/-- LK_PSTAT.ROLEMIS, bits [13:13]. -/
abbrev lkPstatRolemis : Fld := ⟨.lkPstat, 13, 13⟩
/-- LK_PSTAT.SPARED, bits [12:12]. -/
abbrev lkPstatSpared : Fld := ⟨.lkPstat, 12, 12⟩
/-- LK_PSTAT.GIVEUP, bits [11:11]. -/
abbrev lkPstatGiveup : Fld := ⟨.lkPstat, 11, 11⟩
/-- LK_PSTAT.RETRY, bits [10:10]. -/
abbrev lkPstatRetry : Fld := ⟨.lkPstat, 10, 10⟩
/-- LK_PSTAT.CAUSE, bits [7:4]. -/
abbrev lkPstatCause : Fld := ⟨.lkPstat, 7, 4⟩
/-- LK_PSTAT.LSTATE, bits [2:0]. -/
abbrev lkPstatLstate : Fld := ⟨.lkPstat, 2, 0⟩
/-- LK_CRED0, bits [10:0]. -/
abbrev lkCred0 : Fld := ⟨.lkCred0, 10, 0⟩
/-- LK_CRED23.VC3, bits [26:16]. -/
abbrev lkCred23Vc3 : Fld := ⟨.lkCred23, 26, 16⟩
/-- LK_CRED23.VC2, bits [10:0]. -/
abbrev lkCred23Vc2 : Fld := ⟨.lkCred23, 10, 0⟩
/-- LK_PEERBUF.BUF3, bits [23:16]. -/
abbrev lkPeerbufBuf3 : Fld := ⟨.lkPeerbuf, 23, 16⟩
/-- LK_PEERBUF.BUF2, bits [15:8]. -/
abbrev lkPeerbufBuf2 : Fld := ⟨.lkPeerbuf, 15, 8⟩
/-- LK_PEERBUF.BUF0, bits [7:0]. -/
abbrev lkPeerbufBuf0 : Fld := ⟨.lkPeerbuf, 7, 0⟩
/-- LK_REPLAY, bits [11:0]. -/
abbrev lkReplay : Fld := ⟨.lkReplay, 11, 0⟩
/-- LK_RTWAIT, bits [15:0]. -/
abbrev lkRtwait : Fld := ⟨.lkRtwait, 15, 0⟩
/-- LK_RETRYCNT, bits [31:0]. -/
abbrev lkRetrycnt : Fld := ⟨.lkRetrycnt, 31, 0⟩
/-- LK_GIVEUP, bits [31:0]. -/
abbrev lkGiveup : Fld := ⟨.lkGiveup, 31, 0⟩
/-- LK_V1RETRY, bits [31:0]. -/
abbrev lkV1retry : Fld := ⟨.lkV1retry, 31, 0⟩
/-- LK_V1LOST, bits [31:0]. -/
abbrev lkV1lost : Fld := ⟨.lkV1lost, 31, 0⟩
/-- LK_LOSTFR, bits [31:0]. -/
abbrev lkLostfr : Fld := ⟨.lkLostfr, 31, 0⟩
/-- LK_MISVC, bits [31:0]. -/
abbrev lkMisvc : Fld := ⟨.lkMisvc, 31, 0⟩
/-- LK_SPARECNT, bits [31:0]. -/
abbrev lkSparecnt : Fld := ⟨.lkSparecnt, 31, 0⟩
/-- LK_FTX, bits [31:0]. -/
abbrev lkFtx : Fld := ⟨.lkFtx, 31, 0⟩
/-- LK_FRX, bits [31:0]. -/
abbrev lkFrx : Fld := ⟨.lkFrx, 31, 0⟩
/-- LK_UPCNT, bits [31:0]. -/
abbrev lkUpcnt : Fld := ⟨.lkUpcnt, 31, 0⟩
/-- LK_HALTCNT, bits [31:0]. -/
abbrev lkHaltcnt : Fld := ⟨.lkHaltcnt, 31, 0⟩
/-- CE_STATUS.QPACKETS, bits [31:24]. -/
abbrev ceStatusQpackets : Fld := ⟨.ceStatus, 31, 24⟩
/-- CE_STATUS.TIMEDPEND, bits [23:16]. -/
abbrev ceStatusTimedpend : Fld := ⟨.ceStatus, 23, 16⟩
/-- CE_STATUS.URGQ, bits [10:8]. -/
abbrev ceStatusUrgq : Fld := ⟨.ceStatus, 10, 8⟩
/-- CE_STATUS.HALTED, bits [2:2]. -/
abbrev ceStatusHalted : Fld := ⟨.ceStatus, 2, 2⟩
/-- CE_STATUS.URGENT_ACTIVE, bits [1:1]. -/
abbrev ceStatusUrgentActive : Fld := ⟨.ceStatus, 1, 1⟩
/-- CE_STATUS.BUSY, bits [0:0]. -/
abbrev ceStatusBusy : Fld := ⟨.ceStatus, 0, 0⟩
/-- CE_ALERT.URGENT_FULL, bits [19:19]. -/
abbrev ceAlertUrgentFull : Fld := ⟨.ceAlert, 19, 19⟩
/-- CE_ALERT.TIMEOUT, bits [18:18]. -/
abbrev ceAlertTimeout : Fld := ⟨.ceAlert, 18, 18⟩
/-- CE_ALERT.NOTLOST, bits [17:17]. -/
abbrev ceAlertNotlost : Fld := ⟨.ceAlert, 17, 17⟩
/-- CE_ALERT.AUTH, bits [16:16]. -/
abbrev ceAlertAuth : Fld := ⟨.ceAlert, 16, 16⟩
/-- CE_ALERT.NOTICE, bits [8:0]. -/
abbrev ceAlertNotice : Fld := ⟨.ceAlert, 8, 0⟩
/-- CE_ALERT_EN, bits [31:0]. -/
abbrev ceAlertEn : Fld := ⟨.ceAlertEn, 31, 0⟩
/-- CE_ACCEPTED, bits [31:0]. -/
abbrev ceAccepted : Fld := ⟨.ceAccepted, 31, 0⟩
/-- CE_AUTHFAIL, bits [31:0]. -/
abbrev ceAuthfail : Fld := ⟨.ceAuthfail, 31, 0⟩
/-- CE_STALE, bits [31:0]. -/
abbrev ceStale : Fld := ⟨.ceStale, 31, 0⟩
/-- CE_DUPS, bits [31:0]. -/
abbrev ceDups : Fld := ⟨.ceDups, 31, 0⟩
/-- CE_TIMEOUTS, bits [31:0]. -/
abbrev ceTimeouts : Fld := ⟨.ceTimeouts, 31, 0⟩
/-- CE_PREEMPTS, bits [31:0]. -/
abbrev cePreempts : Fld := ⟨.cePreempts, 31, 0⟩
/-- CE_SPIDROP, bits [31:0]. -/
abbrev ceSpidrop : Fld := ⟨.ceSpidrop, 31, 0⟩
/-- CE_NOTIFY.MASK, bits [8:0]. -/
abbrev ceNotifyMask : Fld := ⟨.ceNotify, 8, 0⟩
/-- CE_HIGHSEQ, bits [31:0]. -/
abbrev ceHighseq : Fld := ⟨.ceHighseq, 31, 0⟩
/-- CE_NOTLOST, bits [31:0]. -/
abbrev ceNotlost : Fld := ⟨.ceNotlost, 31, 0⟩
/-- CE_NOTSEQ, bits [31:0]. -/
abbrev ceNotseq : Fld := ⟨.ceNotseq, 31, 0⟩
/-- MC_VERSION.MAJOR, bits [31:24]. -/
abbrev mcVersionMajor : Fld := ⟨.mcVersion, 31, 24⟩
/-- MC_VERSION.MINOR, bits [23:16]. -/
abbrev mcVersionMinor : Fld := ⟨.mcVersion, 23, 16⟩
/-- MC_VERSION.BUILD, bits [15:0]. -/
abbrev mcVersionBuild : Fld := ⟨.mcVersion, 15, 0⟩
/-- MC_PENDING, bits [31:0]. -/
abbrev mcPending : Fld := ⟨.mcPending, 31, 0⟩
/-- MC_SECVER, bits [31:0]. -/
abbrev mcSecver : Fld := ⟨.mcSecver, 31, 0⟩
/-- MC_MINSEC, bits [31:0]. -/
abbrev mcMinsec : Fld := ⟨.mcMinsec, 31, 0⟩
/-- MC_STATUS.FALLBACK, bits [2:2]. -/
abbrev mcStatusFallback : Fld := ⟨.mcStatus, 2, 2⟩
/-- MC_STATUS.PENDING, bits [1:1]. -/
abbrev mcStatusPending : Fld := ⟨.mcStatus, 1, 1⟩
/-- MC_STATUS.LOADING, bits [0:0]. -/
abbrev mcStatusLoading : Fld := ⟨.mcStatus, 0, 0⟩
/-- SEC_STATUS.SESSOPEN, bits [31:24]. -/
abbrev secStatusSessopen : Fld := ⟨.secStatus, 31, 24⟩
/-- SEC_STATUS.OWNED, bits [2:2]. -/
abbrev secStatusOwned : Fld := ⟨.secStatus, 2, 2⟩
/-- SEC_STATUS.IDKEY_OK, bits [1:1]. -/
abbrev secStatusIdkeyOk : Fld := ⟨.secStatus, 1, 1⟩
/-- SEC_STATUS.DRBG_OK, bits [0:0]. -/
abbrev secStatusDrbgOk : Fld := ⟨.secStatus, 0, 0⟩
/-- SEC_OPENCTR, bits [31:0]. -/
abbrev secOpenctr : Fld := ⟨.secOpenctr, 31, 0⟩
/-- SEC_OWNERDIG, bits [31:0]. -/
abbrev secOwnerdig : Fld := ⟨.secOwnerdig, 31, 0⟩
/-- SEC_SERIAL, bits [31:0]. -/
abbrev secSerial : Fld := ⟨.secSerial, 31, 0⟩
/-- SEC_BOOTNONCE, bits [31:0]. -/
abbrev secBootnonce : Fld := ⟨.secBootnonce, 31, 0⟩
/-- SEC_SESS.EPOCH, bits [31:16]. -/
abbrev secSessEpoch : Fld := ⟨.secSess, 31, 16⟩
/-- SEC_SESS.OPEN, bits [4:4]. -/
abbrev secSessOpen : Fld := ⟨.secSess, 4, 4⟩
/-- SEC_SESS.TRANSPORT, bits [3:0]. -/
abbrev secSessTransport : Fld := ⟨.secSess, 3, 0⟩
/-- SEC_SESSFAIL, bits [31:0]. -/
abbrev secSessfail : Fld := ⟨.secSessfail, 31, 0⟩
/-- SEC_TAGFAIL, bits [31:0]. -/
abbrev secTagfail : Fld := ⟨.secTagfail, 31, 0⟩
/-- SEC_COLWR, bits [11:0]. -/
abbrev secColwr : Fld := ⟨.secColwr, 11, 0⟩
/-- SEC_COLRD, bits [11:0]. -/
abbrev secColrd : Fld := ⟨.secColrd, 11, 0⟩
/-- SEC_COLDEFER, bits [31:0]. -/
abbrev secColdefer : Fld := ⟨.secColdefer, 31, 0⟩
/-- SEC_SIGQ, bits [6:0]. -/
abbrev secSigq : Fld := ⟨.secSigq, 6, 0⟩
/-- SEC_OWN.SEALED, bits [8:8]. -/
abbrev secOwnSealed : Fld := ⟨.secOwn, 8, 8⟩
/-- SEC_OWN.OWNER, bits [3:0]. -/
abbrev secOwnOwner : Fld := ⟨.secOwn, 3, 0⟩
/-- TH_CTRL.TRIP_EN, bits [0:0]. -/
abbrev thCtrlTripEn : Fld := ⟨.thCtrl, 0, 0⟩
/-- TH_STATUS.FUSE_OK, bits [6:6]. -/
abbrev thStatusFuseOk : Fld := ⟨.thStatus, 6, 6⟩
/-- TH_STATUS.PLATE_OK, bits [5:5]. -/
abbrev thStatusPlateOk : Fld := ⟨.thStatus, 5, 5⟩
/-- TH_STATUS.TRIP, bits [4:4]. -/
abbrev thStatusTrip : Fld := ⟨.thStatus, 4, 4⟩
/-- TH_STATUS.OVERTEMP, bits [3:3]. -/
abbrev thStatusOvertemp : Fld := ⟨.thStatus, 3, 3⟩
/-- TH_STATUS.DIE_BLIND, bits [2:2]. -/
abbrev thStatusDieBlind : Fld := ⟨.thStatus, 2, 2⟩
/-- TH_STATUS.SENS_BROKEN, bits [1:1]. -/
abbrev thStatusSensBroken : Fld := ⟨.thStatus, 1, 1⟩
/-- TH_TJ.SRC, bits [25:20]. -/
abbrev thTjSrc : Fld := ⟨.thTj, 25, 20⟩
/-- TH_TJ.TJ, bits [18:0]. -/
abbrev thTjTj : Fld := ⟨.thTj, 18, 0⟩
/-- TH_TMIN.SRC, bits [25:20]. -/
abbrev thTminSrc : Fld := ⟨.thTmin, 25, 20⟩
/-- TH_TMIN.TMIN, bits [18:0]. -/
abbrev thTminTmin : Fld := ⟨.thTmin, 18, 0⟩
/-- TH_BROKEN0, bits [31:0]. -/
abbrev thBroken0 : Fld := ⟨.thBroken0, 31, 0⟩
/-- TH_BROKEN1.TS, bits [15:0]. -/
abbrev thBroken1Ts : Fld := ⟨.thBroken1, 15, 0⟩
/-- TH_START.LANECLK, bits [3:3]. -/
abbrev thStartLaneclk : Fld := ⟨.thStart, 3, 3⟩
/-- TH_START.CALSEAL, bits [2:2]. -/
abbrev thStartCalseal : Fld := ⟨.thStart, 2, 2⟩
/-- TH_START.OWNSPENT, bits [1:0]. -/
abbrev thStartOwnspent : Fld := ⟨.thStart, 1, 0⟩
/-- TH_ELAPSED, bits [31:0]. -/
abbrev thElapsed : Fld := ⟨.thElapsed, 31, 0⟩
/-- TH_DIET.BLIND, bits [31:31]. -/
abbrev thDietBlind : Fld := ⟨.thDiet, 31, 31⟩
/-- TH_DIET.T, bits [18:0]. -/
abbrev thDietT : Fld := ⟨.thDiet, 18, 0⟩
/-- TH_CVOFS, bits [31:0]. -/
abbrev thCvofs : Fld := ⟨.thCvofs, 31, 0⟩
/-- TH_TS.BROKEN, bits [31:31]. -/
abbrev thTsBroken : Fld := ⟨.thTs, 31, 31⟩
/-- TH_TS.AGREE, bits [30:30]. -/
abbrev thTsAgree : Fld := ⟨.thTs, 30, 30⟩
/-- TH_TS.T, bits [18:0]. -/
abbrev thTsT : Fld := ⟨.thTs, 18, 0⟩
/-- OP_MODE.BSPAN, bits [9:8]. -/
abbrev opModeBspan : Fld := ⟨.opMode, 9, 8⟩
/-- OP_MODE.SPAN, bits [5:4]. -/
abbrev opModeSpan : Fld := ⟨.opMode, 5, 4⟩
/-- OP_MODE.MODE, bits [1:0]. -/
abbrev opModeMode : Fld := ⟨.opMode, 1, 0⟩
/-- OP_BIAS.CODE, bits [19:0]. -/
abbrev opBiasCode : Fld := ⟨.opBias, 19, 0⟩
/-- OP_TRIM.TRIM, bits [13:0]. -/
abbrev opTrimTrim : Fld := ⟨.opTrim, 13, 0⟩
/-- OP_MODE_ACT, bits [31:0]. -/
abbrev opModeAct : Fld := ⟨.opModeAct, 31, 0⟩
/-- OP_BIAS_ACT, bits [19:0]. -/
abbrev opBiasAct : Fld := ⟨.opBiasAct, 19, 0⟩
/-- OP_KERN.WHOLE, bits [13:8]. -/
abbrev opKernWhole : Fld := ⟨.opKern, 13, 8⟩
/-- OP_KERN.FRAC, bits [7:0]. -/
abbrev opKernFrac : Fld := ⟨.opKern, 7, 0⟩
/-- OP_SKEW, bits [13:0]. -/
abbrev opSkew : Fld := ⟨.opSkew, 13, 0⟩
/-- OP_STATUS.MUTED, bits [7:7]. -/
abbrev opStatusMuted : Fld := ⟨.opStatus, 7, 7⟩
/-- OP_STATUS.SAFE, bits [6:6]. -/
abbrev opStatusSafe : Fld := ⟨.opStatus, 6, 6⟩
/-- OP_STATUS.CORR_SAT, bits [3:3]. -/
abbrev opStatusCorrSat : Fld := ⟨.opStatus, 3, 3⟩
/-- OP_STATUS.KERN_CLAMP, bits [2:2]. -/
abbrev opStatusKernClamp : Fld := ⟨.opStatus, 2, 2⟩
/-- OP_STATUS.ILIM, bits [1:1]. -/
abbrev opStatusIlim : Fld := ⟨.opStatus, 1, 1⟩
/-- OP_STATUS.SPANCUT, bits [0:0]. -/
abbrev opStatusSpancut : Fld := ⟨.opStatus, 0, 0⟩
/-- OP_PFS_LO, bits [31:0]. -/
abbrev opPfsLo : Fld := ⟨.opPfsLo, 31, 0⟩
/-- OP_PFS_HI, bits [15:0]. -/
abbrev opPfsHi : Fld := ⟨.opPfsHi, 15, 0⟩
/-- OP_CGAIN.GAIN, bits [17:0]. -/
abbrev opCgainGain : Fld := ⟨.opCgain, 17, 0⟩
/-- OP_COFS.OFS, bits [15:0]. -/
abbrev opCofsOfs : Fld := ⟨.opCofs, 15, 0⟩
/-- OP_CIMG.IMG, bits [15:0]. -/
abbrev opCimgImg : Fld := ⟨.opCimg, 15, 0⟩
/-- OP_BIND.ACTIVE, bits [12:8]. -/
abbrev opBindActive : Fld := ⟨.opBind, 12, 8⟩
/-- OP_BIND.STAGED, bits [4:0]. -/
abbrev opBindStaged : Fld := ⟨.opBind, 4, 0⟩
/-- FM_STROBE.GO, bits [0:0]. -/
abbrev fmStrobeGo : Fld := ⟨.fmStrobe, 0, 0⟩
/-- FM_OUTEN.LIVE, bits [1:1]. -/
abbrev fmOutenLive : Fld := ⟨.fmOuten, 1, 1⟩
/-- FM_OUTEN.ENABLED, bits [0:0]. -/
abbrev fmOutenEnabled : Fld := ⟨.fmOuten, 0, 0⟩
/-- FM_STROBECNT, bits [31:0]. -/
abbrev fmStrobecnt : Fld := ⟨.fmStrobecnt, 31, 0⟩
/-- FM_LASTSTROBE_LO, bits [31:0]. -/
abbrev fmLaststrobeLo : Fld := ⟨.fmLaststrobeLo, 31, 0⟩
/-- FM_LASTSTROBE_HI, bits [31:0]. -/
abbrev fmLaststrobeHi : Fld := ⟨.fmLaststrobeHi, 31, 0⟩
/-- FM_SAFE, bits [7:0]. -/
abbrev fmSafe : Fld := ⟨.fmSafe, 7, 0⟩
/-- FM_SPANCUT, bits [7:0]. -/
abbrev fmSpancut : Fld := ⟨.fmSpancut, 7, 0⟩
/-- FM_ILIM, bits [7:0]. -/
abbrev fmIlim : Fld := ⟨.fmIlim, 7, 0⟩
/-- FM_MK_CTRL.TRIM, bits [29:24]. -/
abbrev fmMkCtrlTrim : Fld := ⟨.fmMkCtrl, 29, 24⟩
/-- FM_MK_CTRL.INV, bits [16:16]. -/
abbrev fmMkCtrlInv : Fld := ⟨.fmMkCtrl, 16, 16⟩
/-- FM_MK_CTRL.SEL, bits [15:0]. -/
abbrev fmMkCtrlSel : Fld := ⟨.fmMkCtrl, 15, 0⟩
/-- FM_MK_STATE.BITS, bits [15:0]. -/
abbrev fmMkStateBits : Fld := ⟨.fmMkState, 15, 0⟩
/-- GAL_LATE01.ODD, bits [31:16]. -/
abbrev galLate01Odd : Fld := ⟨.galLate01, 31, 16⟩
/-- GAL_LATE01.EVEN, bits [15:0]. -/
abbrev galLate01Even : Fld := ⟨.galLate01, 15, 0⟩
/-- GAL_CTRL.RING_BASE, bits [5:0]. -/
abbrev galCtrlRingBase : Fld := ⟨.galCtrl, 5, 0⟩
/-- GAL_STATUS.FETCHQ, bits [31:16]. -/
abbrev galStatusFetchq : Fld := ⟨.galStatus, 31, 16⟩
/-- GAL_STATUS.RINGCLASH, bits [4:4]. -/
abbrev galStatusRingclash : Fld := ⟨.galStatus, 4, 4⟩
/-- GAL_STATUS.FETCH_WAIT, bits [3:3]. -/
abbrev galStatusFetchWait : Fld := ⟨.galStatus, 3, 3⟩
/-- GAL_STATUS.VOICE_OVER, bits [2:2]. -/
abbrev galStatusVoiceOver : Fld := ⟨.galStatus, 2, 2⟩
/-- GAL_STATUS.UNDERRUN, bits [1:1]. -/
abbrev galStatusUnderrun : Fld := ⟨.galStatus, 1, 1⟩
/-- GAL_CLIP.PORT, bits [7:0]. -/
abbrev galClipPort : Fld := ⟨.galClip, 7, 0⟩
/-- GAL_LOADSER, bits [31:0]. -/
abbrev galLoadser : Fld := ⟨.galLoadser, 31, 0⟩
/-- GAL_RFLAG0.OVF, bits [31:16]. -/
abbrev galRflag0Ovf : Fld := ⟨.galRflag0, 31, 16⟩
/-- GAL_RFLAG0.UNDER, bits [15:0]. -/
abbrev galRflag0Under : Fld := ⟨.galRflag0, 15, 0⟩
/-- GAL_RFLAG1.DENY, bits [31:16]. -/
abbrev galRflag1Deny : Fld := ⟨.galRflag1, 31, 16⟩
/-- GAL_RFLAG1.GAP, bits [15:0]. -/
abbrev galRflag1Gap : Fld := ⟨.galRflag1, 15, 0⟩
/-- GAL_LATE27.ODD, bits [31:16]. -/
abbrev galLate27Odd : Fld := ⟨.galLate27, 31, 16⟩
/-- GAL_LATE27.EVEN, bits [15:0]. -/
abbrev galLate27Even : Fld := ⟨.galLate27, 15, 0⟩
/-- GAL_RING.EN, bits [31:31]. -/
abbrev galRingEn : Fld := ⟨.galRing, 31, 31⟩
/-- GAL_RING.KIND, bits [30:30]. -/
abbrev galRingKind : Fld := ⟨.galRing, 30, 30⟩
/-- GAL_RING.SIZE, bits [29:26]. -/
abbrev galRingSize : Fld := ⟨.galRing, 29, 26⟩
/-- GAL_RING.NOTIFY, bits [25:22]. -/
abbrev galRingNotify : Fld := ⟨.galRing, 25, 22⟩
/-- GAL_RING.BASE, bits [14:0]. -/
abbrev galRingBase : Fld := ⟨.galRing, 14, 0⟩
/-- GAL_RING_RATE, bits [31:0]. -/
abbrev galRingRate : Fld := ⟨.galRingRate, 31, 0⟩
/-- GAL_RING_RD, bits [31:0]. -/
abbrev galRingRd : Fld := ⟨.galRingRd, 31, 0⟩
/-- GAL_RING_WR, bits [31:0]. -/
abbrev galRingWr : Fld := ⟨.galRingWr, 31, 0⟩
/-- FM_CAR_FREQ_LO, bits [31:0]. -/
abbrev fmCarFreqLo : Fld := ⟨.fmCarFreqLo, 31, 0⟩
/-- FM_CAR_FREQ_HI.PHMODE, bits [16:16]. -/
abbrev fmCarFreqHiPhmode : Fld := ⟨.fmCarFreqHi, 16, 16⟩
/-- FM_CAR_FREQ_HI.FREQ_HI, bits [15:0]. -/
abbrev fmCarFreqHiFreqHi : Fld := ⟨.fmCarFreqHi, 15, 0⟩
/-- FM_CAR_OFS_LO, bits [31:0]. -/
abbrev fmCarOfsLo : Fld := ⟨.fmCarOfsLo, 31, 0⟩
/-- FM_CAR_OFS_HI.OFS_HI, bits [15:0]. -/
abbrev fmCarOfsHiOfsHi : Fld := ⟨.fmCarOfsHi, 15, 0⟩
/-- IP_CTRL.CAPDEC, bits [6:4]. -/
abbrev ipCtrlCapdec : Fld := ⟨.ipCtrl, 6, 4⟩
/-- IP_CTRL.RANGE, bits [1:0]. -/
abbrev ipCtrlRange : Fld := ⟨.ipCtrl, 1, 0⟩
/-- IP_STATUS.CAP_ACTIVE, bits [16:16]. -/
abbrev ipStatusCapActive : Fld := ⟨.ipStatus, 16, 16⟩
/-- IP_STATUS.NOSESS, bits [9:9]. -/
abbrev ipStatusNosess : Fld := ⟨.ipStatus, 9, 9⟩
/-- IP_STATUS.SAT, bits [8:8]. -/
abbrev ipStatusSat : Fld := ⟨.ipStatus, 8, 8⟩
/-- IP_STATUS.LAG, bits [7:7]. -/
abbrev ipStatusLag : Fld := ⟨.ipStatus, 7, 7⟩
/-- IP_STATUS.SPOOL_FULL, bits [6:6]. -/
abbrev ipStatusSpoolFull : Fld := ⟨.ipStatus, 6, 6⟩
/-- IP_STATUS.REC_DROP, bits [5:5]. -/
abbrev ipStatusRecDrop : Fld := ⟨.ipStatus, 5, 5⟩
/-- IP_STATUS.TRUNC, bits [4:4]. -/
abbrev ipStatusTrunc : Fld := ⟨.ipStatus, 4, 4⟩
/-- IP_STATUS.CAP_LOST, bits [3:3]. -/
abbrev ipStatusCapLost : Fld := ⟨.ipStatus, 3, 3⟩
/-- IP_STATUS.CAP_REFUSED, bits [2:2]. -/
abbrev ipStatusCapRefused : Fld := ⟨.ipStatus, 2, 2⟩
/-- IP_STATUS.DDC_SAT, bits [1:1]. -/
abbrev ipStatusDdcSat : Fld := ⟨.ipStatus, 1, 1⟩
/-- IP_STATUS.ADC_OVR, bits [0:0]. -/
abbrev ipStatusAdcOvr : Fld := ⟨.ipStatus, 0, 0⟩
/-- IP_SKEW, bits [13:0]. -/
abbrev ipSkew : Fld := ⟨.ipSkew, 13, 0⟩
/-- IP_CAP_BASE, bits [30:0]. -/
abbrev ipCapBase : Fld := ⟨.ipCapBase, 30, 0⟩
/-- IP_CAP_SIZE, bits [30:0]. -/
abbrev ipCapSize : Fld := ⟨.ipCapSize, 30, 0⟩
/-- IP_CAP_WR, bits [30:0]. -/
abbrev ipCapWr : Fld := ⟨.ipCapWr, 30, 0⟩
/-- IP_CAP_CTRL.WRAP, bits [1:1]. -/
abbrev ipCapCtrlWrap : Fld := ⟨.ipCapCtrl, 1, 1⟩
/-- IP_CAP_CTRL.EN, bits [0:0]. -/
abbrev ipCapCtrlEn : Fld := ⟨.ipCapCtrl, 0, 0⟩
/-- IP_CAP_LOST, bits [31:0]. -/
abbrev ipCapLost : Fld := ⟨.ipCapLost, 31, 0⟩
/-- IP_CAPSER, bits [31:0]. -/
abbrev ipCapser : Fld := ⟨.ipCapser, 31, 0⟩
/-- IP_REC_CTRL.PORT, bits [6:4]. -/
abbrev ipRecCtrlPort : Fld := ⟨.ipRecCtrl, 6, 4⟩
/-- IP_REC_CTRL.SESS, bits [3:1]. -/
abbrev ipRecCtrlSess : Fld := ⟨.ipRecCtrl, 3, 1⟩
/-- IP_REC_CTRL.DEST, bits [0:0]. -/
abbrev ipRecCtrlDest : Fld := ⟨.ipRecCtrl, 0, 0⟩
/-- IP_REC_FILL, bits [10:0]. -/
abbrev ipRecFill : Fld := ⟨.ipRecFill, 10, 0⟩
/-- IP_REC_DROP, bits [31:0]. -/
abbrev ipRecDrop : Fld := ⟨.ipRecDrop, 31, 0⟩
/-- IP_SPOOL_BASE, bits [30:0]. -/
abbrev ipSpoolBase : Fld := ⟨.ipSpoolBase, 30, 0⟩
/-- IP_SPOOL_SIZE, bits [30:0]. -/
abbrev ipSpoolSize : Fld := ⟨.ipSpoolSize, 30, 0⟩
/-- IP_SPOOL_WR, bits [30:0]. -/
abbrev ipSpoolWr : Fld := ⟨.ipSpoolWr, 30, 0⟩
/-- IP_SPOOL_RD, bits [30:0]. -/
abbrev ipSpoolRd : Fld := ⟨.ipSpoolRd, 30, 0⟩
/-- IP_DPROG, bits [31:0]. -/
abbrev ipDprog : Fld := ⟨.ipDprog, 31, 0⟩
/-- DL_FREQ_LO, bits [31:0]. -/
abbrev dlFreqLo : Fld := ⟨.dlFreqLo, 31, 0⟩
/-- DL_FREQ_HI, bits [15:0]. -/
abbrev dlFreqHi : Fld := ⟨.dlFreqHi, 15, 0⟩
/-- DL_OFS_LO, bits [31:0]. -/
abbrev dlOfsLo : Fld := ⟨.dlOfsLo, 31, 0⟩
/-- DL_OFS_HI, bits [15:0]. -/
abbrev dlOfsHi : Fld := ⟨.dlOfsHi, 15, 0⟩
/-- DL_CTRL.ENTRY, bits [31:24]. -/
abbrev dlCtrlEntry : Fld := ⟨.dlCtrl, 31, 24⟩
/-- DL_CTRL.RSHIFT, bits [23:20]. -/
abbrev dlCtrlRshift : Fld := ⟨.dlCtrl, 23, 20⟩
/-- DL_CTRL.PS, bits [19:16]. -/
abbrev dlCtrlPs : Fld := ⟨.dlCtrl, 19, 16⟩
/-- DL_CTRL.RESULT, bits [15:14]. -/
abbrev dlCtrlResult : Fld := ⟨.dlCtrl, 15, 14⟩
/-- DL_CTRL.CLIPU, bits [13:13]. -/
abbrev dlCtrlClipu : Fld := ⟨.dlCtrl, 13, 13⟩
/-- DL_CTRL.DEC, bits [11:10]. -/
abbrev dlCtrlDec : Fld := ⟨.dlCtrl, 11, 10⟩
/-- DL_KBASE, bits [14:0]. -/
abbrev dlKbase : Fld := ⟨.dlKbase, 14, 0⟩
/-- DL_KLEN, bits [12:0]. -/
abbrev dlKlen : Fld := ⟨.dlKlen, 12, 0⟩
/-- DL_KREG.Q, bits [31:16]. -/
abbrev dlKregQ : Fld := ⟨.dlKreg, 31, 16⟩
/-- DL_KREG.I, bits [15:0]. -/
abbrev dlKregI : Fld := ⟨.dlKreg, 15, 0⟩
/-- DL_B.B, bits [31:16]. -/
abbrev dlBB : Fld := ⟨.dlB, 31, 16⟩
/-- DL_B.A, bits [15:0]. -/
abbrev dlBA : Fld := ⟨.dlB, 15, 0⟩
/-- DL_B_C_LO, bits [31:0]. -/
abbrev dlBCLo : Fld := ⟨.dlBCLo, 31, 0⟩
/-- DL_B_C_HI, bits [15:0]. -/
abbrev dlBCHi : Fld := ⟨.dlBCHi, 15, 0⟩
/-- DL_DISC.NBOUND, bits [17:16]. -/
abbrev dlDiscNbound : Fld := ⟨.dlDisc, 17, 16⟩
/-- DL_DISC.TAB, bits [15:0]. -/
abbrev dlDiscTab : Fld := ⟨.dlDisc, 15, 0⟩
/-- DL_FOLIO, bits [31:0]. -/
abbrev dlFolio : Fld := ⟨.dlFolio, 31, 0⟩
/-- DL_LAST_I, bits [31:0]. -/
abbrev dlLastI : Fld := ⟨.dlLastI, 31, 0⟩
/-- DL_LAST_Q, bits [31:0]. -/
abbrev dlLastQ : Fld := ⟨.dlLastQ, 31, 0⟩
/-- DL_LAST_STATE.FLAGS, bits [31:16]. -/
abbrev dlLastStateFlags : Fld := ⟨.dlLastState, 31, 16⟩
/-- DL_LAST_STATE.STATE, bits [1:0]. -/
abbrev dlLastStateState : Fld := ⟨.dlLastState, 1, 0⟩
/-- DL_RESULTS, bits [31:0]. -/
abbrev dlResults : Fld := ⟨.dlResults, 31, 0⟩
/-- CS_CTRL.GANG, bits [21:16]. -/
abbrev csCtrlGang : Fld := ⟨.csCtrl, 21, 16⟩
/-- CS_CTRL.JEV_EN, bits [8:8]. -/
abbrev csCtrlJevEn : Fld := ⟨.csCtrl, 8, 8⟩
/-- CS_CTRL.JEV_SEL, bits [7:0]. -/
abbrev csCtrlJevSel : Fld := ⟨.csCtrl, 7, 0⟩
/-- CS_STATUS.INFEASIBLE, bits [15:15]. -/
abbrev csStatusInfeasible : Fld := ⟨.csStatus, 15, 15⟩
/-- CS_STATUS.NOT_RES, bits [14:14]. -/
abbrev csStatusNotRes : Fld := ⟨.csStatus, 14, 14⟩
/-- CS_STATUS.GANGSKEW, bits [13:13]. -/
abbrev csStatusGangskew : Fld := ⟨.csStatus, 13, 13⟩
/-- CS_STATUS.ABORTED, bits [12:12]. -/
abbrev csStatusAborted : Fld := ⟨.csStatus, 12, 12⟩
/-- CS_STATUS.DEC_LATE, bits [11:11]. -/
abbrev csStatusDecLate : Fld := ⟨.csStatus, 11, 11⟩
/-- CS_STATUS.DEC_MISS, bits [10:10]. -/
abbrev csStatusDecMiss : Fld := ⟨.csStatus, 10, 10⟩
/-- CS_STATUS.ISSUE_LATE, bits [9:9]. -/
abbrev csStatusIssueLate : Fld := ⟨.csStatus, 9, 9⟩
/-- CS_STATUS.UNDERRUN, bits [8:8]. -/
abbrev csStatusUnderrun : Fld := ⟨.csStatus, 8, 8⟩
/-- CS_STATUS.COND, bits [3:3]. -/
abbrev csStatusCond : Fld := ⟨.csStatus, 3, 3⟩
/-- CS_STATUS.STATE, bits [2:0]. -/
abbrev csStatusState : Fld := ⟨.csStatus, 2, 0⟩
/-- CS_PC, bits [14:0]. -/
abbrev csPc : Fld := ⟨.csPc, 14, 0⟩
/-- CS_ENTRY, bits [14:0]. -/
abbrev csEntry : Fld := ⟨.csEntry, 14, 0⟩
/-- CS_SPAN.HI, bits [31:16]. -/
abbrev csSpanHi : Fld := ⟨.csSpan, 31, 16⟩
/-- CS_SPAN.LO, bits [14:0]. -/
abbrev csSpanLo : Fld := ⟨.csSpan, 14, 0⟩
/-- CS_JTGT, bits [14:0]. -/
abbrev csJtgt : Fld := ⟨.csJtgt, 14, 0⟩
/-- CS_T_LO, bits [31:0]. -/
abbrev csTLo : Fld := ⟨.csTLo, 31, 0⟩
/-- CS_T_HI, bits [31:0]. -/
abbrev csTHi : Fld := ⟨.csTHi, 31, 0⟩
/-- CS_BLOCK.CLASS, bits [31:30]. -/
abbrev csBlockClass : Fld := ⟨.csBlock, 31, 30⟩
/-- CS_BLOCK.ESSENTIAL, bits [29:29]. -/
abbrev csBlockEssential : Fld := ⟨.csBlock, 29, 29⟩
/-- CS_BLOCK.ID, bits [15:0]. -/
abbrev csBlockId : Fld := ⟨.csBlock, 15, 0⟩
/-- CS_BLOCKSER, bits [31:0]. -/
abbrev csBlockser : Fld := ⟨.csBlockser, 31, 0⟩
/-- CS_LEAD_LO, bits [31:0]. -/
abbrev csLeadLo : Fld := ⟨.csLeadLo, 31, 0⟩
/-- CS_LEAD_HI, bits [31:0]. -/
abbrev csLeadHi : Fld := ⟨.csLeadHi, 31, 0⟩
/-- CS_ENERGY_LO, bits [31:0]. -/
abbrev csEnergyLo : Fld := ⟨.csEnergyLo, 31, 0⟩
/-- CS_ENERGY_HI, bits [31:0]. -/
abbrev csEnergyHi : Fld := ⟨.csEnergyHi, 31, 0⟩
/-- CS_ALT.EN, bits [31:31]. -/
abbrev csAltEn : Fld := ⟨.csAlt, 31, 31⟩
/-- CS_ALT.ADDR, bits [14:0]. -/
abbrev csAltAddr : Fld := ⟨.csAlt, 14, 0⟩
/-- CS_GATE_L01.LANE1, bits [26:16]. -/
abbrev csGateL01Lane1 : Fld := ⟨.csGateL01, 26, 16⟩
/-- CS_GATE_L01.LANE0, bits [10:0]. -/
abbrev csGateL01Lane0 : Fld := ⟨.csGateL01, 10, 0⟩
/-- CS_GATE_L23.LANE3, bits [26:16]. -/
abbrev csGateL23Lane3 : Fld := ⟨.csGateL23, 26, 16⟩
/-- CS_GATE_L23.LANE2, bits [10:0]. -/
abbrev csGateL23Lane2 : Fld := ⟨.csGateL23, 10, 0⟩
/-- CS_GATE_CTRL.TRUTH, bits [31:16]. -/
abbrev csGateCtrlTruth : Fld := ⟨.csGateCtrl, 31, 16⟩
/-- CS_GATE_CTRL.MASK3, bits [15:13]. -/
abbrev csGateCtrlMask3 : Fld := ⟨.csGateCtrl, 15, 13⟩
/-- CS_GATE_CTRL.MASK2, bits [12:10]. -/
abbrev csGateCtrlMask2 : Fld := ⟨.csGateCtrl, 12, 10⟩
/-- CS_GATE_CTRL.MASK1, bits [9:7]. -/
abbrev csGateCtrlMask1 : Fld := ⟨.csGateCtrl, 9, 7⟩
/-- CS_GATE_CTRL.MASK0, bits [6:4]. -/
abbrev csGateCtrlMask0 : Fld := ⟨.csGateCtrl, 6, 4⟩
/-- CS_GATE_CTRL.DEFAULT, bits [3:3]. -/
abbrev csGateCtrlDefault : Fld := ⟨.csGateCtrl, 3, 3⟩
/-- CS_GATE_CTRL.NLANES, bits [1:0]. -/
abbrev csGateCtrlNlanes : Fld := ⟨.csGateCtrl, 1, 0⟩
/-- CS_LOOP.REMAIN, bits [23:0]. -/
abbrev csLoopRemain : Fld := ⟨.csLoop, 23, 0⟩
/-- TG_CTRL.ARM_EC, bits [31:24]. -/
abbrev tgCtrlArmEc : Fld := ⟨.tgCtrl, 31, 24⟩
/-- TG_CTRL.ARM_EN, bits [23:23]. -/
abbrev tgCtrlArmEn : Fld := ⟨.tgCtrl, 23, 23⟩
/-- TG_CTRL.PBASE, bits [22:20]. -/
abbrev tgCtrlPbase : Fld := ⟨.tgCtrl, 22, 20⟩
/-- TG_CTRL.HOLDMODE, bits [19:18]. -/
abbrev tgCtrlHoldmode : Fld := ⟨.tgCtrl, 19, 18⟩
/-- TG_CTRL.MODE, bits [17:16]. -/
abbrev tgCtrlMode : Fld := ⟨.tgCtrl, 17, 16⟩
/-- TG_CTRL.NSTATES, bits [15:12]. -/
abbrev tgCtrlNstates : Fld := ⟨.tgCtrl, 15, 12⟩
/-- TG_CTRL.NFIRE, bits [11:1]. -/
abbrev tgCtrlNfire : Fld := ⟨.tgCtrl, 11, 1⟩
/-- TG_CTRL.ARM, bits [0:0]. -/
abbrev tgCtrlArm : Fld := ⟨.tgCtrl, 0, 0⟩
/-- TG_STATUS.LEADCLAMP, bits [9:9]. -/
abbrev tgStatusLeadclamp : Fld := ⟨.tgStatus, 9, 9⟩
/-- TG_STATUS.CAPREF, bits [8:8]. -/
abbrev tgStatusCapref : Fld := ⟨.tgStatus, 8, 8⟩
/-- TG_STATUS.CUR, bits [7:4]. -/
abbrev tgStatusCur : Fld := ⟨.tgStatus, 7, 4⟩
/-- TG_STATUS.HOLDOFF, bits [3:3]. -/
abbrev tgStatusHoldoff : Fld := ⟨.tgStatus, 3, 3⟩
/-- TG_STATUS.ESTATE, bits [2:0]. -/
abbrev tgStatusEstate : Fld := ⟨.tgStatus, 2, 0⟩
/-- TG_HOLD, bits [31:0]. -/
abbrev tgHold : Fld := ⟨.tgHold, 31, 0⟩
/-- TG_HOLDEC.EC, bits [31:24]. -/
abbrev tgHoldecEc : Fld := ⟨.tgHoldec, 31, 24⟩
/-- TG_CAP.CAPEN, bits [31:31]. -/
abbrev tgCapCapen : Fld := ⟨.tgCap, 31, 31⟩
/-- TG_CAP.MEAS_EN, bits [30:30]. -/
abbrev tgCapMeasEn : Fld := ⟨.tgCap, 30, 30⟩
/-- TG_CAP.MEAS_IN, bits [13:8]. -/
abbrev tgCapMeasIn : Fld := ⟨.tgCap, 13, 8⟩
/-- TG_CAP.CAP_IN, bits [5:0]. -/
abbrev tgCapCapIn : Fld := ⟨.tgCap, 5, 0⟩
/-- TG_CAPLEN, bits [31:0]. -/
abbrev tgCaplen : Fld := ⟨.tgCaplen, 31, 0⟩
/-- TG_CAPDLY, bits [31:0]. -/
abbrev tgCapdly : Fld := ⟨.tgCapdly, 31, 0⟩
/-- TG_LIMIT, bits [31:0]. -/
abbrev tgLimit : Fld := ⟨.tgLimit, 31, 0⟩
/-- TG_COUNT, bits [31:0]. -/
abbrev tgCount : Fld := ⟨.tgCount, 31, 0⟩
/-- TG_TPERIOD, bits [31:0]. -/
abbrev tgTperiod : Fld := ⟨.tgTperiod, 31, 0⟩
/-- TG_PAT, bits [31:0]. -/
abbrev tgPat : Fld := ⟨.tgPat, 31, 0⟩
/-- TG_DC, bits [31:0]. -/
abbrev tgDc : Fld := ⟨.tgDc, 31, 0⟩
/-- TG_LEVEL.HYS, bits [27:20]. -/
abbrev tgLevelHys : Fld := ⟨.tgLevel, 27, 20⟩
/-- TG_LEVEL.LVL, bits [11:0]. -/
abbrev tgLevelLvl : Fld := ⟨.tgLevel, 11, 0⟩
/-- TG_MC.OP, bits [4:4]. -/
abbrev tgMcOp : Fld := ⟨.tgMc, 4, 4⟩
/-- TG_MC.EN, bits [3:3]. -/
abbrev tgMcEn : Fld := ⟨.tgMc, 3, 3⟩
/-- TG_MC.SEL, bits [2:0]. -/
abbrev tgMcSel : Fld := ⟨.tgMc, 2, 0⟩
/-- TG_MC_THRESH, bits [31:0]. -/
abbrev tgMcThresh : Fld := ⟨.tgMcThresh, 31, 0⟩
/-- TG_MINMAX.MAX, bits [27:16]. -/
abbrev tgMinmaxMax : Fld := ⟨.tgMinmax, 27, 16⟩
/-- TG_MINMAX.MIN, bits [11:0]. -/
abbrev tgMinmaxMin : Fld := ⟨.tgMinmax, 11, 0⟩
/-- TG_MEAN, bits [23:0]. -/
abbrev tgMean : Fld := ⟨.tgMean, 23, 0⟩
/-- TG_RMS, bits [23:0]. -/
abbrev tgRms : Fld := ⟨.tgRms, 23, 0⟩
/-- TG_AMPL, bits [23:0]. -/
abbrev tgAmpl : Fld := ⟨.tgAmpl, 23, 0⟩
/-- TG_PERIOD, bits [31:0]. -/
abbrev tgPeriod : Fld := ⟨.tgPeriod, 31, 0⟩
/-- TG_NCROSS, bits [31:0]. -/
abbrev tgNcross : Fld := ⟨.tgNcross, 31, 0⟩
/-- TG_MEND_LO, bits [31:0]. -/
abbrev tgMendLo : Fld := ⟨.tgMendLo, 31, 0⟩
/-- TG_MEND_HI, bits [31:0]. -/
abbrev tgMendHi : Fld := ⟨.tgMendHi, 31, 0⟩
/-- TG_MFLAGS, bits [4:0]. -/
abbrev tgMflags : Fld := ⟨.tgMflags, 4, 0⟩
/-- TG_S.OP, bits [31:29]. -/
abbrev tgSOp : Fld := ⟨.tgS, 31, 29⟩
/-- TG_S.CB, bits [24:16]. -/
abbrev tgSCb : Fld := ⟨.tgS, 24, 16⟩
/-- TG_S.CA, bits [8:0]. -/
abbrev tgSCa : Fld := ⟨.tgS, 8, 0⟩
/-- TG_S_T.NEXT_T, bits [19:16]. -/
abbrev tgSTNextT : Fld := ⟨.tgST, 19, 16⟩
/-- TG_S_T.ACT_T, bits [15:0]. -/
abbrev tgSTActT : Fld := ⟨.tgST, 15, 0⟩
/-- TG_S_E.CE, bits [28:20]. -/
abbrev tgSECe : Fld := ⟨.tgSE, 28, 20⟩
/-- TG_S_E.NEXT_E, bits [19:16]. -/
abbrev tgSENextE : Fld := ⟨.tgSE, 19, 16⟩
/-- TG_S_E.ACT_E, bits [15:0]. -/
abbrev tgSEActE : Fld := ⟨.tgSE, 15, 0⟩
/-- TG_FIRECNT, bits [31:0]. -/
abbrev tgFirecnt : Fld := ⟨.tgFirecnt, 31, 0⟩
/-- TG_LASTFIRE_LO, bits [31:0]. -/
abbrev tgLastfireLo : Fld := ⟨.tgLastfireLo, 31, 0⟩
/-- TG_LASTFIRE_HI, bits [31:0]. -/
abbrev tgLastfireHi : Fld := ⟨.tgLastfireHi, 31, 0⟩
/-- TI_CFG.OVER, bits [31:24]. -/
abbrev tiCfgOver : Fld := ⟨.tiCfg, 31, 24⟩
/-- TI_CFG.TRIM, bits [23:12]. -/
abbrev tiCfgTrim : Fld := ⟨.tiCfg, 23, 12⟩
/-- TI_CFG.EDGE, bits [1:0]. -/
abbrev tiCfgEdge : Fld := ⟨.tiCfg, 1, 0⟩
/-- DT.MASK, bits [31:28]. -/
abbrev dtMask : Fld := ⟨.dt, 31, 28⟩
/-- DT.K, bits [27:22]. -/
abbrev dtK : Fld := ⟨.dt, 27, 22⟩
/-- DT.THR, bits [21:16]. -/
abbrev dtThr : Fld := ⟨.dt, 21, 16⟩
/-- DT.LANE, bits [10:0]. -/
abbrev dtLane : Fld := ⟨.dt, 10, 0⟩
/-- DT_FIRES, bits [31:0]. -/
abbrev dtFires : Fld := ⟨.dtFires, 31, 0⟩
/-- TG_PUB.EN, bits [31:31]. -/
abbrev tgPubEn : Fld := ⟨.tgPub, 31, 31⟩
/-- TG_PUB.PORTS, bits [23:16]. -/
abbrev tgPubPorts : Fld := ⟨.tgPub, 23, 16⟩
/-- TG_PUB.SEV, bits [15:8]. -/
abbrev tgPubSev : Fld := ⟨.tgPub, 15, 8⟩
/-- TG_PUB.SRC, bits [7:0]. -/
abbrev tgPubSrc : Fld := ⟨.tgPub, 7, 0⟩
/-- TG_PUB_EXTRA, bits [15:0]. -/
abbrev tgPubExtra : Fld := ⟨.tgPubExtra, 15, 0⟩
/-- TG_XIN.EN, bits [31:31]. -/
abbrev tgXinEn : Fld := ⟨.tgXin, 31, 31⟩
/-- TG_XIN.PORT, bits [10:8]. -/
abbrev tgXinPort : Fld := ⟨.tgXin, 10, 8⟩
/-- TG_XIN.SEV, bits [7:0]. -/
abbrev tgXinSev : Fld := ⟨.tgXin, 7, 0⟩
/-- TG_FWD.EN, bits [31:31]. -/
abbrev tgFwdEn : Fld := ⟨.tgFwd, 31, 31⟩
/-- TG_FWD.SEV_HI, bits [15:8]. -/
abbrev tgFwdSevHi : Fld := ⟨.tgFwd, 15, 8⟩
/-- TG_FWD.SEV_LO, bits [7:0]. -/
abbrev tgFwdSevLo : Fld := ⟨.tgFwd, 7, 0⟩
/-- TG_FWD_IO.IN, bits [15:8]. -/
abbrev tgFwdIoIn : Fld := ⟨.tgFwdIo, 15, 8⟩
/-- TG_FWD_IO.OUT, bits [7:0]. -/
abbrev tgFwdIoOut : Fld := ⟨.tgFwdIo, 7, 0⟩
/-- TG_XSTATUS.XDROP, bits [3:3]. -/
abbrev tgXstatusXdrop : Fld := ⟨.tgXstatus, 3, 3⟩
/-- TG_XSTATUS.XHOPLIMIT, bits [2:2]. -/
abbrev tgXstatusXhoplimit : Fld := ⟨.tgXstatus, 2, 2⟩
/-- TG_XSTATUS.XSTALE, bits [1:1]. -/
abbrev tgXstatusXstale : Fld := ⟨.tgXstatus, 1, 1⟩
/-- TG_XSTATUS.XLATE, bits [0:0]. -/
abbrev tgXstatusXlate : Fld := ⟨.tgXstatus, 0, 0⟩
/-- DF_CTRL.TX_EN, bits [0:0]. -/
abbrev dfCtrlTxEn : Fld := ⟨.dfCtrl, 0, 0⟩
/-- DF_STATUS.STALE, bits [7:7]. -/
abbrev dfStatusStale : Fld := ⟨.dfStatus, 7, 7⟩
/-- DF_STATUS.UNROUTED, bits [6:6]. -/
abbrev dfStatusUnrouted : Fld := ⟨.dfStatus, 6, 6⟩
/-- DF_STATUS.HOPLIMIT, bits [5:5]. -/
abbrev dfStatusHoplimit : Fld := ⟨.dfStatus, 5, 5⟩
/-- DF_STATUS.TX_DROP, bits [4:4]. -/
abbrev dfStatusTxDrop : Fld := ⟨.dfStatus, 4, 4⟩
/-- DF_STATUS.FWD_DROP, bits [3:3]. -/
abbrev dfStatusFwdDrop : Fld := ⟨.dfStatus, 3, 3⟩
/-- DF_STATUS.REVOKED, bits [2:2]. -/
abbrev dfStatusRevoked : Fld := ⟨.dfStatus, 2, 2⟩
/-- DF_STATUS.TAINT, bits [1:1]. -/
abbrev dfStatusTaint : Fld := ⟨.dfStatus, 1, 1⟩
/-- DF_STATUS.LATE_RX, bits [0:0]. -/
abbrev dfStatusLateRx : Fld := ⟨.dfStatus, 0, 0⟩
/-- DF_PORTDOWN, bits [7:0]. -/
abbrev dfPortdown : Fld := ⟨.dfPortdown, 7, 0⟩
/-- DF_LATECNT, bits [31:0]. -/
abbrev dfLatecnt : Fld := ⟨.dfLatecnt, 31, 0⟩
/-- DF_TXDROP, bits [31:0]. -/
abbrev dfTxdrop : Fld := ⟨.dfTxdrop, 31, 0⟩
/-- DF_RXDROP, bits [31:0]. -/
abbrev dfRxdrop : Fld := ⟨.dfRxdrop, 31, 0⟩
/-- DF_TAINTCNT, bits [31:0]. -/
abbrev dfTaintcnt : Fld := ⟨.dfTaintcnt, 31, 0⟩
/-- DF_PUB.EN, bits [31:31]. -/
abbrev dfPubEn : Fld := ⟨.dfPub, 31, 31⟩
/-- DF_PUB.PORTS, bits [23:16]. -/
abbrev dfPubPorts : Fld := ⟨.dfPub, 23, 16⟩
/-- DF_PUB.LANE, bits [9:0]. -/
abbrev dfPubLane : Fld := ⟨.dfPub, 9, 0⟩
/-- DF_PUB_EXTRA, bits [15:0]. -/
abbrev dfPubExtra : Fld := ⟨.dfPubExtra, 15, 0⟩
/-- DF_XIN.EN, bits [31:31]. -/
abbrev dfXinEn : Fld := ⟨.dfXin, 31, 31⟩
/-- DF_XIN.DOWN, bits [8:8]. -/
abbrev dfXinDown : Fld := ⟨.dfXin, 8, 8⟩
/-- DF_XIN.PORT, bits [2:0]. -/
abbrev dfXinPort : Fld := ⟨.dfXin, 2, 0⟩
/-- DF_FWD.EN, bits [31:31]. -/
abbrev dfFwdEn : Fld := ⟨.dfFwd, 31, 31⟩
/-- DF_FWD.CH_HI, bits [15:8]. -/
abbrev dfFwdChHi : Fld := ⟨.dfFwd, 15, 8⟩
/-- DF_FWD.CH_LO, bits [7:0]. -/
abbrev dfFwdChLo : Fld := ⟨.dfFwd, 7, 0⟩
/-- DF_FWD_IO.IN, bits [15:8]. -/
abbrev dfFwdIoIn : Fld := ⟨.dfFwdIo, 15, 8⟩
/-- DF_FWD_IO.OUT, bits [7:0]. -/
abbrev dfFwdIoOut : Fld := ⟨.dfFwdIo, 7, 0⟩
/-- DF_WORD.W, bits [3:0]. -/
abbrev dfWordW : Fld := ⟨.dfWord, 3, 0⟩

end F

end Sys2Proof.Machine
end

