-- ==== Sys2Proof/Machine/State.lean ====
section
/-! DEFINITION. The device's state as plain data, and the state after reset. Registers that software reads and
writes live in one sparse map from address to word (what it does not list holds the reset value of its register's
table, Machine/Regs.lean); what moves by itself, and what no register shows, lives in the records below. -/

namespace Sys2Proof.Machine

/-- Why the device stops with a fault. -/
inductive Fault where
  /-- No meaning raises it: the spec ends no command of this block in a machine stop. Safe. -/
  | none
  deriving DecidableEq, Repr

/-- Why the model gives a command no meaning. -/
inductive Refusal where
  /-- Raised by an arm of exec whose row has no meaning yet. Safe. -/
  | notModelled (mnemonic : String)
  deriving DecidableEq, Repr

/-- The stages of reset and start-up (R516, R519): RESET_N low, the eight stages done so far, stopped with a code after the
stages done, or the command engine released. -/
inductive Phase where
  | inReset
  | starting (stagesDone : Nat)
  | stopped (code stagesDone : Nat)
  | running
  deriving DecidableEq, Repr

/-- An event of the router (R271): its producer code (R273), stamp and LATE bit; rx names the event frames it depends on
(R269), which no consumer sees. -/
structure Ev where
  code : Nat
  stamp : Nat
  late : Bool
  rx : List Nat := []
  deriving DecidableEq, Repr

/-- One event counter (R287 to R290): the count before this router cycle's additions, the additions of this cycle,
the snapshot made in this cycle, if any (its stamp), and the last snapshot's count and stamp. -/
structure Evc where
  base : Nat := 0
  add : Nat := 0
  snapNow : Option Nat := none
  snap : Nat := 0
  snapT : Nat := 0
  deriving DecidableEq, Repr

/-- The event router (R274 to R285): events presented in this fabric cycle and in the one before, those whose stamps lie
ahead, the activations
delivered in this router cycle, the cycles of each guarded channel's deliveries, the
selections cut by sealing (register address) and those of them written again in this cycle (R285), the event counters and
the session that last wrote each one's EVC_CTRL. -/
structure Router where
  now : List Ev := []
  prev : List Ev := []
  later : List Ev := []
  act : SMap Ev := []
  hist : SMap (List Nat) := []
  last : SMap Nat := []
  cut : List Nat := []
  lift : List Nat := []
  evc : SMap Evc := []
  evcBy : SMap Nat := []
  deriving DecidableEq, Repr

/-- The link check of one port (R58, R443): the exchanges completed (2 theta and 2 delay, in 1/256 sample), how many
exchanges have begun, and of the one that is open its stamps t1 and t4, its D and S, and the cycle in which its REQ
was sent. -/
structure LinkCheck where
  done : List (Int × Int) := []
  tried : Nat := 0
  t1 : Option Int := none
  t4 : Option Int := none
  d : Option Int := none
  sum : Option Int := none
  since : Option Nat := none
  deriving DecidableEq, Repr

/-- The time base (R33 to R68): W and d in force and those waiting (R53: W, d, the local sample count at which they
apply), OFFSET in force and its staged words, writes landing in this cycle that act at the next, the last SYNC edge
not ignored (SAMPLECOUNT in 1/256 sample), the arming cycle of SYNC capture and the REG_STATE before it, the alarms'
arming cycles and the alarms written in this cycle, the link check under way, and the rise index of the last pulse
made at SYNC_OUT in GENERATE mode. -/
structure TimeBase where
  W : Int := 0
  d : Nat := 0
  waiting : Option (Int × Nat × Nat) := none
  offset : Nat := 0
  staged : List Nat := [0, 0, 0, 0]
  commit : Option (List Nat) := none
  rateNext : Option Nat := none
  lastEdge : Option Nat := none
  armCycle : Option Nat := none
  former : Nat := 0
  alarmCycle : SMap Nat := []
  alarmPend : List Nat := []
  check : SMap LinkCheck := []
  checkAt : Option Nat := none
  pulse : Option Nat := none
  deriving DecidableEq, Repr

/-- A decision word (R225 to R227): its availability index A, state, F bit, the local cycle from which it has reached the
sequencers, and the number of the remote word it came from, 0 for a local or a synthetic word. -/
structure DecWord where
  a : Nat
  state : Nat
  f : Bool
  reach : Nat
  rx : Nat := 0
  deriving DecidableEq, Repr

/-- A condition armed by ARMD (R106, R107, R112): its number, the lanes it needs, each with its mask and the word latched
for it, the truth table, the default, whether it is a gate, T_a; the cursor T_c of the CPLAY or JCOND that resolves
it and the number of that instruction's block, once one has issued; and the verdict. -/
structure Cond where
  ser : Nat
  gate : Bool
  lanes : List (Nat × Nat × Option DecWord)
  truth : Nat
  dflt : Bool
  ta : Nat
  tc : Option Nat := none
  uid : Nat := 0
  v : Option Bool := none
  deriving DecidableEq, Repr

/-- A block that a sequencer presents (R80): the address of its BLOCK, its candidate, the channel it waits on in EVENT
mode, the fabric cycle of its presentation, its energy vector in force then (R304), whether it is presented again at
YIELD (R84), and whether it takes its candidate as it is, whatever its START field says; alts holds the alternates enabled then (address, vector); rx as in Ev. -/
structure Pres where
  addr : Nat
  t0 : Nat
  ec : Option Nat := none
  cycle : Nat
  vec : List Nat := []
  again : Bool := false
  alts : List (Nat × List Nat) := []
  rx : List Nat := []
  deriving DecidableEq, Repr

/-- An admitted block of a sequencer: a number of its own, its BLOCK's address, its candidate and start index, energy
vector, COLOPHON, UPOL, BLOCK_ID and serial, the segments it pins, whether it has started, whether an UNDERRUN was set
during it, and its end index once it is closed. -/
structure Blk where
  uid : Nat
  addr : Nat
  t0 : Nat
  start : Nat
  vec : List Nat
  colo : Bool
  upol : Bool
  id : Nat
  serial : Nat
  pins : List Nat := []
  started : Bool := false
  underrun : Bool := false
  stop : Option Nat := none
  deriving DecidableEq, Repr

/-- A channel or read-out sequencer (R70 to R116); STATE, PC, the counters' REMAIN and the sticky flags stand in its
registers. npc is the next address, t the cursor T, blk the open block, ending the closed blocks whose end index is
not past, pres the block presented, altOf the BLOCK deferred while an alternate runs, represent the BLOCK of a
deferral, cond the armed condition and old the earlier ones that a CPLAY still needs, bounds the boundaries (R98),
jump a pending jump request (r, target, rx as in Ev), final the index at which STATE becomes a final state, stopAt that at which a STOP
behind it takes STATE to STOPPED, late and affected the
blocks that are late-dependent (from an index) and those that used a tainted word, folios the folio ranges that the records of each
block took on a lane (R245). -/
structure Seq where
  npc : Nat := 0
  t : Nat := 0
  issuing : Bool := false
  lastIssue : Option Nat := none
  cond : Option Cond := none
  old : List Cond := []
  condSer : Nat := 0
  blk : Option Blk := none
  uid : Nat := 0
  pres : Option Pres := none
  altOf : Option Nat := none
  represent : Option Nat := none
  jump : Option (Nat × Nat × List Nat) := none
  bounds : List Nat := []
  ending : List Blk := []
  final : Option (Nat × Nat) := none
  stopAt : Option Nat := none
  late : SMap Nat := []
  affected : List Nat := []
  folios : SMap (Nat × Nat × Nat) := []
  deriving DecidableEq, Repr

/-- What an issued instruction does at its index (R92), where it is not a voice, a marker interval, a window or a
capture, which stand in the records of their port or input. -/
inductive ActKind where
  | setf (car freq : Nat)
  | setp (car : Nat) (add : Bool) (phase : Nat)
  | setport (kind value : Nat)
  | strobe
  | emit (out : Nat)
  deriving DecidableEq, Repr

/-- An action issued for a future index: the index at which it takes effect, the index it was programmed for, its
sequencer, and what it does; actions stand in issue order. -/
structure Act where
  index : Nat
  prog : Nat
  owner : Nat
  kind : ActKind
  deriving DecidableEq, Repr

/-- A play of a voice of a port (R117): its segment or ring, its start, its length, the first sample that can leave the
land, its gain; once judged at its read point, whether it sounds, its rate and kind, the ring position it reads from,
its lines and the next to read, the lines missing and the lines read (R149, R150); the resampled samples read and not
yet out, with their clamps; and where it was stopped. -/
structure Voice where
  voice : Nat
  stream : Bool
  seg : Nat
  start : Nat
  len : Nat
  reach : Nat
  gain : Int
  rate : Nat := 0
  kind : Nat := 0
  m : Nat := 0
  judged : Bool := false
  sounds : Bool := false
  base : Nat := 0
  lines : Nat := 0
  nextLine : Nat := 0
  missing : List Nat := []
  pipe : List (Nat × Option (Int × Int × Bool × Bool)) := []
  data : SMap (List Byte) := []
  stopAt : Option Nat := none
  choice : Option (Nat × Nat × Nat) := none
  deriving DecidableEq, Repr

/-- A staged value of a port (R169): its index, its order, and the staged register it goes to: kind 0 OP_MODE, 1
OP_BIAS, 2 a binding (voice times 32 plus carrier), 3 OP_TRIM, 4 the calibrated skew. -/
structure Staging where
  index : Nat
  kind : Nat
  value : Nat
  deriving DecidableEq, Repr

/-- A safe interval (R172): its start, its end, the outgoing mode word, whether the port was in MUTE, whether V_bias is held at 0 V,
the index before which dropped words count for SPANCUT (R176), and whether SPANCUT was set already. -/
structure Safe where
  start : Nat
  stop : Nat
  outgoing : Nat
  outMuted : Bool
  hold : Bool
  counts : Nat
  cut : Bool
  deriving DecidableEq, Repr

/-- An output port (R158 to R179): its stagings not yet applied, the setting, bias code, trim and skew in force, the
carriers bound, its safe interval, when its bias DAC last started toward its code, the index at which a MUTE_ALL reaches it with LIVE
as it was (R176), whether a MUTE_ALL has put it in MUTE since the last strobe, the resistance of the load at its land in ohms and
whether its current limit is engaged (R165), its voices, its marker intervals (bit, start, stop, programmed index) and the sample
word that left its land in this cycle. -/
structure Port where
  staged : List Staging := []
  mode : Nat := 0
  bias : Nat := 0
  trim : Nat := 0
  skew : Nat := 0
  bind : List Nat := List.range 16
  safe : Option Safe := none
  biasFrom : Nat := 0
  muteAt : Option (Nat × Bool) := none
  muted : Bool := false
  load : Nat := 1000
  limited : Bool := false
  voices : List Voice := []
  marks : List (Nat × Nat × Nat × Nat) := []
  out : List Int := []
  deriving DecidableEq, Repr

/-- A carrier (R122 to R126): FREQ, OFS and PHMODE at the first sample of the current word, and in CONT mode ACC at
the first sample of local sample count accAt. The words written and not committed stand in its registers. -/
structure Carrier where
  freq : Nat := 0
  ofs : Nat := 0
  cont : Bool := false
  acc : Nat := 0
  accAt : Nat := 0
  deriving DecidableEq, Repr

/-- A directory entry of a galley (R137): state 0 EMPTY, 1 KNOWN, 2 FETCHING, 3 RESIDENT; home line; library line;
LEN, RATE, KIND, M and SQ; the LOADSER of its last load or fetch (R135). -/
structure Seg where
  state : Nat := 0
  home : Nat := 0
  lib : Option Nat := none
  len : Nat := 0
  rate : Nat := 0
  kind : Nat := 0
  m : Nat := 0
  sq : Nat := 0
  loadser : Nat := 0
  deriving DecidableEq, Repr

/-- A carrier write that falls in the current word (R126): its index, its rank among the writes of one index (0 a
register commit, 1 a SETF, 2 a set of OFS, 3 an add), its sequencer, the carrier, whether it changes OFS, whether it
adds, whether it commits PHMODE too, and the value. -/
structure Change where
  index : Nat
  rank : Nat
  owner : Nat
  car : Nat
  ofs : Bool
  add : Bool
  mode : Option Bool
  value : Nat
  deriving DecidableEq, Repr

/-- A forme (R134 to R157): the fetches queued (segment numbers, the first running when busy), the lines that the running
one has not received, the pins (segment,
sequencer), the carrier writes of the current word in the order they apply, and the cycle in which each ring's active
PLAY reads its last line. -/
structure Forme where
  fetchq : List Nat := []
  busy : Bool := false
  left : Nat := 0
  pins : List (Nat × Nat) := []
  changes : List Change := []
  ringBusy : SMap Nat := []
  deriving DecidableEq, Repr

/-- A ledger of the budget scheduler (R292 to R296): C, P_COOL, P_STAT, T_BASE, T_LIM, LAG and TMO in force, H and U,
the charges that a LAG can still reach (cycle, amount), the last moment that restarts its deadline (cycle), whether STALE was
raised for the deadline now passed; hSeen and uSeen are H and U as the last cycle left them, which a read in this cycle
returns; meas is the measurement delivered in this cycle, whose correction follows the cycle's charges (R305). -/
structure Ledger where
  c : Nat := 0
  pcool : Nat := 0
  pstat : Nat := 0
  tbase : Nat := 0
  tlim : Nat := 0
  lag : Nat := 0
  tmo : Nat := 0
  h : Nat := 0
  u : Nat := 0
  charges : List (Nat × Nat) := []
  since : Nat := 0
  stale : Bool := false
  hSeen : Nat := 0
  uSeen : Nat := 0
  meas : Option Nat := none
  deriving DecidableEq, Repr

/-- The mark of a sequence number in a replay window (R454, R455). -/
inductive SeqMark where
  | recorded (status : Nat) (flags : Nat) (steps at_ detail : Nat) (data : List Byte) (len : Nat) (op : Nat)
  | executing
  deriving DecidableEq, Repr

/-- A reply or notice packet (R453, R468) before protection: the transport it goes to, its header fields and data. -/
structure Reply where
  via : Nat
  opcode : Nat
  sess : Nat
  flags : Nat
  devid : Nat
  status : Nat
  seq : Nat
  length : Nat
  steps : Nat
  at_ : Nat
  detail : Nat
  data : List Byte
  deriving DecidableEq, Repr

/-- A session (R483 to R489, R454): whether it is open and on which transport, its 72 key bytes (R484), its link epoch, the packets received and sent per virtual channel (0, 2, 3), the
highest sequence number H, whether the numbers of its first window still stand, the marks of its window, and its
queued notices. -/
structure Session where
  isOpen : Bool := false
  via : Nat := 0
  keys : List Byte := []
  epoch : Nat := 0
  rx : List Nat := [0, 0, 0]
  tx : List Nat := [0, 0, 0]
  h : Nat := 0xFFFFFFFF
  first : Bool := true
  marks : SMap SeqMark := []
  notices : List Reply := []
  deriving DecidableEq, Repr

/-- A routine of the command engine (R452, R464): the command, how many steps it has committed, the fabric cycle of
its acceptance, the steps committed before the first preemption, whether its step waits for DRAM lines or a class rewrite,
whether its reply carries CANCELLED, the cycles spent preempted and the cycle since which it is preempted; resv is the offset
of a reserved payload byte that is not 0, and index the index of its acceptance (R453). -/
structure Routine where
  cmd : Instr
  ctx : Ctx
  opcode : Nat
  steps : Nat := 0
  accepted : Nat
  preempted : Option Nat := none
  waiting : Bool := false
  cancelled : Bool := false
  away : Nat := 0
  paused : Option Nat := none
  resv : Option Nat := none
  index : Nat := 0
  deriving DecidableEq, Repr

/-- An entry of the timed table (R457, R458): whether EXEC_AT lay less than 64 cycles after its acceptance (R23), and the
index at which it was accepted (R453). -/
structure Timed where
  id : Nat
  cmd : Instr
  ctx : Ctx
  opcode : Nat
  execAt : Nat
  late : Bool
  accepted : Nat
  deriving DecidableEq, Repr

/-- The command engine (R448 to R478): the packets that wait, the urgent ones with their cycles of arrival, the routine that
runs and the urgent one, the timed table, the replies that wait per transport, the packet that the MGMT SPI holds (PUT_BUSY), the halt, the microcode stage, the committed image and
the active one (its sorts and case words are the sort and case stores, R473), and which free contents the register bank and
its shadow hold (R474, Config.bank). -/
structure Engine where
  queue : List Packet := []
  urgq : List (Packet × Nat) := []
  running : Option Routine := none
  urgent : Option Routine := none
  timed : List Timed := []
  nextId : Nat := 0
  out : List Reply := []
  halted : Bool := false
  put : Option RawPacket := none
  stageLen : Nat := 0
  stage : List (Nat × Byte) := []
  committed : List Byte := []
  active : List Byte := []
  bank : Nat := 0
  shadow : Nat := 0
  deriving DecidableEq, Repr

/-- The lane settings that a window latches at its start (R194): the decimation code, FREQ, OFS, DL_CTRL, DL_KBASE,
DL_KLEN, DL_KREG, the boundaries (A, B, C) and DL_DISC. -/
structure LaneSet where
  dec : Nat
  freq : Nat
  ofs : Nat
  ctrl : Nat
  kbase : Nat
  klen : Nat
  kreg : Nat
  bounds : List (Int × Int × Int)
  disc : Nat
  deriving DecidableEq, Repr

/-- An integration window on a lane (R92, R193 to R197): its start W and LEN, the first input sample that counts
(R196), the serial and the number of the block that issued it, the latched settings, the decimated samples entered,
those discarded (R199) and those consumed, its flags (R213), the index that cut it, the result latch, whether its
program has ended, and whether its finish step is past. -/
structure Win where
  w : Nat
  len : Nat
  late : Nat
  serial : Nat
  uid : Nat
  set : Option LaneSet := none
  k : Nat := 0
  lost : List Nat := []
  used : Nat := 0
  flags : Nat := 0
  cutAt : Option Nat := none
  result : Int × Int × Bool := (0, 0, false)
  ended : Bool := false
  handed : Bool := false
  deriving DecidableEq, Repr

/-- A demod lane (R198 to R207): its windows in order, the sample buffer (window start, place, I, Q), the next engine
step (step s covers samples 8s to 8s + 7), the first step at which the next program may start, whether a program runs,
its pc, KP, PS and accumulators (I, Q, SAT), the repeat cache (first address, LEN, passes left), the samples a SKIP
has still to discard, and whether a record was dropped since the last stored one. head is the chain head (R500; none
at its start-up value), chained the records chained since the last colophon, colEnd and colPrev that colophon's END and
HEAD, colStop the folio after the last record chained, colSer the lane's colophons so far, colWait a deferred colophon
(KIND, block serial), wrote the numbers of the blocks in which the lane stored a record, colBlocks the COLOPHON blocks ended
whose records are not all chained (number, serial). -/
structure Lane where
  wins : List Win := []
  buf : List (Nat × Nat × Int × Int) := []
  step : Nat := 0
  free : Nat := 0
  run : Bool := false
  pc : Nat := 0
  kp : Nat := 0
  ps : Nat := 0
  acc : List (Int × Int × Bool) := [(0, 0, false), (0, 0, false), (0, 0, false), (0, 0, false)]
  rep : Option (Nat × Nat × Nat) := none
  skip : Nat := 0
  gap : Bool := false
  head : Option (List Byte) := none
  chained : Nat := 0
  colEnd : Nat := 0
  colStop : Nat := 0
  wrote : List Nat := []
  colPrev : Option (List Byte) := none
  colSer : Nat := 0
  colWait : Option (Nat × Nat) := none
  colBlocks : List (Nat × Nat) := []
  deriving DecidableEq, Repr

/-- A record as it stands in a ring (R212), with the number of the block that issued its window and
the bytes that errors of its word have changed (R374), none where none have. -/
structure Record where
  folio : Nat
  start : Nat
  i : Int
  q : Int
  lane : Nat
  state : Nat
  h : Nat
  scale : Nat
  flags : Nat
  len : Nat
  serial : Nat
  uid : Nat
  flip : List Byte := []
  deriving DecidableEq, Repr

/-- A raw capture of an input (R185 to R191): its start, LEN, header BLOCKSER, whether it was refused at issue, the
engine that started it if one did, the first input sample a late CAPT takes in, and from its start on: the CAPDEC code, the offset of its header line, CAPSER, the
engines that measure it, whether it has started, its flags CLIP and CUT and TRUNC, the index at which STOP or
FAULT ends it, its end or cut index, the place of its free values (R77), the stored samples taken so far, those that found the
buffer full (R190), the half bytes of data that no line holds yet, and whether it has ended in this cycle. -/
structure Capture where
  start : Nat
  len : Nat
  serial : Nat
  refused : Bool
  engine : Option Nat := none
  late : Nat := 0
  code : Nat := 0
  offset : Nat := 0
  capser : Nat := 0
  meas : List Nat := []
  isOpen : Bool := false
  clip : Bool := false
  cut : Bool := false
  trunc : Bool := false
  cutAt : Option Nat := none
  stop : Nat := 0
  freeAt : Nat := 0
  taken : Nat := 0
  lost : List Nat := []
  odd : List Nat := []
  ended : Bool := false
  deriving DecidableEq, Repr

/-- An input port: its captures (at most one open at a sample), whether its ADC calibration is extrapolated (R213), whether its
capture area is full (R187), the corrected samples x[n] of the words that an open window or capture may still take in (R182: by
word number n / 32), its capture buffer (R190: the stored samples it holds, and the lines that wait for DRAM, each with its
number, its bytes and the stored samples that it frees; drained is the position modulo 512 of the first of those lines), its record
ring with the records that have left it (gone, modulo 1,024), the overranged samples of the current word (R184), the spool lines that
hold records (line, record), and whether a lane met an uncorrectable word of its program or kernel store in this cycle (R374). -/
structure Input where
  caps : List Capture := []
  extrap : Bool := false
  full : Bool := false
  words : SMap (List Int) := []
  fill : Nat := 0
  held : List (Nat × List Byte × Nat) := []
  ring : List Record := []
  ovr : List Nat := []
  spool : SMap Record := []
  gone : Nat := 0
  drained : Nat := 0
  broken : Bool := false
  deriving DecidableEq, Repr

/-- A word received from a peer (R238, R244, R246): its number, channel (256 and more for an event frame), port, due index D,
the ports it was forwarded on, whether its tag is not verified yet and whether it is tainted; the blocks that used it
stand in uses (sequencer, number), and the captures that depend on an event in caps (input, CAPSER) (R269). -/
structure RxWord where
  id : Nat
  ch : Nat
  port : Nat
  d : Nat
  fwd : List Nat
  suspect : Bool
  tainted : Bool := false
  uses : List (Nat × Nat)
  caps : List (Nat × Nat) := []
  deriving DecidableEq, Repr

/-- A frame of a link (R428, R430): its FSEQ, channel, FIRST, TAG, and its payload before protection. -/
structure LFrame where
  fseq : Nat
  vc : Nat
  first : Bool
  tag : Bool
  data : List Byte
  deriving DecidableEq, Repr

/-- A record packet under way (R431, R487): its input, the records still to come, its key and initialisation vector, its header frame, and
the ciphertext sent so far. -/
structure Streamed where
  input : Nat
  left : Nat
  key : List Byte
  iv : List Byte
  header : List Byte
  sent : List Byte := []
  deriving DecidableEq, Repr

/-- The failure of an expected frame (R439): the sample count of the first RETRY, that of the last, the RETRYs sent, and the
errors of each logical lane since the first. -/
structure RxFail where
  first : Nat
  last : Nat
  tries : Nat
  errs : List Nat
  deriving DecidableEq, Repr

/-- The link layer of a port (R425 to R445, R492). vq is the VC1 queue (R234), slot the next reserved slot of the transmitter,
kept the VC1 blocks sent in the last 256 reserved slots, owed the slots whose tags are not sent yet with those tags, acted the VC1
blocks acted on whose tags have not come (slot, index of arrival, remote word, tag that they must have), tq the timing blocks that use the slots
vq leaves empty with t2 of the exchanges answered in answers (R443), retried the RETRY1s sent per slot
(slot, first cycle, number). out holds the frames waiting (any channel, in order), cred the credits of VC0, VC2 and
VC3, fseq the next FSEQ, replay the frames not acknowledged, resend those still to resend; expect is E, fail its
failure, part the payloads of the frames of partly received packets by channel, waitp the
packets that wait for room in the command queue with owe the credits kept with them, back the credits returned per channel, seen the
far end's CR counts last seen. farAcked and sentAcked are the two ends of
R435, got whether a LINIT has come with farKind its KIND, heard the cycle of the last valid LINK or LINIT block or of the state's entry, linitAt the cycle of the next
LINIT. onSpare is the logical lane that this transmitter's spare carries, sparing the lane whose SPARE is
repeated, the physical index that carried it (none: not placed) and the cycle of the next repeat. attestAt is the cycle of entry to ATTEST, hello whether
the far HELLO passed its tests (none: not received). sent is the last LINK or LINIT block sent, as
a number of R432 without CHECK. packet is the record packet under way (R431): its input, the records still to come and the vector of
its tag; after holds the VC3 frames that wait behind it. eph is the private key and nonce the nonce of the HELLO sent, mine its payload and
far the far end's (R491); txKeys and rxKeys are the link keys of the two directions: K_enc, K_mac and salt, 68 bytes each, none before
attestation (R492). -/
structure Link where
  vq : List Nat := []
  tq : List Nat := []
  answers : SMap Int := []
  slot : Nat := 0
  kept : List (Nat × Nat) := []
  owed : List (Nat × Nat) := []
  acted : List (Nat × Nat × Nat × Nat) := []
  retried : List (Nat × Nat × Nat) := []
  out : List LFrame := []
  cred : List Nat := [0, 0, 0]
  fseq : Nat := 0
  replay : List LFrame := []
  resend : List LFrame := []
  expect : Nat := 0
  fail : Option RxFail := none
  part : SMap (List (List Byte)) := []
  waitp : List RawPacket := []
  owe : List Nat := [0, 0, 0]
  back : List Nat := [0, 0, 0]
  seen : List Nat := [0, 0, 0]
  farAcked : Bool := false
  got : Bool := false
  farKind : Nat := 0
  sentAcked : Bool := false
  heard : Nat := 0
  linitAt : Nat := 0
  onSpare : Option Nat := none
  sparing : Option (Nat × Option Nat × Nat) := none
  attestAt : Nat := 0
  hello : Option Bool := none
  sent : Nat := 0
  packet : Option Streamed := none
  after : List LFrame := []
  eph : Nat := 0
  nonce : List Byte := []
  mine : List Byte := []
  far : List Byte := []
  txKeys : List Byte := []
  rxKeys : List Byte := []
  deriving DecidableEq, Repr

/-- A receive lane (R409 to R420): the count of HUNT, the blocks and invalid headers of the window, whether a search has run
since EN, the best margin and code of the search that runs and when its next step is due, the last valid ALIGN of a
LOCKED lane, and the PRBS31 checker's last 31 bits and the bits checked. dscr is the descrambler: the last 58 payload bits received, the
oldest at bit 0 (R404); came is the last block received. time is the sender's block time of the next block, known once an ALIGN has been
read, carry the LLANE of that ALIGN, and queue the blocks that wait in the deskew buffer: the u of R407, the logical lane, the header and
the payload. -/
structure SLane where
  hunt : Nat := 0
  win : Nat := 0
  bad : Nat := 0
  searched : Bool := false
  best : Nat := 0
  bestAt : Nat := 0
  eqAt : Nat := 0
  al : Option AlignBlock := none
  prbs : Nat := 0
  seen : Nat := 0
  dscr : Nat := 0
  came : Nat × Nat := (0, 0)
  time : Option Nat := none
  carry : Nat := 15
  queue : List (Nat × Nat × Nat × Nat) := []
  deriving DecidableEq, Repr

/-- A port's alignment (R407, R412): the cycle of its enable, the alignment times sent since, and the alignment time that
is being received: its ALSEQ, the block time of its first arrival, and the cycle in which it is judged at the latest;
last is the ALSEQ and first arrival of the last one judged. Of the transmit side, scr are the scramblers of the nine pairs (as dscr of
SLane), prbs their PRBS31 generators (the last 31 bits), time the block times sent, next the first slot not yet given to a block, tx the
slots given and not yet sent with header and payload, linked the slot of the last LINK block, and line what each pair sent last (none:
electrically idle) (R404, R407, R420, R433). Of the receive side, skewed and wired are the alignment times whose DESKEW_FAIL
and MISWIRE events have been given, ext is the count of alignment times that the far end's latest ALIGN
means, rxu the u of the next slots to be delivered, and rxf the head and the data blocks of a frame under way (R407, R428). -/
structure SPort where
  from_ : Nat := 0
  sent : Nat := 0
  judge : Option (Nat × Nat × Nat) := none
  last : Option (Nat × Nat) := none
  scr : List Nat := []
  prbs : List Nat := []
  time : Nat := 0
  next : Nat := 0
  tx : SMap (Nat × Nat) := []
  linked : Nat := 0
  line : List (Option (Nat × Nat)) := []
  ext : Option Nat := none
  skewed : Option Nat := none
  wired : Option Nat := none
  rxu : Option Nat := none
  rxf : Option (Nat × List (Bool × Nat)) := none
  deriving DecidableEq, Repr

/-- A hold-off (R259): the FIRE's stamp, the index that ends it in TIME mode, and the events still awaited in EVENTS
mode. -/
structure HoldOff where
  f : Nat
  stop : Option Nat
  left : Nat
  deriving DecidableEq, Repr

/-- A trigger engine (R252 to R260): the first cycle it evaluates, the stamp that entered the current state, the FIREs
since arming, the index at which each COUNTk reached LIMITk, the timers started (expiry, expired), the hold-off, the
stamp from which pulses are eligible again, whether the pattern vector matched in the cycle before the last and in
the last, the arming (its index) or change to IDLE (none) that takes effect when the cycle ends, the captures
scheduled (start, input, LEN, rx as in Ev), the cycle whose row took the last transition (R253), the stamps of the HOLD_EC activations
delivered since the engine was armed that may count against a hold-off (R259), and the event frames on which the current state, each count and each
timer depend (R269). -/
structure TrigEng where
  from_ : Nat := 0
  entered : Nat := 0
  fires : Nat := 0
  since : List (Option Nat) := [none, none, none, none]
  timers : List (Option (Nat × Bool)) := [none, none, none, none]
  hold : Option HoldOff := none
  thr : Nat := 0
  before : Bool := false
  matched : Bool := false
  chg : Option (Option Nat) := none
  caps : List (Nat × Nat × Nat × List Nat) := []
  moved : Option Nat := none
  heard : List Nat := []
  path : List Nat := []
  countRx : List (List Nat) := [[], [], [], []]
  timerRx : List (List Nat) := [[], [], [], []]
  deriving DecidableEq, Repr

/-- What a fabric cycle brings the trigger engines (R248): channel activations, edge events and threshold activations by
unit with their stamps, and the comparators that held (engine times 4 plus comparator, end index). -/
structure TrigIn where
  acts : SMap Ev := []
  edges : SMap Nat := []
  dts : SMap Nat := []
  meas : SMap Nat := []
  deriving DecidableEq, Repr

/-- The trigger block (R248 to R270): its engines; what this cycle and the last brought; the levels of the trigger inputs
and the cycle of each one's last edge event; edge events held for their stamps (input, stamp); the histories of the
threshold units; and the remote events not delivered yet (producer, D, LATE, rx as in Ev). -/
structure Trig where
  eng : SMap TrigEng := []
  now : TrigIn := {}
  last : TrigIn := {}
  levels : Nat := 0
  edgeAt : SMap Nat := []
  held : List (Nat × Nat) := []
  hist : SMap (List Nat) := []
  remote : List (Nat × Nat × Bool × List Nat) := []
  deriving DecidableEq, Repr

/-- Idle time offered to calibration (R356): the sequencer whose port or input it is (R96, R313), its interval, the cycle
boundary from which the next step may start, whether an idle sequencer offered it, the index of an early end, and the cycle up to
which a step starts back to back with the last one (R357). -/
structure Slot where
  k : Nat
  lo : Nat
  hi : Nat
  next : Nat
  idle : Bool := false
  cut : Option Nat := none
  again : Nat := 0
  deriving DecidableEq, Repr

/-- A calibration step in flight (R357): class, instance, start and end, for a bench step the visits left (point, CONV and
EXC words), and the limit that its result is judged by (R361). -/
structure CalStep where
  cls : Nat
  inst : Nat
  start : Nat
  stop : Nat
  visits : List (Nat × Nat × Nat) := []
  limit : Nat := 0
  deriving DecidableEq, Repr

/-- The calibration engine (R351 to R368). Keys of coefficients are 1024 times the class plus the instance; coef adds
16384 times the set. force is what is in force, tLast the temperature of its last computation by location (converter
dies 0 to 7, 8 the bench); last the DeviceTime of the last accepted step; marks the instances marked by CAL_RUN; steps
the step in flight by location; sets changed since their commit, their SETSER, and the classes accepted near the point
of a PROVISIONAL set; the cycle of the last commit period; the transfers asked for (input, value, uncertainty) and the
ratios of RINT to the shunts at the last accepted DIVIDER step. -/
structure Cal where
  coef : SMap (List Rat) := []
  force : SMap (List Rat) := []
  tLast : SMap Nat := []
  last : SMap Nat := []
  marks : List Nat := []
  steps : SMap CalStep := []
  changed : List Nat := []
  ser : SMap Nat := []
  seen : SMap (List Nat) := []
  periodAt : Nat := 0
  refv : Nat := 0
  refvU : Nat := 0
  xfer : List (Nat × Nat × Nat) := []
  ratios : Option (Rat × Rat) := none
  deriving DecidableEq, Repr

/-- A visit of the bench (R325 to R333): its point, CONV and EXC words, whether calibration asked for it, t_exc (or
t_rev), whether the excitation is reversed, the settle end, the conversion's aperture, the valid conversions of the
phase, the two sums, whether a code was clamped, the next check of the monitor and whether the last one failed. -/
structure Visit where
  pt : Nat := 0
  conv : Nat := 0
  exc : Nat := 0
  cal : Bool := false
  tExc : Nat := 0
  neg : Bool := false
  settle : Nat := 0
  cs : Nat := 0
  ce : Nat := 0
  n : Nat := 0
  sp : Int := 0
  sn : Int := 0
  ovr : Bool := false
  check : Nat := 0
  failed : Bool := false
  deriving DecidableEq, Repr

/-- An entry that the bench has formed and not yet written (R342, R346): the index at which it is written, and its
fields; the temperature delivered to ledgers in mK, if the entry is valid for them. -/
structure BnEntry where
  at_ : Nat
  stamp : Nat
  value : Int
  exp : Int
  pt : Nat
  unit : Nat
  flags : Nat
  temp : Option Nat
  deriving DecidableEq, Repr

/-- Where the bench stands in a visit (R325); idle also between visits. -/
inductive BnPhase where
  | idle | brk | discharge | leads | make | warm | conv
  deriving DecidableEq, Repr

/-- The bench (R321 to R346): the phase and its end, the visit, the points of the pass still to visit, whether a pass is
under way and its start, the index from which the next visit or pass may begin, a start that waits, a held start, the
tick at which a cleared RUN ends the pass, whether the pass gap may take a calibration visit, the STAMP of the pass's
last entry, whether an entry was dropped since the last stored one, the entries so far, the periods tracked and the last
mains edge (bench ticks), whether tracking is lost, the excitation writes that land at the next tick (tick, point), the
latest CJ reading in K, the entries formed, and the ring. -/
structure Bench where
  phase : BnPhase := .idle
  stop : Nat := 0
  visit : Visit := {}
  points : List Nat := []
  inPass : Bool := false
  passStart : Nat := 0
  next : Nat := 0
  want : Option Nat := none
  held : Bool := false
  ending : Option Nat := none
  gapOpen : Bool := false
  lastStamp : Option Nat := none
  dropped : Bool := false
  seq : Nat := 0
  plcUse : Nat := 200000
  periods : List Nat := []
  lastEdge : Option Nat := none
  lost : Bool := false
  trackFrom : Nat := 0
  excAt : List (Nat × Nat) := []
  cj : Rat := 0
  formed : List BnEntry := []
  ring : SMap (List Byte) := []
  deriving DecidableEq, Repr

/-- The thermal block (R526 to R530): the reads in a row that failed, by sensor, the read cycles in a row at or above
105 °C, whether OVERTEMP's threshold was reached at the last cycle, and the bench temperature of R528. -/
structure Thermal where
  fails : SMap Nat := []
  hot : Nat := 0
  atTop : Bool := false
  benchT : Nat := 0
  deriving DecidableEq, Repr

/-- A DRAM request (R378, R389): its arrival number, whether it writes, its line, its requestor's code and the forme, input,
merge entry or command it belongs to, the data of a write, or of a read the word of 36 bytes that its command took (R381) with
the class it is decoded under, whether the line was written since, and for a scrub read whether its write-back is cancelled (R394);
old is the line and its errors before a write that has been stored. -/
structure DReq where
  seq : Nat
  write : Bool
  line : Nat
  req : Nat
  id : Nat
  data : List Byte := []
  cls : Nat := 0
  stale : Bool := false
  spoiled : Bool := false
  old : Option (List Byte × List (Nat × Nat)) := none
  deriving DecidableEq, Repr

/-- A pseudo-channel (R379 to R385): its mode, the rotation place of its last command, the open row of each bank, the
refresh debt, whether a refresh is forced, the cycle of the next t_REFI, the slot of its last scrub read taken in
leading, the cycle and slot that a scrub read takes from its queues (R393), the last request that took a column command, and the reads
whose data have not returned. -/
structure DChan where
  wr : Bool := false
  ptr : Nat := 63
  rows : SMap Nat := []
  debt : Nat := 0
  forced : Bool := false
  refAt : Nat := 1950
  lead : Option Nat := none
  skip : Option (Nat × Nat) := none
  last : Option DReq := none
  flight : List DReq := []
  deriving DecidableEq, Repr

/-- A merge entry (R382): its number, line, valid bytes, cycle of creation, and whether its read-modify-write runs. -/
structure MergeEnt where
  num : Nat
  line : Nat
  bytes : SMap Byte
  born : Nat
  reading : Bool := false
  deriving DecidableEq, Repr

/-- A command that waits for DRAM lines (MEM_READ, SEG_BIND): its number, its lines, those received by place, and for
SEG_BIND its forme, segment, home and library line. -/
structure HostOp where
  id : Nat
  ctx : Ctx
  opcode : Nat
  lines : List Nat
  got : SMap (List Byte) := []
  bind : Option (Nat × Nat × Nat × Nat) := none
  deriving DecidableEq, Repr

/-- A class rewrite (R376): the command that is to be answered, unless its routine was cut short, the first granule, their count, the
class, the next line to ask for, and the lines asked for and not rewritten yet. -/
structure ClassJob where
  ctx : Option Ctx
  first : Nat
  count : Nat
  cls : Nat
  fed : Nat
  left : List Nat := []
  deriving DecidableEq, Repr

/-- A MEM_WRITE whose pieces are not all queued or merged (R382, R399): its number, its command, and the byte address and data of the
pieces that have not entered. -/
structure HostWrite where
  id : Nat
  ctx : Ctx
  addr : Nat
  data : List Byte
  deriving DecidableEq, Repr

/-- The DRAM controller (R375 to R397): the arrival counter, the requests that wait in their islands and those queued, the
pseudo-channels, stored bit errors (line to byte number and bits), the merge buffer, the reads held behind a merge entry,
the commands that wait, the host writes under way, the class rewrite that runs, the command slots taken, the scrub ranges
asked for (first line, end) with the line to resume from, the cycle the scrub pass began, and the cycles of the last
CORR_DRAM and CORR_SRAM events. -/
structure MemCtl where
  seq : Nat := 0
  wait : List DReq := []
  q : List DReq := []
  chans : SMap DChan := []
  flips : SMap (List (Nat × Nat)) := []
  merge : List MergeEnt := []
  behind : List DReq := []
  host : List HostOp := []
  nextId : Nat := 0
  hostw : List HostWrite := []
  setclass : Option ClassJob := none
  slots : Nat := 0
  ranges : List (Nat × Nat) := []
  resume : Option Nat := none
  passFrom : Nat := 0
  corrD : Option Nat := none
  corrS : Option Nat := none
  deriving DecidableEq, Repr

/-- The device. -/
structure Device where
  /-- Where reset and start-up stand. -/
  phase : Phase := .running
  /-- Fabric cycles since the sample clock locked; SAMPLECOUNT is 32 times it (R33). -/
  cycle : Nat := 0
  /-- The model's own counter of free values drawn. -/
  free : Nat := 0
  /-- The registers, by address; what is not listed holds its reset value. -/
  regs : SMap Word := []
  /-- Bits of registers that the device wrote in this fabric cycle (R12, R24). -/
  hwNow : SMap Word := []
  /-- By address, what a register held before the first count that the device added to in this fabric cycle, and the amounts added
  since (R13). -/
  addNow : SMap (Word × Word) := []
  /-- Values registers held before a register write of this fabric cycle (R279, R290). -/
  former : SMap Word := []
  tb : TimeBase := {}
  ev : Router := {}
  seqs : SMap Seq := []
  /-- Program stores: instruction at 32768 times the store (0 to 63 formes, 64 to 71 input groups) plus address. -/
  prog : SMap Nat := []
  acts : List Act := []
  /-- The formes that a register write strobes in this cycle. -/
  struck : List Nat := []
  ports : SMap Port := []
  cars : SMap Carrier := []
  formes : SMap Forme := []
  segs : SMap Seg := []
  /-- Galley SRAM: byte at 2^20 times the forme plus offset. -/
  galley : List Host.Cell := []
  /-- DRAM as the commands address it, byte by byte; what is not listed reads 0, the fill of R396. -/
  dram : List Host.Cell := []
  /-- Calibrated full-scale powers in pW, by 16 times the port plus 4 times MODE plus SPAN (R161). -/
  pfs : SMap Nat := []
  leds : SMap Ledger := []
  sess : SMap Session := []
  eng : Engine := {}
  lanes : SMap Lane := []
  inputs : SMap Input := []
  /-- Kernel stores: tap at 32768 times the input plus address, I in the low half. -/
  kernels : SMap Word := []
  /-- The held words of each bus position, at most four, oldest first (R227). -/
  words : SMap (List DecWord) := []
  /-- The positions at which a word was placed in this cycle, with its state (R251). -/
  placed : List (Nat × Nat) := []
  rx : List RxWord := []
  rxNext : Nat := 1
  /-- Verdicts formed that used a late or a remote word and whose T_c is ahead (R240, R244): the sequencer, T_c, whether a word was
  late, and the remote words used. -/
  verdicts : List (Nat × Nat × Bool × List Nat) := []
  links : SMap Link := []
  slanes : SMap SLane := []
  sports : SMap SPort := []
  /-- What the lanes' blocks brought in this cycle (R405, R427 to R433): happenings that the next cycle begins with. -/
  inbox : List Instr := []
  /-- Start-ups so far: it names the BOOTNONCE in force (R480). -/
  boots : Nat := 0
  /-- Seals of the calibration sets 0 to 7 and the curves 32 to 63 (key 256 plus the curve): the 168 bytes of R505. -/
  seals : SMap (List Byte) := []
  /-- Colophons waiting for signing (R503). -/
  colq : List (List Byte) := []
  /-- The colophon ring: slot to colophon, and how many are not read. -/
  colring : SMap (List Byte) := []
  colFill : Nat := 0
  /-- Bulk packets sent per link port since it was last UP (R431). -/
  bulkSeq : SMap Nat := []
  offers : List Slot := []
  cal : Cal := {}
  bench : Bench := {}
  th : Thermal := {}
  mc : MemCtl := {}
  /-- The bit errors of SRAM words (R370, R374), by region, instance and word: byte number and bits. -/
  sramErrs : SMap (List (Nat × Nat)) := []
  /-- The DRAM repair entries of the fuse map (R397): kind, stack, channel, pseudo-channel, bank group, bank, row or lane. -/
  repairs : List (List Nat) := []
  /-- The plate store: images of the calibration sets 0 to 7 and the curves 32 to 63 (key 256 plus the curve). -/
  plate : SMap (List Byte) := []
  /-- Curve loads so far, the count that CURVESER takes (R339). -/
  curveLoads : Nat := 0
  trig : Trig := {}
  /-- The words latched by the last read of their low word (R45), by address. -/
  latch : SMap Word := []
  /-- The bytes that the last GET or STAT of the MGMT SPI shifted out (R472). -/
  spiOut : List Byte := []
  deriving DecidableEq, Repr

/-- The state of the model: the commands and happenings that wait, first in first out, and the device. -/
structure State where
  pending : List Instr := []
  dev : Device := {}
  deriving DecidableEq, Repr

/-- The device right after release of its command engine (R8, R519), with nothing waiting. -/
def State.reset : State := {}

end Sys2Proof.Machine
end

