-- ==== Sys2Proof/Machine/Ops.lean ====
section
/-! DEFINITION. The operations every block shares: registers and their fields, time, events and monitors, ownership,
and free values. -/

namespace Sys2Proof.Machine

/-! ### Registers -/

/-- The base address of instance i over the segments of a register kind. -/
def segBase (stride : Nat) : List (Nat × Nat) → Nat → Nat
  | [], _ => 0
  | (b, n) :: t, i => if i < n then b + stride * i else segBase stride t (i - n)

/-- The address of a register (R30). -/
def RegName.addr (r : RegName) (i : Nat := 0) (j : Nat := 0) (k : Nat := 0) : Nat :=
  let d := r.desc
  segBase d.stride d.segs i + d.off + j * d.dim2.2 + k * d.dim3.2

/-- A word made of the reset values of fields. -/
def resetWord : List FieldDesc → Word
  | [] => 0
  | f :: t => putField (resetWord t) f.hi f.lo f.reset

/-- The values of R297 that the registers of ledger DIE (16) hold after reset. -/
def dieReset : RegName → Option Nat
  | .budCfg => some (2 ^ 31 + 2 * 2 ^ 29)
  | .budCLo => some (120000000000000 % 2 ^ 32)
  | .budCHi => some (120000000000000 / 2 ^ 32)
  | .budPcoolLo => some (235000000000000 % 2 ^ 32)
  | .budPcoolHi => some (235000000000000 / 2 ^ 32)
  | .budPstatLo => some (124000000000000 % 2 ^ 32)
  | .budPstatHi => some (124000000000000 / 2 ^ 32)
  | .budTbase => some 303150
  | .budTlim => some 363150
  | .budLag => some 50000
  | .budTmo => some 1
  | _ => none

/-- The LIMIT of each item class after reset (R353). -/
def calLimitReset (k : Nat) : Nat := [64, 655, 33, 64, 1527, 20, 1000, 1000, 64, 20, 500, 20, 50].getD k 0

/-- The temperature of each calibration set after reset (R361). -/
def calTpointReset (k : Nat) : Nat := [313150, 328150, 343150, 358150].getD k 0

/-- The reset value of a register (R8): the Reset column of its fields, with the columns that depend on the
instance. -/
def regReset (r : RegName) (i j : Nat) : Word :=
  match r with
  | .opBind => BitVec.ofNat 32 (j * 256 + j)
  | .calLimit => BitVec.ofNat 32 (calLimitReset i)
  | .calTpoint => BitVec.ofNat 32 (calTpointReset j)
  | .mcVersion => Config.mcVersion
  | .mcSecver => Config.mcSecver
  | .mcMinsec => Config.mcMinsec
  | .mcPending => Config.mcPending
  | .revision => BitVec.ofNat 32 (2 ^ 24 + Config.revMinor.toNat * 2 ^ 16 + Config.revMetal.toNat)
  | r =>
    match dieReset r with
    | some v => if i = 16 then BitVec.ofNat 32 v else resetWord r.desc.fields
    | none => resetWord r.desc.fields

/-- The word a register holds. -/
def Device.reg (s : Device) (r : RegName) (i : Nat := 0) (j : Nat := 0) (k : Nat := 0) : Word :=
  sget (regReset r i j) s.regs (r.addr i j k)

/-- The state with a word in a register. -/
def Device.putReg (s : Device) (r : RegName) (v : Word) (i : Nat := 0) (j : Nat := 0) (k : Nat := 0) : Device :=
  { s with regs := sput s.regs (r.addr i j k) v }

/-- The value a register held at the start of this fabric cycle, where a register write has changed it since
(R279, R290). -/
def Device.regF (s : Device) (r : RegName) (i : Nat := 0) (j : Nat := 0) (k : Nat := 0) : Word :=
  (sfind s.former (r.addr i j k)).getD (s.reg r i j k)

/-- A field of a register. -/
def Device.fld (s : Device) (f : Fld) (i : Nat := 0) (j : Nat := 0) (k : Nat := 0) : Nat :=
  getField (s.reg f.reg i j k) f.hi f.lo

/-- A field as it stood at the start of this fabric cycle. -/
def Device.fldF (s : Device) (f : Fld) (i : Nat := 0) (j : Nat := 0) (k : Nat := 0) : Nat :=
  getField (s.regF f.reg i j k) f.hi f.lo

/-- A field as a Bool. -/
def Device.flag (s : Device) (f : Fld) (i : Nat := 0) (j : Nat := 0) (k : Nat := 0) : Bool :=
  s.fld f i j k != 0

/-- The device writes a field; its bits are marked as written by the device in this cycle (R12, R24). -/
def Device.setFld (s : Device) (f : Fld) (x : Nat) (i : Nat := 0) (j : Nat := 0) (k : Nat := 0) : Device :=
  let a := f.reg.addr i j k
  { s with
    regs := sput s.regs a (putField (s.reg f.reg i j k) f.hi f.lo x)
    hwNow := sput s.hwNow a (sget 0 s.hwNow a ||| maskOf f.hi f.lo) }

/-- The device sets bits of a field; only these are marked as set in this cycle (R12). -/
def Device.orFld (s : Device) (f : Fld) (mask : Nat) (i : Nat := 0) (j : Nat := 0) (k : Nat := 0) : Device :=
  let a := f.reg.addr i j k
  let m := putField 0 f.hi f.lo mask
  { s with regs := sput s.regs a (s.reg f.reg i j k ||| m), hwNow := sput s.hwNow a (sget 0 s.hwNow a ||| m) }

/-- The device sets a one-bit flag. -/
def Device.setFlag (s : Device) (f : Fld) (i : Nat := 0) (j : Nat := 0) (k : Nat := 0) : Device := s.orFld f 1 i j k

/-- The device adds n to a count, modulo its width; the amount is kept for a read-to-clear of this cycle (R13). -/
def Device.addFld (s : Device) (f : Fld) (n : Nat) (i : Nat := 0) (j : Nat := 0) (k : Nat := 0) : Device :=
  let a := f.reg.addr i j k
  let w := s.reg f.reg i j k
  let (b, p) := (sfind s.addNow a).getD (w, 0)
  { s with
    regs := sput s.regs a (putField w f.hi f.lo (getField w f.hi f.lo + n))
    addNow := sput s.addNow a (b, putField p f.hi f.lo (getField p f.hi f.lo + n)) }

/-- The device adds n to a count that stays at its largest value; a read-to-clear of this cycle keeps all of n (R13). -/
def Device.addSat (s : Device) (f : Fld) (n : Nat) (i : Nat := 0) (j : Nat := 0) (k : Nat := 0) : Device :=
  let a := f.reg.addr i j k
  let w := s.reg f.reg i j k
  let (b, p) := (sfind s.addNow a).getD (w, 0)
  let top := 2 ^ (f.hi + 1 - f.lo) - 1
  { s with
    regs := sput s.regs a (putField w f.hi f.lo (min top (getField w f.hi f.lo + n)))
    addNow := sput s.addNow a (b, putField p f.hi f.lo (min top (getField p f.hi f.lo + n))) }

/-- The device takes a count: it is 0 from here on, and nothing of it is left for a read of this cycle. -/
def Device.takeCount (s : Device) (f : Fld) (i : Nat := 0) (j : Nat := 0) (k : Nat := 0) : Device :=
  let a := f.reg.addr i j k
  { s with
    regs := sput s.regs a (putField (s.reg f.reg i j k) f.hi f.lo 0)
    addNow := match sfind s.addNow a with
      | some (b, p) => sput s.addNow a (putField b f.hi f.lo 0, putField p f.hi f.lo 0)
      | none => s.addNow }

/-- The device writes a register that the host may write too: its word stands over a register write of this cycle (R24). -/
def Device.islandReg (s : Device) (r : RegName) (v : Word) (i : Nat := 0) (j : Nat := 0) (k : Nat := 0) : Device :=
  { s.putReg r v i j k with hwNow := sput s.hwNow (r.addr i j k) (BitVec.allOnes 32) }

/-- A 64-bit value held in two registers. -/
def Device.reg64 (s : Device) (lo hi : RegName) (i : Nat := 0) (j : Nat := 0) : Nat :=
  (s.reg lo i j).toNat + 2 ^ 32 * (s.reg hi i j).toNat

/-- The device writes a 64-bit value into two registers. -/
def Device.put64 (s : Device) (lo hi : RegName) (v : Nat) (i : Nat := 0) (j : Nat := 0) : Device :=
  (s.putReg lo (BitVec.ofNat 32 v) i j).putReg hi (BitVec.ofNat 32 (v / 2 ^ 32)) i j

/-- The instance (i, j, k) of a register kind that lies at an address, over its segments. -/
def matchSegs (d : RegDesc) (a : Nat) : List (Nat × Nat) → Nat → Option (Nat × Nat × Nat)
  | [], _ => none
  | (b, n) :: t, i0 =>
    let x := a - (b + d.off)
    let i := if d.stride = 0 then 0 else x / d.stride
    let r := x - i * d.stride
    let j := if d.dim2.2 = 0 then 0 else r / d.dim2.2
    let r2 := r - j * d.dim2.2
    let k := if d.dim3.2 = 0 then 0 else r2 / d.dim3.2
    if b + d.off ≤ a ∧ i < n ∧ j < d.dim2.1 ∧ k < d.dim3.1 ∧ r2 = k * d.dim3.2 then some (i0 + i, j, k)
    else matchSegs d a t (i0 + n)

/-- The first register of a list that lies at an address. -/
def findIn (a : Nat) : List RegName → Option (RegName × Nat × Nat × Nat)
  | [] => none
  | r :: t =>
    match matchSegs r.desc a r.desc.segs 0 with
    | some (i, j, k) => some (r, i, j, k)
    | none => findIn a t

/-- The registers of the block whose window holds an address (R30). -/
def blockAt (a : Nat) : List RegName :=
  let b := a / 0x10000
  if b = 0 then regBlock0 else if b = 1 then regBlock1 else if b = 2 then regBlock2 else if b = 3 then regBlock3
  else if b = 4 then regBlock4 else if b = 5 then regBlock5 else if b = 6 then regBlock6 else if b = 7 then regBlock7
  else if b = 8 then regBlock8 else if b = 9 then regBlock9
  else if b < 0x10 then [] else if b < 0x30 then regBlock10 else if b < 0x31 then regBlock11
  else if b < 0x40 then [] else if b < 0x50 then regBlock12 else if b < 0x60 then regBlock13
  else if b < 0x70 then regBlock14 else if b < 0x71 then regBlock15 else []

/-- The register at an address; none where R31 refuses the access. -/
def findReg (a : Nat) : Option (RegName × Nat × Nat × Nat) :=
  if a % 4 = 0 then findIn a (blockAt a) else none

/-! ### Time (R33 to R42, R75) -/

/-- SAMPLECOUNT (R33). -/
def Device.sampleCount (s : Device) : Nat := 32 * s.cycle

/-- The system sample index of the first sample of the current word (R36). -/
def Device.ssi (s : Device) : Nat := ((32 * ((s.cycle : Int) + s.tb.W)) % (2 ^ 64 : Int)).toNat

/-- The issue index u of the current fabric cycle (R75). -/
def Device.issueIndex (s : Device) : Nat := s.ssi + 672

/-- The first sample that an unscheduled change can reach at an output land (R77). -/
def Device.reach (s : Device) : Nat := s.issueIndex + 64

/-- RATE_ADJ in force (R41). -/
def Device.rateAdj (s : Device) : Int := toSigned 32 (s.reg .tbRateAdj).toNat

/-- OFFSET plus the scaled sample count, the DeviceTime of R41. -/
def Device.deviceTime (s : Device) : Nat :=
  (s.tb.offset + (s.sampleCount * ((2 ^ 48 : Int) + s.rateAdj).toNat * 2 ^ 16) / 16000000000) % 2 ^ 128

/-- The fabric cycle that holds a system index, as a local cycle number. -/
def Device.cycleOf (s : Device) (x : Nat) : Nat := (((x / 32 : Nat) : Int) - s.tb.W).toNat

/-! ### Free values -/

/-- One value that the spec leaves open, and the state that has drawn it. -/
def Device.draw (s : Device) : Nat × Device := (Config.free s.free, { s with free := s.free + 1 })

/-! ### Records by instance -/

/-- The sequencer k: CSk for k below 512, else RS(k - 512) (R466). -/
def Device.seq (s : Device) (k : Nat) : Seq := sget {} s.seqs k
def Device.putSeq (s : Device) (k : Nat) (q : Seq) : Device := { s with seqs := sput s.seqs k q }
def Device.updSeq (s : Device) (k : Nat) (f : Seq → Seq) : Device := s.putSeq k (f (s.seq k))
def Device.port (s : Device) (p : Nat) : Port := sget {} s.ports p
def Device.putPort (s : Device) (p : Nat) (q : Port) : Device := { s with ports := sput s.ports p q }
def Device.updPort (s : Device) (p : Nat) (f : Port → Port) : Device := s.putPort p (f (s.port p))
def Device.forme (s : Device) (f : Nat) : Forme := sget {} s.formes f
def Device.putForme (s : Device) (f : Nat) (q : Forme) : Device := { s with formes := sput s.formes f q }
def Device.updForme (s : Device) (f : Nat) (g : Forme → Forme) : Device := s.putForme f (g (s.forme f))
def Device.seg (s : Device) (f n : Nat) : Seg := sget {} s.segs (4096 * f + n)
def Device.putSeg (s : Device) (f n : Nat) (e : Seg) : Device := { s with segs := sput s.segs (4096 * f + n) e }
def Device.carrier (s : Device) (f c : Nat) : Carrier := sget {} s.cars (32 * f + c)
def Device.putCarrier (s : Device) (f c : Nat) (e : Carrier) : Device := { s with cars := sput s.cars (32 * f + c) e }
def Device.session (s : Device) (n : Nat) : Session := sget {} s.sess n
def Device.putSession (s : Device) (n : Nat) (x : Session) : Device := { s with sess := sput s.sess n x }
def Device.evc (s : Device) (n : Nat) : Evc := sget {} s.ev.evc n
def Device.putEvc (s : Device) (n : Nat) (x : Evc) : Device := { s with ev := { s.ev with evc := sput s.ev.evc n x } }

/-- The ledger a scheduler holds after reset (R297). -/
def ledgerReset (j : Nat) : Ledger :=
  if j = 16 then
    { c := 120000000000000, pcool := 235000000000000, pstat := 124000000000000, tbase := 303150, tlim := 363150,
      lag := 50000, tmo := 1 }
  else {}

def Device.led (s : Device) (j : Nat) : Ledger := sget (ledgerReset j) s.leds j
def Device.putLed (s : Device) (j : Nat) (l : Ledger) : Device := { s with leds := sput s.leds j l }

/-! ### Events and monitors (R271 to R275, R287, R288) -/

/-- A producer code (R273). -/
def evCode (cls inst evt : Nat) : Nat := cls * 8192 + inst * 16 + evt

/-- Add n with a stamp to a counter, gated as its configuration at the start of the cycle says (R288). A snapshot
made earlier in the cycle takes the addition in (R290). -/
def Device.evcAdd (s : Device) (i n stamp : Nat) : Device :=
  let gated := s.fldF F.evcCtrlGated i != 0
  let ws := (s.regF .evcWsLo i).toNat + 2 ^ 32 * (s.regF .evcWsHi i).toNat
  let we := (s.regF .evcWeLo i).toNat + 2 ^ 32 * (s.regF .evcWeHi i).toNat
  if gated && !(decide (ws ≤ stamp) && decide (stamp < we)) then s
  else
    let c := s.evc i
    s.putEvc i { c with
      add := c.add + n
      snap := if c.snapNow.isSome then (c.base + c.add + n) % 2 ^ 48 else c.snap }

/-- Count n of a source in every counter that is enabled for it (R287, R288). -/
def Device.monitorAt (s : Device) (src n stamp : Nat) : Device :=
  forAllDo (List.range 64) (fun i s =>
    if s.fldF F.evcCtrlEn i != 0 && s.fldF F.evcCtrlSrc i == src && !(s.ev.cut.contains (RegName.addr .evcCtrl i))
    then s.evcAdd i n stamp else s) s

/-- Count n of a monitor; the count carries the stamp of the cycle's first sample (R288). -/
def Device.monitor (s : Device) (src n : Nat) : Device := s.monitorAt src n s.ssi

/-- The monitor that counts a producer's events, if one does (R287). -/
def monitorOf (code : Nat) : Option Nat :=
  let cls := code / 8192
  let inst := code / 16 % 512
  let evt := code % 16
  if cls = 5 ∧ evt = 2 then some 259
  else if cls = 4 ∧ evt = 0 then some 260
  else if (cls = 2 ∨ cls = 3) ∧ evt = 7 then some 270
  else if (cls = 2 ∨ cls = 3) ∧ evt = 8 then some 271
  else if cls = 0 ∧ inst = 2 ∧ evt = 0 then some 268
  else if cls = 7 ∧ inst = 64 then some 268
  else none

/-- A producer presents an event in the current fabric cycle (R272). -/
def Device.presentRaw (s : Device) (code stamp : Nat) (late : Bool := false) (rx : List Nat := []) : Device :=
  let s1 := { s with ev := { s.ev with now := s.ev.now ++ [⟨code, stamp, late, rx⟩] } }
  match monitorOf code with
  | some m => s1.monitor m 1
  | none => s1

/-- A producer's event: presented now, or in the cycle that holds its stamp where that lies ahead (R272). -/
def Device.present (s : Device) (code stamp : Nat) (late : Bool := false) (rx : List Nat := []) : Device :=
  if s.ssi + 32 ≤ stamp then { s with ev := { s.ev with later := s.ev.later ++ [⟨code, stamp, late, rx⟩] } }
  else s.presentRaw code stamp late rx

/-- Present an event stamped at the first sample of the current cycle. -/
def Device.presentNow (s : Device) (code : Nat) : Device := s.present code s.ssi

/-! ### Ownership (R496 to R498) -/

/-- FIRMWARE as an owner. -/
def firmware : Nat := 15

/-- Write access of session t to a resource (R497). -/
def mayWrite (owner : Nat) (isSealed : Bool) (t : Nat) : Bool :=
  owner == t || (owner == firmware && !isSealed)

/-- Read and select access of session t to a resource (R497). -/
def mayRead (owner : Nat) (isSealed : Bool) (t : Nat) : Bool :=
  owner == t || owner == firmware || !isSealed

/-- The resource is SEALED to a session other than t. -/
def sealedAway (owner : Nat) (isSealed : Bool) (t : Nat) : Bool :=
  isSealed && owner != firmware && owner != t

def Device.seqOwner (s : Device) (k : Nat) : Nat := s.fld F.secOwnOwner 0 k
def Device.seqSealed (s : Device) (k : Nat) : Bool := s.flag F.secOwnSealed 0 k
def Device.seqWritable (s : Device) (k t : Nat) : Bool := mayWrite (s.seqOwner k) (s.seqSealed k) t
def Device.seqReadable (s : Device) (k t : Nat) : Bool := mayRead (s.seqOwner k) (s.seqSealed k) t
def Device.seqAway (s : Device) (k t : Nat) : Bool := sealedAway (s.seqOwner k) (s.seqSealed k) t
def Device.ecAway (s : Device) (n t : Nat) : Bool :=
  sealedAway (s.fld F.evEcOwnOwner n) (s.flag F.evEcOwnSealed n) t
def Device.ecWritable (s : Device) (n t : Nat) : Bool :=
  mayWrite (s.fld F.evEcOwnOwner n) (s.flag F.evEcOwnSealed n) t
def Device.ledWritable (s : Device) (j t : Nat) : Bool :=
  mayWrite (s.fld F.budOwnOwner j) (s.flag F.budOwnSealed j) t
def Device.ledAway (s : Device) (j t : Nat) : Bool :=
  sealedAway (s.fld F.budOwnOwner j) (s.flag F.budOwnSealed j) t

/-- A forme-level item may be written by t while no port of the forme is SEALED to another session (R498). -/
def Device.formeWritable (s : Device) (f t : Nat) : Bool :=
  (List.range 8).all fun m => !(s.seqAway (8 * f + m) t)

/-- The same test for an input group (R498). -/
def Device.groupWritable (s : Device) (g t : Nat) : Bool :=
  (List.range 8).all fun m => !(s.seqAway (512 + 8 * g + m) t)

/-! ### Statuses (R456) -/

def stOk : Nat := 0x0000
def stDup : Nat := 0x0001
def stResumed : Nat := 0x0002
def stBadOpcode : Nat := 0x0010
def stBadLength : Nat := 0x0011
def stBadArg : Nat := 0x0012
def stNotOwner : Nat := 0x0020
def stAuthFail : Nat := 0x0021
def stStaleSeq : Nat := 0x0030
def stBusy : Nat := 0x0040
def stTimeout : Nat := 0x0041
def stThermal : Nat := 0x0050
def stFrozen : Nat := 0x0060
def stNotResident : Nat := 0x0070
def stInfeasible : Nat := 0x0080
def stLate : Nat := 0x0090

/-- What a command's routine answers: the state it leaves, its status, DETAIL, reply data, the index at which it took
effect, the steps it committed, and whether its reply comes later, when the DRAM lines it reads have returned. -/
structure CmdOut where
  st : Device
  status : Nat := 0
  detail : Nat := 0
  data : List Byte := []
  at_ : Nat
  steps : Nat := 1
  later : Bool := false

/-- A refusal: the state unchanged. -/
def refuse (s : Device) (status : Nat) (detail : Nat := 0) : CmdOut :=
  { st := s, status := status, detail := detail, at_ := s.ssi, steps := 0 }

/-- A completed command. -/
def done (s : Device) (data : List Byte := []) (detail : Nat := 0) : CmdOut :=
  { st := s, status := stOk, detail := detail, data := data, at_ := s.ssi }

end Sys2Proof.Machine
end

