-- ==== Sys2Proof/Machine/CalSlot.lean ====
section
/-! DEFINITION. Idle time offered to calibration (R96, R313, R356 to R358): making a slot, the state of a port inside
one, and its early end. -/

namespace Sys2Proof.Machine

/-- A calibration event (R369). -/
def calEvent (n : Nat) : Nat := evCode 0 5 n

/-- The location whose receiver calibrates sequencer k's port or input (R352). -/
def dieOf (k : Nat) : Nat := if k < 512 then k / 64 else (k - 512) / 8

/-- The step class and instance belong to sequencer k's port or input. -/
def CalStep.forSeq (c : CalStep) (k : Nat) : Bool :=
  if k < 512 then decide (c.cls < 5) && c.inst == k else decide (6 ≤ c.cls) && decide (c.cls ≤ 8) && c.inst + 512 == k

/-- Offer [lo, hi) of sequencer k (R96, R313): steps start at the first cycle boundary of its used part (R357). -/
def offerSlot (k lo hi : Nat) (idle : Bool) (s : Device) : Device :=
  { s with offers := s.offers ++ [{ k := k, lo := lo, hi := hi, next := 32 * ceilDiv (lo + 1024) 32, idle := idle }] }

/-- Offer [lo, hi) of sequencer k to calibration when it holds 32,000 samples (R96, R313). -/
def offerIdle (k lo hi : Nat) (s : Device) : Device := if lo + 32000 ≤ hi then offerSlot k lo hi false s else s

/-- Port or input of sequencer k is held for calibration at n (R168, R357). -/
def Device.inSlot (s : Device) (k n : Nat) : Bool :=
  s.offers.any fun o => o.k == k && decide (o.lo ≤ n) && decide (n < o.hi)

/-- Sample n lies in the switch-back after an early end (R358). -/
def Device.inSwitchBack (s : Device) (k n : Nat) : Bool :=
  s.offers.any fun o => o.k == k && (match o.cut with | some x => decide (x ≤ n) && decide (n < o.hi) | none => false)

/-- Input samples with zero where a sample falls in a switch-back (R358). -/
def zeroAt (cut : List Bool) (xs : List Int) : List Int :=
  if cut.any id then (List.range cut.length).map fun j => if cut.getD j false then 0 else xs.getD j 0 else xs

/-- The slot ends early at x: x lies in the part that the engine uses, or the slot came from an idle sequencer
(R358). -/
def Slot.stopsAt (o : Slot) (k x : Nat) : Bool :=
  o.k == k && o.cut.isNone && decide (o.lo ≤ x)
    && (if o.idle then decide (x < o.hi) else decide (o.lo + 1024 ≤ x) && decide (x + 1024 < o.hi))

/-- Abandon the step in flight on sequencer k's port or input, unless it ends by x (R358). -/
def abandonStep (k x : Nat) (s : Device) : Device :=
  match sfind s.cal.steps (dieOf k) with
  | some c => if c.forSeq k && decide (x < c.stop) then { s with cal := { s.cal with steps := sdel s.cal.steps (dieOf k) } } else s
  | none => s

/-- An ending event at x on sequencer k's port or input (R358). -/
def endSlots (k x : Nat) (s : Device) : Device :=
  if s.offers.any (fun o => o.stopsAt k x) then
    let cutOne (o : Slot) : Slot :=
      if o.stopsAt k x then { o with hi := x + 1024, next := x + 1024, cut := some x } else o
    ((abandonStep k x { s with offers := s.offers.map cutOne }).setFlag F.calStatusAbandon).presentNow (calEvent 2)
  else s

/-- The slots that the withdrawn time of sequencer k had offered go at x: one that lies ahead is never offered (R356), and one
whose used part has not begun is switched back. -/
def withdrawSlots (k x : Nat) (s : Device) : Device :=
  let mine (o : Slot) : Bool := o.k == k && !o.idle && o.cut.isNone
  { s with offers := (s.offers.filter fun o => !(mine o && decide (x < o.lo))).map fun o =>
      if mine o && decide (x < o.lo + 1024) then { o with hi := min o.hi (x + 1024), next := o.hi } else o }

/-- STOP, FAULT or a jump at x: the slots of sequencer k end (R358), and those of the time withdrawn go (R356). -/
def leaveSlots (k x : Nat) (s : Device) : Device := withdrawSlots k x (endSlots k x s)

/-- A run start, or a write of the port's or input's registers, during a slot of an idle sequencer (R358). -/
def endIdleSlot (k : Nat) (s : Device) : Device :=
  if s.offers.any (fun o => o.k == k && o.idle) then endSlots k s.ssi s else s

end Sys2Proof.Machine
end

