-- ==== Sys2Proof/Machine/Codes.lean ====
section
/-! DEFINITION. The three codes of memory words (R370 to R373): 32 data bytes and 4 check bytes, as lists of numbers
below 256. -/

namespace Sys2Proof.Machine

/-! ### STRONG: Reed–Solomon (36,32) over GF(2^8) (R371) -/

/-- x times α in the field. -/
def gfTwice (a : Nat) : Nat := if 128 ≤ a then (2 * a) ^^^ 0x11D else 2 * a

/-- Product in the field, over the low n bits of b. -/
def gfMulBits : Nat → Nat → Nat → Nat
  | 0, _, _ => 0
  | n + 1, a, b => (if b % 2 = 1 then a else 0) ^^^ gfMulBits n (gfTwice a) (b / 2)

def gfMul (a b : Nat) : Nat := gfMulBits 8 a b

/-- α to the n. -/
def gfPow : Nat → Nat
  | 0 => 1
  | n + 1 => gfTwice (gfPow n)

/-- A polynomial, highest coefficient first, at a point. -/
def gfEval (p : List Nat) (x : Nat) : Nat := p.foldl (fun a c => gfMul a x ^^^ c) 0

/-- The generator (x - α^0)(x - α^1)(x - α^2)(x - α^3), without its leading 1, highest coefficient first. -/
def gfGen : List Nat :=
  ((List.range 4).foldl (fun (p : List Nat) j =>
    let up := p ++ [0]
    let lo := 0 :: p.map (gfMul (gfPow j))
    up.zipWith (· ^^^ ·) lo) [1]).drop 1

/-- One step of the division: the remainder shifts and takes in a data byte. -/
def rsStep (r : List Nat) (d : Nat) : List Nat :=
  let f := d ^^^ r.headD 0
  (r.drop 1 ++ [0]).zipWith (fun a g => a ^^^ gfMul f g) gfGen

/-- The check bytes r_0 to r_3. -/
def rsCheck (d : List Nat) : List Nat := (d.foldl rsStep [0, 0, 0, 0]).reverse

/-- The coefficients of a word, highest first: the data bytes, then r_3 to r_0. -/
def rsPoly (w : List Nat) : List Nat := w.take 32 ++ (w.drop 32).reverse

/-- The syndromes S_0 to S_3. -/
def rsSyn (w : List Nat) : List Nat := (List.range 4).map fun j => gfEval (rsPoly w) (gfPow j)

/-- What a decoder answers: the data bytes, whether it corrected, whether the word is beyond it, and the syndrome as
MEM_FRZ_SYND lays it out. -/
structure Decoded where
  data : List Nat
  fixed : Bool
  bad : Bool
  synd : Nat
  deriving DecidableEq, Repr

/-- Bytes 0 to 3 of a syndrome word. -/
def word4 (l : List Nat) : Nat := l.getD 0 0 + 256 * l.getD 1 0 + 65536 * l.getD 2 0 + 16777216 * l.getD 3 0

/-- The power of x that one symbol error with these syndromes sits at. -/
def rsPlace (s : List Nat) : Option Nat :=
  let e := s.getD 0 0
  if e = 0 then none
  else (List.range 36).find? fun p =>
    s.getD 1 0 == gfMul e (gfPow p) && s.getD 2 0 == gfMul e (gfPow (2 * p)) && s.getD 3 0 == gfMul e (gfPow (3 * p))

def rsDecode (w : List Nat) : Decoded :=
  let s := rsSyn w
  if s.all (· == 0) then ⟨w.take 32, false, false, 0⟩
  else
    match rsPlace s with
    | some p => ⟨(w.take 32).zipIdx.map fun x => if x.2 + p = 35 then x.1 ^^^ s.getD 0 0 else x.1, true, false, word4 s⟩
    | none => ⟨w.take 32, false, true, word4 s⟩

/-! ### LIGHT: four extended Hamming (72,64) codes (R372) -/

/-- The positions of the data bits: 1 to 71 without the powers of two. -/
def hamPlaces : List Nat := (List.range 72).filter fun i => i != 0 && i != 1 && i != 2 && i != 4 && i != 8 && i != 16 && i != 32 && i != 64

/-- The XOR of the positions of set bits of a 64-bit value: c_0 to c_6. -/
def hamCheck (d : Nat) : Nat := (hamPlaces.zipIdx.filter fun x => bitOf d x.2).foldl (fun a x => a ^^^ x.1) 0

/-- The number of set bits among the low n. -/
def ones (n v : Nat) : Nat := (bitsSet n v).length

/-- The check byte of a part. -/
def hamByte (d : Nat) : Nat := hamCheck d + 128 * ((ones 64 d + ones 7 (hamCheck d)) % 2)

/-- The eight bytes of a part as a number. -/
def partNat (l : List Nat) : Nat := l.foldr (fun b a => b + 256 * a) 0

def partBytes (d : Nat) : List Nat := (List.range 8).map fun i => d / 256 ^ i % 256

/-- Decode a part: data, corrected, uncorrectable, syndrome. -/
def hamDecode (d c : Nat) : Nat × Bool × Bool × Nat :=
  let s := hamCheck d ^^^ (c % 128)
  let p := (ones 64 d + ones 8 c) % 2
  let syn := s + 128 * p
  if syn = 0 then (d, false, false, 0)
  else if p = 0 then (d, false, true, syn)
  else
    match hamPlaces.zipIdx.find? fun x => x.1 == s with
    | some (_, b) => (d ^^^ 2 ^ b, true, false, syn)
    | none => (d, !(decide (71 < s)), decide (71 < s), syn)

/-! ### The word of a class (R370, R373) -/

def byteNats (l : List Byte) : List Nat := l.map BitVec.toNat
def natBytes (l : List Nat) : List Byte := l.map (BitVec.ofNat 8)

/-- Data byte numbers 8k to 8k + 7. -/
def partOf (d : List Nat) (k : Nat) : List Nat := (d.drop (8 * k)).take 8

/-- BARE check byte k: the even parity of each of its data bytes. -/
def bareByte (l : List Nat) : Nat := ((l.zipIdx.map fun x => ones 8 x.1 % 2 * 2 ^ x.2)).sum

/-- The check bytes of 32 data bytes under a class. -/
def checkBytes (cls : Nat) (d : List Nat) : List Nat :=
  if cls = 0 then rsCheck d
  else if cls = 1 then (List.range 4).map fun k => hamByte (partNat (partOf d k))
  else (List.range 4).map fun k => bareByte (partOf d k)

/-- A data line with its check bytes: 36 numbers. -/
def encodeLine (cls : Nat) (d : List Nat) : List Nat := d ++ checkBytes cls d

/-- Decode 36 numbers under a class; a BARE parity error answers the data as read, bad. -/
def decodeLine (cls : Nat) (w : List Nat) : Decoded :=
  if cls = 0 then rsDecode w
  else if cls = 1 then
    let ps := (List.range 4).map fun k => hamDecode (partNat (partOf w k)) (w.getD (32 + k) 0)
    ⟨ps.flatMap fun x => partBytes x.1, ps.any fun x => x.2.1, ps.any fun x => x.2.2.1, word4 (ps.map fun x => x.2.2.2)⟩
  else
    let e := (List.range 4).map fun k => bareByte (partOf w k) ^^^ w.getD (32 + k) 0
    ⟨w.take 32, false, e.any (· != 0), word4 e⟩

/-- A word with errors: byte number and the bits that differ. -/
def withErrors (w : List Nat) (errs : List (Nat × Nat)) : List Nat :=
  errs.foldl (fun w e => listSet w e.1 (w.getD e.1 0 ^^^ (e.2 % 256))) w

end Sys2Proof.Machine
end

