-- ==== Sys2Proof/Machine/Mem.lean ====
section
/-! DEFINITION. Byte memories as lists of cells in canonical form: addresses strictly rising, and no cell that holds
0, which every byte that is not listed reads as (the fill of R396). -/

namespace Sys2Proof.Machine

/-- The byte at an address. -/
def cellGet : List Host.Cell → Nat → Byte
  | [], _ => 0
  | (a, v) :: t, k => if a = k then v else cellGet t k

/-- The memory with a byte at an address. -/
def cellPut : List Host.Cell → Nat → Byte → List Host.Cell
  | [], k, v => if v = 0 then [] else [(k, v)]
  | (a, w) :: t, k, v =>
    if k < a then (if v = 0 then (a, w) :: t else (k, v) :: (a, w) :: t)
    else if k = a then (if v = 0 then t else (k, v) :: t)
    else (a, w) :: cellPut t k v

/-- Addresses strictly rising from lo on, and no zero byte listed. -/
def cellsFrom : Nat → List Host.Cell → Bool
  | _, [] => true
  | lo, (a, v) :: t => decide (lo ≤ a) && v != 0 && cellsFrom (a + 1) t

/-- The canonical form of a memory. -/
def Memory.wf (m : List Host.Cell) : Bool := cellsFrom 0 m

/-- Write bytes from an address on. -/
def cellPuts (m : List Host.Cell) (a : Nat) : List Byte → List Host.Cell
  | [] => m
  | b :: t => cellPuts (cellPut m a b) (a + 1) t

/-- Read n bytes from an address on. -/
def cellGets (m : List Host.Cell) (a : Nat) : Nat → List Byte
  | 0 => []
  | n + 1 => cellGet m a :: cellGets m (a + 1) n

/-- A little-endian number of n bytes at an address (R6). -/
def cellNat (m : List Host.Cell) (a n : Nat) : Nat := leNat (cellGets m a n)

/-- DRAM lines: 48 GiB of 32-byte lines (R26, R370). -/
def dramLines : Nat := 1610612736

end Sys2Proof.Machine
end

