-- ==== Sys2Proof/Machine/Dram.lean ====
section
/-! DEFINITION. The DRAM controller's queues and command slots (R375 to R385): where a line lies, entering a request, the
merge buffer's entries, and the choice of one command per pseudo-channel. -/

namespace Sys2Proof.Machine

/-- A memory event (R401). -/
def memEvent (n : Nat) : Nat := evCode 0 6 n

/-! ### Lines and granules (R375, R377) -/

/-- The pseudo-channel of a line: stack in bit 0, channel in [4:1], pseudo-channel of the channel in bit 5. -/
def dPc (line : Nat) : Nat := line % 64

/-- The bank of a line by its rotation place: bank group i mod 16, bank ⌊i / 16⌋ (R379). -/
def dBank (line : Nat) : Nat := bitsOf line 14 11 + 16 * bitsOf line 16 15

def dRow (line : Nat) : Nat := line / 2 ^ 17

/-- The class of granule g. -/
def Device.granClass (s : Device) (g : Nat) : Nat := bitsOf (s.reg .memGran 0 (g / 16)).toNat (2 * (g % 16) + 1) (2 * (g % 16))

/-- The first line past the granules of a class rewrite. -/
def ClassJob.stop (j : ClassJob) : Nat := 2 ^ 25 * (j.first + j.count)

/-- A class rewrite has rewritten a line (R376). -/
def ClassJob.holds (j : ClassJob) (line : Nat) : Bool :=
  decide (2 ^ 25 * j.first ≤ line) && decide (line < j.fed) && !(j.left.contains line)

/-- The class of a line: that of its granule, or the new one once a class rewrite has rewritten it (R375, R376). -/
def Device.lineClass (s : Device) (line : Nat) : Nat :=
  match s.mc.setclass with
  | some j => if j.holds line then j.cls else s.granClass (line / 2 ^ 25)
  | none => s.granClass (line / 2 ^ 25)

/-- A class rewrite runs on a granule that lines [a, a + n) touch (R376). -/
def Device.rewriting (s : Device) (a n : Nat) : Bool :=
  match s.mc.setclass with
  | some j => decide (a < j.stop) && decide (2 ^ 25 * j.first < a + n)
  | none => false

/-- A line as it is stored, with its check bytes and its errors. -/
def Device.storedWord (s : Device) (line : Nat) : List Nat :=
  withErrors (encodeLine (s.lineClass line) (byteNats (cellGets s.dram (32 * line) 32))) (sget [] s.mc.flips line)

def Device.updMc (s : Device) (f : MemCtl → MemCtl) : Device := { s with mc := f s.mc }
def Device.chan (s : Device) (p : Nat) : DChan := sget {} s.mc.chans p
def Device.putChan (s : Device) (p : Nat) (c : DChan) : Device := s.updMc fun m => { m with chans := sput m.chans p c }

/-! ### Requests (R378, R382, R383, R394) -/

/-- Two requests share a queue. -/
def DReq.sameQueue (a b : DReq) : Bool := dPc a.line == dPc b.line && dBank a.line == dBank b.line && a.write == b.write

/-- Waiting requests in order, moved to queues with fewer than eight; a requestor whose queue is full waits with all that
it has behind (R378). -/
def admitFrom : List DReq → List DReq → List DReq → List (Nat × Nat) → List DReq × List DReq
  | [], q, kept, _ => (q, kept)
  | r :: t, q, kept, stuck =>
    if stuck.contains (r.req, r.id) then admitFrom t q (kept ++ [r]) stuck
    else if (q.filter r.sameQueue).length < 8 then admitFrom t (q ++ [r]) kept stuck
    else admitFrom t q (kept ++ [r]) ((r.req, r.id) :: stuck)

def admitReqs (s : Device) : Device :=
  if s.flag F.memStatusFrozen then s
  else
    let (q, w) := admitFrom s.mc.wait s.mc.q [] []
    s.updMc fun m => { m with q := q, wait := w }

/-- Enter a request. -/
def addReq (r : DReq) (s : Device) : Device :=
  admitReqs (s.updMc fun m => { m with seq := m.seq + 1, wait := m.wait ++ [{ r with seq := m.seq }] })

/-- A write of a line, or its merge entry, cancels a scrub's write-back, queued or to come (R394). -/
def spoilScrub (line : Nat) (s0 : Device) : Device :=
  let keep (r : DReq) : Bool := !(r.write && r.req == 4 && r.line == line)
  let s := s0.updMc fun m => { m with wait := m.wait.filter keep, q := m.q.filter keep }
  let p := dPc line
  let c := s.chan p
  if c.flight.any fun r => r.req == 4 && r.line == line then
    s.putChan p { c with flight := c.flight.map fun r => if r.req == 4 && r.line == line then { r with spoiled := true } else r }
  else s

/-- Write a whole line for a requestor. A merge entry of the line holds older bytes only: it goes, or, where its read is under way,
takes the new bytes (R382). -/
def dramWrite (req id line : Nat) (data : List Byte) (s : Device) : Device :=
  let d := sliceB data 0 32
  let newer (e : MergeEnt) : MergeEnt := if e.line = line then { e with bytes := d.zipIdx.map fun x => (x.2, x.1) } else e
  addReq { seq := 0, write := true, line := line, req := req, id := id, data := d }
    (spoilScrub line (s.updMc fun m => { m with merge := (m.merge.filter fun e => e.line != line || e.reading).map newer }))

/-- Start the read-modify-write of a merge entry (R382). -/
def startRmw (e : MergeEnt) (s : Device) : Device :=
  if e.reading then s
  else
    addReq { seq := 0, write := false, line := e.line, req := 5, id := e.num }
      (s.updMc fun m => { m with merge := m.merge.map fun x => if x.num = e.num then { x with reading := true } else x })

/-- Read a line for a requestor, behind the line's merge entry if it has one (R383). -/
def dramRead (req id line : Nat) (s : Device) : Device :=
  let r : DReq := { seq := 0, write := false, line := line, req := req, id := id }
  match s.mc.merge.find? fun e => e.line == line with
  | some e => startRmw e (s.updMc fun m => { m with behind := m.behind ++ [r] })
  | none => addReq r s

/-- Take back every request of a requestor that has not had its data. -/
def dropReqs (req id : Nat) (s : Device) : Device :=
  let keep (r : DReq) : Bool := !(r.req == req && r.id == id)
  s.updMc fun m => { m with
    wait := m.wait.filter keep, q := m.q.filter keep, behind := m.behind.filter keep
    chans := m.chans.map fun x => (x.1, { x.2 with flight := x.2.flight.filter keep }) }

/-- The merge buffer has an entry for a line, or room for one (R382). -/
def Device.mergeRoom (s : Device) (line : Nat) : Bool :=
  (s.mc.merge.any fun e => e.line == line) || decide (s.mc.merge.length < 16)

/-- The bytes [ofs, ofs + data) of a line enter the merge buffer (R382): merged into the line's entry, or a new one; a whole entry is
written as a line. -/
def mergeBytes (line ofs : Nat) (data : List Byte) (s0 : Device) : Device :=
  let s := spoilScrub line s0
  let into (b : SMap Byte) : SMap Byte := data.zipIdx.foldl (fun m x => sput m (ofs + x.2) x.1) b
  match s.mc.merge.find? fun e => e.line == line with
  | some e =>
    let b := into e.bytes
    if b.length = 32 ∧ ¬ e.reading then dramWrite 3 0 line (b.map Prod.snd) s
    else s.updMc fun m => { m with merge := m.merge.map fun x => if x.num = e.num then { x with bytes := b } else x }
  | none =>
    s.updMc fun m => { m with
      nextId := m.nextId + 1, merge := m.merge ++ [⟨m.nextId, line, into [], s.cycle, false⟩] }

/-- The pieces of a write at a byte address (R382): whole lines directly, part lines through the merge buffer, up to one that
finds all 16 entries in use; then the oldest goes, and what has not entered is answered. fuel bounds the lines; id is the command's. -/
def writePieces (id : Nat) : Nat → Nat → List Byte → Device → (Nat × List Byte) × Device
  | 0, a, data, s => ((a, data), s)
  | fuel + 1, a, data, s =>
    if data.isEmpty then ((a, []), s)
    else
      let o := a % 32
      let n := min (32 - o) data.length
      if n = 32 then writePieces id fuel (a + n) (data.drop n) (dramWrite 3 id (a / 32) (data.take n) s)
      else if s.mergeRoom (a / 32) then writePieces id fuel (a + n) (data.drop n) (mergeBytes (a / 32) o (data.take n) s)
      else match s.mc.merge with
        | e :: _ => ((a, data), startRmw e s)
        | [] => ((a, data), s)

/-- Whole lines are written from a byte address on. -/
def writeLines (id n a : Nat) (data : List Byte) (s : Device) : Device := (writePieces id n a data s).2

/-- Change bytes of a line wherever it stands: in the stack and in writes of it not yet made. -/
def dramPatch (line ofs : Nat) (b : List Byte) (s : Device) : Device :=
  let fix (r : DReq) : DReq :=
    if r.write && r.line == line then { r with data := r.data.take ofs ++ b ++ r.data.drop (ofs + b.length) } else r
  { s with dram := cellPuts s.dram (32 * line + ofs) b }.updMc fun m => { m with wait := m.wait.map fix, q := m.q.map fix }

/-! ### Command slots (R379 to R381, R384, R385) -/

/-- The bank serves its queues in the order of arrival: a read and a write of one row are queued in it (R381). -/
def inOrderBank (q : List DReq) : Bool :=
  q.any fun r => !r.write && q.any fun w => w.write && dRow w.line == dRow r.line

/-- The request that bank b of a pseudo-channel may serve in a mode. -/
def bankPick (q : List DReq) (wr : Bool) (b : Nat) : Option DReq :=
  let mine := q.filter fun r => dBank r.line == b
  if inOrderBank mine then mine.head? else mine.find? fun r => r.write == wr

/-- The largest debt of a stack's pseudo-channels, as DR_REFSTATs shows it. -/
def showDebt (st : Nat) (s : Device) : Device :=
  let d := ((List.range 32).map fun c => (s.chan (2 * c + st)).debt).foldl max 0
  s.putReg .drRefstat (putField (s.reg .drRefstat 0 st) 19 16 d) 0 st

/-- A read takes the stored word of its line with its column command (R381). -/
def Device.withWord (s : Device) (r : DReq) : DReq :=
  { r with data := natBytes (s.storedWord r.line), cls := s.lineClass r.line }

/-- A class rewrite counts a line as rewritten, or not (R376). -/
def classLine (line : Nat) (done : Bool) (s : Device) : Device :=
  s.updMc fun m => { m with setclass := m.setclass.map fun j =>
    { j with left := if done then j.left.filter (· != line) else j.left ++ [line] } }

/-- A column command: a write is stored with valid check bits, a read takes the word as it stands. -/
def columnCmd (p : Nat) (r : DReq) (s : Device) : Device :=
  let c := s.chan p
  let s1 := s.updMc fun m => { m with q := m.q.filter fun x => x.seq != r.seq }
  if r.write then
    let s2 := if r.req = 6 then classLine r.line true s1 else s1
    { s2 with dram := cellPuts s2.dram (32 * r.line) r.data, mc := { s2.mc with flips := sdel s2.mc.flips r.line } }.putChan p
      { c with
        last := some { r with old := some (cellGets s.dram (32 * r.line) 32, sget [] s.mc.flips r.line) }
        flight := c.flight.map fun (x : DReq) => if x.line = r.line then { x with stale := true } else x }
  else s1.putChan p { c with last := some r, flight := c.flight ++ [s.withWord r] }

/-- A write that was stored did not take: its line stands as before (R389). -/
def unwrite (r : DReq) (s : Device) : Device :=
  match r.old with
  | some (d, e) =>
    let s1 := if r.req = 6 then classLine r.line false s else s
    { s1 with dram := cellPuts s1.dram (32 * r.line) d
              mc := { s1.mc with flips := if e.isEmpty then sdel s1.mc.flips r.line else sput s1.mc.flips r.line e } }
  | none => s

/-- A refresh of pseudo-channel p: its rows close and its debt falls by n. -/
def refresh (p n : Nat) (s : Device) : Device :=
  showDebt (p % 2) (s.putChan p { s.chan p with rows := [], debt := (s.chan p).debt - n, forced := false })

/-- The command slot of one pseudo-channel (R379, R388). -/
def chanSlot (p : Nat) (s : Device) : Device :=
  let c := s.chan p
  let q := s.mc.q.filter fun r => dPc r.line == p
  if s.flag F.memStatusFrozen then refresh p c.debt s
  else if c.forced then refresh p 0 s
  else if c.skip = some (s.cycle, s.mc.slots) then s
  else if q.isEmpty then (if c.debt = 0 then s else refresh p 1 s)
  else
    let ws := (q.filter DReq.write).length
    let rs := q.length - ws
    let reads := (List.range 64).any fun b => match bankPick q false b with | some r => !r.write | none => false
    let m1 := c.wr || decide (48 ≤ ws) || (!reads && decide (0 < ws))
    let m2 := if m1 && decide (ws ≤ 16) && decide (0 < rs) then false else m1
    match (List.range 64).findSome? fun i =>
        let b := (c.ptr + 1 + i) % 64
        (bankPick q m2 b).map fun r => (b, r) with
    | none => s.putChan p { c with wr := m2 }
    | some (b, r) =>
      let c1 := { c with wr := m2, ptr := b }
      match sfind c.rows b with
      | some row =>
        if row = dRow r.line then columnCmd p r (s.putChan p c1) else s.putChan p { c1 with rows := sdel c.rows b }
      | none => s.putChan p { c1 with rows := sput c.rows b (dRow r.line) }

/-- A class rewrite asks for its next lines, at most 64 at a time (R376, R379). -/
def classFeed (s : Device) : Device :=
  match s.mc.setclass with
  | none => s
  | some j =>
    let n := min (64 - j.left.length) (j.stop - j.fed)
    if s.flag F.memStatusFrozen then s
    else
      forAllDo ((List.range n).map (j.fed + ·)) (fun l t => addReq { seq := 0, write := true, line := l, req := 6, id := 0, data := zeros 32 } t)
        (s.updMc fun m => { m with setclass := some { j with fed := j.fed + n, left := j.left ++ (List.range n).map (j.fed + ·) } })

/-- The pseudo-channels that have something to do in a command slot. -/
def Device.busyChans (s : Device) : List Nat :=
  ((if s.flag F.memStatusFrozen then [] else (s.mc.q ++ s.mc.wait).map fun r => dPc r.line)
    ++ (s.mc.chans.filter fun x => x.2.forced || decide (0 < x.2.debt)).map Prod.fst).eraseDups

/-- DRAM_COMMAND_SLOT: every pseudo-channel takes its slot (R379). -/
def commandSlotOp (s : Device) : Device :=
  let s1 := admitReqs (classFeed s)
  (forAllDo s1.busyChans chanSlot s1).updMc fun m => { m with slots := m.slots + 1 }

/-- t_REFI of a stack in fabric cycles (R384): 3.9 µs, or 1.95 µs when it reports above 85 °C. -/
def Device.refi (s : Device) (st : Nat) : Nat := if s.flag F.drRefstatHot 0 st then 975 else 1950

def Device.refreshDue (s : Device) (p : Nat) : Bool := decide ((s.chan p).refAt ≤ s.cycle)

/-- REFRESH_DUE: a t_REFI has elapsed for pseudo-channel p (R385). -/
def refreshDueOp (p : Nat) (s : Device) : Device :=
  if !(s.refreshDue p) then s
  else
    let c := s.chan p
    let st := p % 2
    let c1 := { c with refAt := c.refAt + s.refi st }
    if c.debt < 8 then showDebt st (s.putChan p { c1 with debt := c.debt + 1 })
    else (((s.putChan p { c1 with forced := true }).addSat F.drRefstatForced 1 0 st).setFlag F.memStatusRefForced).presentNow
      (memEvent 7)

/-- STACK_TEMP_REPORT of a stack in mK (R384). -/
def stackTempOp (st t : Nat) (s : Device) : Device :=
  let hot := decide (358150 < t)
  let was := s.flag F.drRefstatHot 0 st
  let s1 := s.setFld F.drRefstatHot (b2n hot) 0 st
  let s2 := s1.setFld F.memStatusStackHot (b2n (s1.flag F.drRefstatHot 0 0 || s1.flag F.drRefstatHot 0 1))
  if hot = was then s2 else s2.presentNow (memEvent (if hot then 9 else 10))

/-- A merge entry has stood MEM_MERGE_TMO controller cycles of 1.25 ns (R382). -/
def Device.mergeLate (s : Device) (e : MergeEnt) : Bool :=
  !e.reading && decide (5 * (s.reg .memMergeTmo).toNat ≤ 8 * (s.cycle - e.born))

/-- MERGE_TIMEOUT of merge entry n (R382). -/
def mergeTimeoutOp (n : Nat) (s : Device) : Device :=
  if s.flag F.memStatusFrozen then s
  else match s.mc.merge.find? fun e => e.num == n with
    | some e => if s.mergeLate e then startRmw e s else s
    | none => s

end Sys2Proof.Machine
end

