-- ==== Sys2Proof/Machine/Replies.lean ====
section
/-! DEFINITION. Replies, the replay window's records, notices and alerts of the command engine (R453 to R456, R468
to R471), and the running of one command from acceptance to its final reply. -/

namespace Sys2Proof.Machine

/-- The events of the command engine and the security engine (R478, R510). -/
def ceEvent (evt : Nat) : Nat := evCode 0 8 evt

/-- Flags of the reply header (R453). -/
def flReply : Nat := 1
def flNotice : Nat := 2
def flDup : Nat := 4
def flPreempted : Nat := 8
def flNoData : Nat := 16
def flCancelled : Nat := 32
def flAccept : Nat := 64

/-- Queue a reply packet for its transport. -/
def Device.sendReply (s : Device) (r : Reply) : Device :=
  { s with eng := { s.eng with out := s.eng.out ++ [r] } }

/-- Record a final reply in the session's replay window: its header and up to 16 bytes of data, else NODATA
(R455). -/
def Device.recordReply (s : Device) (r : Reply) : Device :=
  let x := s.session r.sess
  if x.isOpen then
    let keep := decide (r.data.length ≤ 16)
    s.putSession r.sess { x with
      marks := sput x.marks r.seq (.recorded r.status (if keep then r.flags else r.flags ||| flNoData) r.steps r.at_
        r.detail (if keep then r.data else []) (if keep then r.length else 0) r.opcode) }
  else s

/-- A reply with the header fields of R453. -/
def mkReply (s : Device) (c : Ctx) (opcode flags status steps at_ detail : Nat) (data : List Byte) : Reply :=
  { via := c.via, opcode := opcode, sess := c.sess, flags := flags ||| flReply, devid := s.fld F.lkDevidDevid,
    status := status, seq := c.seq, length := data.length, steps := steps, at_ := at_, detail := detail,
    data := data }

/-- Send a command's final reply and record it (R453, R455), unless the reply comes later. -/
def CmdOut.finish (o : CmdOut) (c : Ctx) (opcode : Nat) (flags : Nat := 0) : Device :=
  let r := mkReply o.st c opcode flags o.status o.steps o.at_ o.detail o.data
  if o.later then o.st else (o.st.sendReply r).recordReply r

/-- Acceptance (R452, R453): CE_ACCEPTED counts, and ACK gets its accept reply. -/
def Device.accept (s : Device) (c : Ctx) (opcode : Nat) : Device :=
  let s1 := s.addFld F.ceAccepted 1
  if c.ack then s1.sendReply (mkReply s1 c opcode flAccept stOk 0 s1.ssi 0 []) else s1

/-- The commands that only answer: they take no effect, so AT shows their acceptance (R453, R466). -/
def answersOnly : List Nat :=
  [0x0101, 0x0102, 0x0103, 0x0201, 0x0203, 0x0302, 0x0406, 0x0504, 0x0603, 0x0701, 0x0801, 0x0803, 0x0901, 0x0A01, 0x0B01,
   0x0C06, 0x0C07, 0x0D04]

/-- The outcome as the final reply of a routine gives it: AT is its acceptance where it took no effect (R453); of a preempted one
the steps committed before the first preemption, and RESUMED where it ended without error (R464). -/
def Routine.outcome (r : Routine) (o0 : CmdOut) : CmdOut :=
  let o := if answersOnly.contains r.opcode || (o0.status != stOk && o0.steps == 0) then { o0 with at_ := r.index } else o0
  match r.preempted with
  | some n => { o with status := if o.status = stOk then stResumed else o.status, steps := n }
  | none => o

/-- The flags of a routine's final reply (R453). -/
def Routine.flags (r : Routine) : Nat :=
  (if r.preempted.isSome then flPreempted else 0) + (if r.cancelled then flCancelled else 0)

/-- A routine's final reply (R453, R455, R464). -/
def Routine.reply (r : Routine) (o : CmdOut) : Device := (r.outcome o).finish r.ctx r.opcode r.flags

/-- Run a command from acceptance to its final reply. -/
def runCmd (c : Ctx) (opcode : Nat) (op : Device → CmdOut) (s : Device) : Device :=
  (op (s.accept c opcode)).finish c opcode

/-- The largest distance of EXEC_AT (R457). -/
def timedMax : Nat := 2 ^ 40

/-- A TIMED command: checked in full at acceptance, then moved to the timed table (R457, R458, R51); the check is the
command's own on the state at acceptance. An untimed command runs at once. -/
def runTimed (c : Ctx) (opcode : Nat) (cmd : Instr) (op : Device → CmdOut) (s : Device) : Device :=
  match c.timed with
  | none => runCmd c opcode op s
  | some x =>
    let s1 := s.accept c opcode
    if 64 ≤ s1.eng.timed.length then (refuse s1 stBusy).finish c opcode
    else if s1.ssi + timedMax < x then (refuse s1 stBadArg).finish c opcode
    else if s1.fld F.tbStatusRegState = 1 then (refuse s1 stBusy).finish c opcode
    else
      let o := op s1
      if o.status ≠ stOk then { o with st := s1, steps := 0, later := false }.finish c opcode
      else
        { s1 with eng := { s1.eng with
          timed := s1.eng.timed ++ [⟨s1.eng.nextId, cmd, c, opcode, x, decide (x < s1.ssi + 2048), s1.ssi⟩]
          nextId := s1.eng.nextId + 1 } }

/-- Queue a notice for a session, or count it as lost when 64 wait (R470). -/
def Device.queueNotice (s : Device) (n : Nat) (r : Reply) : Device :=
  let x := s.session n
  if x.notices.length < 64 then s.putSession n { x with notices := x.notices ++ [r] }
  else ((s.addFld F.ceNotlost 1 n).setFlag F.ceAlertNotlost).presentNow (ceEvent 5)

/-- A notice (R468, R469, R471): owner names the owner and attribute of the resource it concerns, if any. -/
def Device.notice (s : Device) (code status : Nat) (owner : Option (Nat × Bool)) (data : List Byte) : Device :=
  let b := code - 0x8001
  let s0 := s.orFld F.ceAlertNotice (2 ^ b)
  let mk (n : Nat) : Reply :=
    { via := (s.session n).via, opcode := code, sess := n, flags := flReply ||| flNotice,
      devid := s.fld F.lkDevidDevid, status := status, seq := 0, length := data.length, steps := 0, at_ := s.ssi,
      detail := 0, data := data }
  match owner with
  | some (o, true) =>
    if o < 8 then (if (s0.session o).isOpen then s0.queueNotice o (mk o) else s0)
    else forAllDo (List.range 8) (fun n s =>
      if (s.session n).isOpen && bitOf (s.fld F.ceNotifyMask n) b then s.queueNotice n (mk n) else s) s0
  | _ => forAllDo (List.range 8) (fun n s =>
      if (s.session n).isOpen && bitOf (s.fld F.ceNotifyMask n) b then s.queueNotice n (mk n) else s) s0

/-- The level of ALERT_N: asserted or not (R471). -/
def Device.alert (s : Device) : Bool :=
  ((s.reg .ceAlert &&& s.reg .ceAlertEn) != 0) || s.eng.halted

/-- Take the next notice of a session for sending: it carries the session's notice count and the notices lost
(R468, R470). -/
def Device.takeNotice (s : Device) (n : Nat) : Option (Reply × Device) :=
  let x := s.session n
  match x.notices with
  | [] => none
  | r :: rest =>
    let lost := s.fld F.ceNotlost n
    let seq := s.fld F.ceNotseq n
    let s1 := s.putSession n { x with notices := rest }
    let s2 := (s1.takeCount F.ceNotlost n).addFld F.ceNotseq 1 n
    some ({ r with seq := seq, steps := lost, flags := r.flags }, s2)

end Sys2Proof.Machine
end

