-- ==== Sys2Proof/Machine/Sram.lean ====
section
/-! DEFINITION. The words of the on-chip SRAM (R370, R374, R386, R391, R392): the errors that their cells hold, what an access
finds, and what counts and records it. An error pattern is a list of byte numbers, 0 to 35, with the bits that differ from the
word as it was written; the codes are linear, so the pattern alone decides what a decoder does. -/

namespace Sys2Proof.Machine

/-- The class of a region (R374). -/
def sramClass (region : Nat) : Nat :=
  match region with
  | 1 | 5 | 7 | 8 => 1
  | 6 => 2
  | _ => 0

/-- The key of a word. -/
def sramKey (region inst word : Nat) : Nat := (128 * region + inst) * 2 ^ 17 + word

/-- The key of a word that a region names: the two regions of a galley share its lines (R134, R374). -/
def Device.sramPlace (s : Device) (region inst word : Nat) : Nat :=
  if region = 1 then sramKey 0 inst (1024 * s.fld F.galCtrlRingBase inst + word) else sramKey region inst word

/-- The region of line n of forme f's galley, and the word of the region that the line is (R134, R374). -/
def Device.galWord (s : Device) (f n : Nat) : Nat × Nat :=
  let a := 1024 * s.fld F.galCtrlRingBase f
  if n < a then (0, n) else (1, n - a)

/-- The errors of a word. -/
def Device.sramErrsAt (s : Device) (region inst word : Nat) : List (Nat × Nat) :=
  sget [] s.sramErrs (s.sramPlace region inst word)

/-- The 36 bytes that an error pattern leaves of a word of zeros. -/
def errWord (errs : List (Nat × Nat)) : List Nat := withErrors (List.replicate 36 0) errs

/-- What the decoder of a class makes of an error pattern: its data are what the word as delivered differs by. -/
def errDecode (cls : Nat) (errs : List (Nat × Nat)) : Decoded := decodeLine cls (errWord errs)

/-- An error pattern with one entry per byte that differs. -/
def errNormal (errs : List (Nat × Nat)) : List (Nat × Nat) :=
  ((errWord errs).zipIdx.filter fun x => x.1 != 0).map fun x => (x.2, x.1)

/-- Put an error pattern on a word. -/
def putSramErrs (region inst word : Nat) (errs : List (Nat × Nat)) (s : Device) : Device :=
  let k := s.sramPlace region inst word
  let e := errNormal errs
  { s with sramErrs := if e.isEmpty then sdel s.sramErrs k else sput s.sramErrs k e }

/-- n words from a place on are written: they carry valid check bits. -/
def sramWritten (region inst word n : Nat) (s : Device) : Device :=
  let k := s.sramPlace region inst word
  if s.sramErrs.isEmpty then s
  else { s with sramErrs := s.sramErrs.filter fun x => !(decide (k ≤ x.1) && decide (x.1 < k + n)) }

/-- Lines of a galley are written. -/
def galleyWritten (f line n : Nat) (s : Device) : Device := sramWritten 0 f line n s

/-! ### Counts (R386, R391, R392) -/

/-- A DRAM word was corrected. -/
def dramCorrected (s : Device) : Device :=
  let s1 := (s.addFld F.memCorrDram 1).monitor 263 1
  if s1.mc.corrD = some s1.cycle then s1
  else (s1.updMc fun m => { m with corrD := some s1.cycle }).presentNow (memEvent 2)

/-- An SRAM word was corrected. -/
def sramCorrected (s : Device) : Device :=
  let s1 := (s.addFld F.memCorrSram 1).monitor 264 1
  if s1.mc.corrS = some s1.cycle then s1
  else (s1.updMc fun m => { m with corrS := some s1.cycle }).presentNow (memEvent 3)

/-- A BARE parity error (R391). -/
def parityError (s : Device) : Device :=
  (((s.addFld F.memParerr 1).monitor 265 1).setFlag F.memStatusParerr).presentNow (memEvent 5)

/-- An uncorrectable SRAM word is counted, recorded and noticed (R391, R392); its effect (R374) stands where it was met. -/
def sramBadWord (region inst word : Nat) (s : Device) : Device :=
  if region = 6 then parityError s
  else
    let w := region * 2 ^ 28 + inst % 64 * 2 ^ 22 + word % 2 ^ 17
    let s1 := ((s.addFld F.memUeSram 1).monitor 265 1).setFlag F.memStatusSramUe
    ((s1.putReg .memSue (BitVec.ofNat 32 w)).presentNow (memEvent 4)).notice 0x8009 stOk none (leBytes 4 w)

/-- A user reads a word: a correction is counted and leaves the stored copy as it is (R386), an uncorrectable word is counted;
answers whether it was one. -/
def sramAccess (region inst word : Nat) (s : Device) : Bool × Device :=
  let e := s.sramErrsAt region inst word
  if e.isEmpty then (false, s)
  else
    let d := errDecode (sramClass region) e
    if d.bad then (true, sramBadWord region inst word s) else (false, if d.fixed then sramCorrected s else s)

/-- A word is uncorrectable. -/
def Device.sramBadAt (s : Device) (region inst word : Nat) : Bool :=
  let e := s.sramErrsAt region inst word
  !e.isEmpty && (errDecode (sramClass region) e).bad

/-- n entries of a store with per entries a word are written from entry first on: the words that they cover whole are sound
(R374). -/
def sramStored (region inst first n per : Nat) (s : Device) : Device :=
  let lo := ceilDiv first per
  sramWritten region inst lo ((first + n) / per - lo) s

/-- A DATA_UE notice (R374). -/
def dataUe (region input tone n : Nat) (s : Device) : Device :=
  s.notice 0x8007 stOk (if region = 5 then some (s.seqOwner (512 + input), s.seqSealed (512 + input)) else none)
    (leBytes 1 region ++ leBytes 1 input ++ leBytes 1 tone ++ zeros 1 ++ leBytes 4 n)

end Sys2Proof.Machine
end

