-- ==== Sys2Proof/Machine/Wave.lean ====
section
/-! DEFINITION. The arithmetic of the waveform path: the sine table and the carrier outputs (R127), the resampler
(R128 to R131), and the rounding and clamping of R118. -/

namespace Sys2Proof.Machine

/-- Entries 0 to 63 of S (R127). -/
def sineRow0 : List Int :=
  [101, 302, 503, 704, 905, 1106, 1307, 1508, 1709, 1910, 2111, 2312, 2513, 2714, 2915, 3116] ++
  [3317, 3518, 3719, 3920, 4121, 4322, 4523, 4724, 4925, 5126, 5327, 5528, 5728, 5929, 6130, 6331] ++
  [6532, 6733, 6933, 7134, 7335, 7536, 7736, 7937, 8138, 8338, 8539, 8740, 8940, 9141, 9341, 9542] ++
  [9742, 9943, 10143, 10344, 10544, 10745, 10945, 11145, 11346, 11546, 11746, 11946, 12147, 12347, 12547, 12747]

/-- Entries 64 to 127 of S (R127). -/
def sineRow1 : List Int :=
  [12947, 13147, 13347, 13547, 13747, 13947, 14147, 14347, 14547, 14747, 14946, 15146, 15346, 15546, 15745, 15945] ++
  [16144, 16344, 16543, 16743, 16942, 17141, 17341, 17540, 17739, 17938, 18138, 18337, 18536, 18735, 18934, 19133] ++
  [19332, 19530, 19729, 19928, 20127, 20325, 20524, 20722, 20921, 21119, 21318, 21516, 21714, 21913, 22111, 22309] ++
  [22507, 22705, 22903, 23101, 23299, 23497, 23695, 23892, 24090, 24288, 24485, 24683, 24880, 25078, 25275, 25472]

/-- Entries 128 to 191 of S (R127). -/
def sineRow2 : List Int :=
  [25669, 25866, 26063, 26261, 26457, 26654, 26851, 27048, 27245, 27441, 27638, 27834, 28031, 28227, 28423, 28620] ++
  [28816, 29012, 29208, 29404, 29600, 29796, 29992, 30187, 30383, 30578, 30774, 30969, 31165, 31360, 31555, 31750] ++
  [31945, 32140, 32335, 32530, 32725, 32919, 33114, 33308, 33503, 33697, 33891, 34085, 34280, 34474, 34668, 34861] ++
  [35055, 35249, 35442, 35636, 35829, 36023, 36216, 36409, 36602, 36795, 36988, 37181, 37374, 37567, 37759, 37952]

/-- Entries 192 to 255 of S (R127). -/
def sineRow3 : List Int :=
  [38144, 38336, 38529, 38721, 38913, 39105, 39297, 39488, 39680, 39872, 40063, 40255, 40446, 40637, 40828, 41019] ++
  [41210, 41401, 41592, 41782, 41973, 42163, 42353, 42544, 42734, 42924, 43114, 43304, 43493, 43683, 43872, 44062] ++
  [44251, 44440, 44629, 44818, 45007, 45196, 45385, 45573, 45762, 45950, 46138, 46327, 46515, 46702, 46890, 47078] ++
  [47266, 47453, 47640, 47828, 48015, 48202, 48389, 48576, 48762, 48949, 49135, 49322, 49508, 49694, 49880, 50066]

/-- Entries 256 to 319 of S (R127). -/
def sineRow4 : List Int :=
  [50252, 50437, 50623, 50808, 50993, 51179, 51364, 51549, 51733, 51918, 52103, 52287, 52471, 52655, 52840, 53023] ++
  [53207, 53391, 53575, 53758, 53941, 54124, 54307, 54490, 54673, 54856, 55038, 55221, 55403, 55585, 55767, 55949] ++
  [56131, 56313, 56494, 56675, 56857, 57038, 57219, 57400, 57580, 57761, 57941, 58121, 58302, 58482, 58661, 58841] ++
  [59021, 59200, 59380, 59559, 59738, 59917, 60095, 60274, 60452, 60631, 60809, 60987, 61165, 61343, 61520, 61698]

/-- Entries 320 to 383 of S (R127). -/
def sineRow5 : List Int :=
  [61875, 62052, 62229, 62406, 62583, 62759, 62936, 63112, 63288, 63464, 63640, 63816, 63991, 64167, 64342, 64517] ++
  [64692, 64867, 65042, 65216, 65390, 65565, 65739, 65912, 66086, 66260, 66433, 66606, 66779, 66952, 67125, 67298] ++
  [67470, 67642, 67815, 67987, 68158, 68330, 68502, 68673, 68844, 69015, 69186, 69357, 69527, 69697, 69868, 70038] ++
  [70208, 70377, 70547, 70716, 70885, 71054, 71223, 71392, 71561, 71729, 71897, 72065, 72233, 72401, 72568, 72736]

/-- Entries 384 to 447 of S (R127). -/
def sineRow6 : List Int :=
  [72903, 73070, 73237, 73403, 73570, 73736, 73902, 74068, 74234, 74400, 74565, 74730, 74895, 75060, 75225, 75390] ++
  [75554, 75718, 75882, 76046, 76210, 76373, 76536, 76700, 76863, 77025, 77188, 77350, 77513, 77675, 77836, 77998] ++
  [78160, 78321, 78482, 78643, 78804, 78964, 79125, 79285, 79445, 79605, 79764, 79924, 80083, 80242, 80401, 80560] ++
  [80718, 80877, 81035, 81193, 81350, 81508, 81665, 81822, 81979, 82136, 82293, 82449, 82605, 82761, 82917, 83073]

/-- Entries 448 to 511 of S (R127). -/
def sineRow7 : List Int :=
  [83228, 83383, 83539, 83693, 83848, 84002, 84157, 84311, 84465, 84618, 84772, 84925, 85078, 85231, 85383, 85536] ++
  [85688, 85840, 85992, 86144, 86295, 86446, 86597, 86748, 86899, 87049, 87199, 87349, 87499, 87649, 87798, 87947] ++
  [88096, 88245, 88394, 88542, 88690, 88838, 88986, 89133, 89281, 89428, 89575, 89721, 89868, 90014, 90160, 90306] ++
  [90452, 90597, 90742, 90887, 91032, 91176, 91321, 91465, 91609, 91752, 91896, 92039, 92182, 92325, 92468, 92610]

/-- Entries 512 to 575 of S (R127). -/
def sineRow8 : List Int :=
  [92752, 92894, 93036, 93177, 93319, 93460, 93601, 93741, 93882, 94022, 94162, 94302, 94441, 94580, 94720, 94858] ++
  [94997, 95135, 95274, 95412, 95549, 95687, 95824, 95961, 96098, 96235, 96371, 96507, 96643, 96779, 96914, 97050] ++
  [97185, 97319, 97454, 97588, 97722, 97856, 97990, 98123, 98257, 98390, 98522, 98655, 98787, 98919, 99051, 99182] ++
  [99314, 99445, 99576, 99706, 99837, 99967, 100097, 100226, 100356, 100485, 100614, 100743, 100871, 101000, 101128, 101255]

/-- Entries 576 to 639 of S (R127). -/
def sineRow9 : List Int :=
  [101383, 101510, 101637, 101764, 101891, 102017, 102143, 102269, 102395, 102520, 102645, 102770, 102895, 103019, 103144, 103267] ++
  [103391, 103515, 103638, 103761, 103884, 104006, 104128, 104250, 104372, 104493, 104615, 104736, 104856, 104977, 105097, 105217] ++
  [105337, 105457, 105576, 105695, 105814, 105932, 106050, 106169, 106286, 106404, 106521, 106638, 106755, 106871, 106988, 107104] ++
  [107220, 107335, 107450, 107565, 107680, 107795, 107909, 108023, 108137, 108250, 108363, 108476, 108589, 108701, 108814, 108926]

/-- Entries 640 to 703 of S (R127). -/
def sineRow10 : List Int :=
  [109037, 109149, 109260, 109371, 109482, 109592, 109702, 109812, 109922, 110031, 110140, 110249, 110358, 110466, 110574, 110682] ++
  [110790, 110897, 111004, 111111, 111217, 111323, 111429, 111535, 111641, 111746, 111851, 111956, 112060, 112164, 112268, 112372] ++
  [112475, 112578, 112681, 112784, 112886, 112988, 113090, 113191, 113292, 113393, 113494, 113594, 113695, 113795, 113894, 113994] ++
  [114093, 114192, 114290, 114388, 114486, 114584, 114682, 114779, 114876, 114973, 115069, 115165, 115261, 115357, 115452, 115547]

/-- Entries 704 to 767 of S (R127). -/
def sineRow11 : List Int :=
  [115642, 115736, 115830, 115924, 116018, 116111, 116205, 116297, 116390, 116482, 116574, 116666, 116758, 116849, 116940, 117031] ++
  [117121, 117211, 117301, 117391, 117480, 117569, 117658, 117746, 117834, 117922, 118010, 118097, 118184, 118271, 118358, 118444] ++
  [118530, 118615, 118701, 118786, 118871, 118955, 119040, 119124, 119207, 119291, 119374, 119457, 119539, 119622, 119704, 119786] ++
  [119867, 119948, 120029, 120110, 120190, 120270, 120350, 120430, 120509, 120588, 120666, 120745, 120823, 120901, 120978, 121055]

/-- Entries 768 to 831 of S (R127). -/
def sineRow12 : List Int :=
  [121132, 121209, 121285, 121361, 121437, 121513, 121588, 121663, 121738, 121812, 121886, 121960, 122033, 122106, 122179, 122252] ++
  [122324, 122397, 122468, 122540, 122611, 122682, 122753, 122823, 122893, 122963, 123032, 123101, 123170, 123239, 123307, 123375] ++
  [123443, 123510, 123578, 123644, 123711, 123777, 123843, 123909, 123974, 124039, 124104, 124169, 124233, 124297, 124361, 124424] ++
  [124487, 124550, 124612, 124675, 124736, 124798, 124859, 124920, 124981, 125042, 125102, 125161, 125221, 125280, 125339, 125398]

/-- Entries 832 to 895 of S (R127). -/
def sineRow13 : List Int :=
  [125456, 125514, 125572, 125630, 125687, 125744, 125800, 125857, 125913, 125968, 126024, 126079, 126134, 126188, 126242, 126296] ++
  [126350, 126403, 126456, 126509, 126561, 126614, 126665, 126717, 126768, 126819, 126870, 126920, 126970, 127020, 127069, 127119] ++
  [127167, 127216, 127264, 127312, 127360, 127407, 127454, 127501, 127547, 127594, 127639, 127685, 127730, 127775, 127820, 127864] ++
  [127908, 127952, 127995, 128039, 128081, 128124, 128166, 128208, 128250, 128291, 128332, 128373, 128413, 128454, 128493, 128533]

/-- Entries 896 to 959 of S (R127). -/
def sineRow14 : List Int :=
  [128572, 128611, 128650, 128688, 128726, 128764, 128801, 128838, 128875, 128911, 128948, 128984, 129019, 129054, 129089, 129124] ++
  [129158, 129193, 129226, 129260, 129293, 129326, 129358, 129391, 129423, 129454, 129485, 129517, 129547, 129578, 129608, 129638] ++
  [129667, 129696, 129725, 129754, 129782, 129810, 129838, 129865, 129892, 129919, 129945, 129971, 129997, 130023, 130048, 130073] ++
  [130098, 130122, 130146, 130170, 130193, 130216, 130239, 130261, 130283, 130305, 130327, 130348, 130369, 130390, 130410, 130430]

/-- Entries 960 to 1023 of S (R127). -/
def sineRow15 : List Int :=
  [130450, 130469, 130488, 130507, 130525, 130544, 130561, 130579, 130596, 130613, 130630, 130646, 130662, 130678, 130693, 130708] ++
  [130723, 130738, 130752, 130766, 130779, 130793, 130805, 130818, 130830, 130842, 130854, 130866, 130877, 130887, 130898, 130908] ++
  [130918, 130928, 130937, 130946, 130954, 130963, 130971, 130978, 130986, 130993, 131000, 131006, 131012, 131018, 131024, 131029] ++
  [131034, 131039, 131043, 131047, 131051, 131054, 131057, 131060, 131062, 131064, 131066, 131068, 131069, 131070, 131071, 131071]

/-- S[i] = round(131,071 sin(2 pi (i + 0.5) / 4,096)) for i in [0, 1,024) (R127). -/
def sine (i : Nat) : Int :=
  (match i / 64 with
    | 0 => sineRow0
    | 1 => sineRow1
    | 2 => sineRow2
    | 3 => sineRow3
    | 4 => sineRow4
    | 5 => sineRow5
    | 6 => sineRow6
    | 7 => sineRow7
    | 8 => sineRow8
    | 9 => sineRow9
    | 10 => sineRow10
    | 11 => sineRow11
    | 12 => sineRow12
    | 13 => sineRow13
    | 14 => sineRow14
    | _ => sineRow15).getD (i % 64) 0

/-- rnd(a, k) of R118: (a + 2^(k-1)) shifted right arithmetically by k bits. -/
def rnd (a : Int) (k : Nat) : Int := (a + (2 ^ (k - 1) : Nat)) / ((2 ^ k : Nat) : Int)

/-- sat16 of R118. -/
def sat16 (a : Int) : Int := clampI (-32768) 32767 a

/-- sat14 of R158. -/
def sat14 (a : Int) : Int := clampI (-8192) 8191 a

/-- n / d rounded to the nearest integer, halves away from zero (d > 0). -/
def roundAway (n : Int) (d : Nat) : Int :=
  if 0 ≤ n then (2 * n + d) / (2 * (d : Int)) else -((2 * -n + d) / (2 * (d : Int)))

/-- The cosine and sine outputs of a carrier at phase theta, in units of 2^-48 turn (R127). -/
def carrierOut (theta : Nat) : Int × Int :=
  let q := bitsOf theta 47 46
  let i := bitsOf theta 45 36
  let dl := bitsOf theta 35 24
  let e : Int := ((dl : Int) - 2048) * 105414358
  let a := sine i
  let b := sine (1023 - i)
  let sa := roundAway (a * 2 ^ 97 + e * b * 2 ^ 49 - e * e * a) (2 ^ 97)
  let ca := roundAway (b * 2 ^ 97 - e * a * 2 ^ 49 - e * e * b) (2 ^ 97)
  match q with
  | 0 => (ca, sa)
  | 1 => (-sa, ca)
  | 2 => (-ca, -sa)
  | _ => (sa, -ca)

/-! ### The resampler (R128 to R131) -/

/-- D of R128. -/
def rateD (rate : Nat) : Nat := 2 ^ 24 + rate

/-- A RATE that R128 allows. -/
def validRate (rate : Nat) : Bool := decide (rate ≤ 255 * 2 ^ 24)

/-- M of R129. -/
def envSamples (len rate : Nat) : Nat := ceilDiv (len * 2 ^ 24) (rateD rate)

/-- The tap that the table file lists for phase ph in [1, 512] and t in [0, 15), as a free value. -/
def fileTap (ph t : Nat) : Int := (Config.tap ph t).toInt

/-- The taps of phases 1 to 511, the last one set so that the phase sums to 2^17 (R131). -/
def lowTap (ph t : Nat) : Int :=
  if t < 15 then fileTap ph t else 2 ^ 17 - ((List.range 15).map (fileTap ph)).sum

/-- The taps of phase 512, symmetric and summing to 2^17 (R131). -/
def midTap (t : Nat) : Int :=
  let u := if t < 8 then t else 15 - t
  if u < 7 then fileTap 512 u else 2 ^ 16 - ((List.range 7).map (fileTap 512)).sum

/-- h[ph][t] (R131): phase 0 is the unit impulse, and the phases mirror each other. -/
def tapH (ph t : Nat) : Int :=
  if ph = 0 then (if t = 7 then 2 ^ 17 else 0)
  else if ph < 512 then lowTap ph t
  else if ph = 512 then midTap t
  else lowTap (1024 - ph) (15 - t)

/-- The envelope sample at or before output sample j (R130). -/
def envIndex (j rate : Nat) : Nat := j * 2 ^ 24 / rateD rate

/-- The polyphase index of output sample j (R130). -/
def envPhase (j rate : Nat) : Nat := 1024 * (j * 2 ^ 24 % rateD rate) / rateD rate

/-- The sum of R130 over the 16 taps, for one component of an envelope of M samples. -/
def tapSum (env : Nat → Int) (m k ph : Nat) : Int :=
  ((List.range 16).map fun t =>
    if 7 ≤ k + t ∧ k + t - 7 < m then tapH ph t * env (k + t - 7) else 0).sum

/-- Output sample j of one component, and whether it clamps (R130, R119); at phase 0 the sum is the sample itself. -/
def resample (env : Nat → Int) (m rate j : Nat) : Int × Bool :=
  let k := envIndex j rate
  let ph := envPhase j rate
  if rate = 0 then (if j < m then env j else 0, false)
  else if ph = 0 then (if k < m then env k else 0, false)
  else
    let x := rnd (tapSum env m k ph) 17
    (sat16 x, decide (sat16 x ≠ x))

/-- The envelope samples that output sample j touches (R150). -/
def touches (m rate j : Nat) : List Nat :=
  let k := envIndex j rate
  if rate = 0 then [k]
  else (List.range 16).filterMap fun t => if 7 ≤ k + t ∧ k + t - 7 < m then some (k + t - 7) else none

/-- The voice units of an interpolation (R120). -/
def voiceUnits (rate : Nat) : Nat := ceilDiv (16 * 2 ^ 24) (rateD rate)

end Sys2Proof.Machine
end

