-- ==== Sys2Proof/Machine/Galley.lean ====
section
/-! DEFINITION. The galley, its segments, fetches and stream rings (spec/04_waveform_synthesis.md, R134 to R152). -/

namespace Sys2Proof.Machine

/-! ### Envelope data (R135, R136) -/

/-- Bytes per envelope sample: 4 complex, 2 real. -/
def sampleBytes (kind : Nat) : Nat := if kind = 0 then 4 else 2

/-- Envelope samples per 32-byte line. -/
def perLine (kind : Nat) : Nat := if kind = 0 then 8 else 16

/-- The lines of a segment, its header included (R135). -/
def segLines (m kind : Nat) : Nat := 1 + ceilDiv (m * sampleBytes kind) 32

/-- Envelope sample k of data that begins at a byte address: I and Q (R136). -/
def envAt (mem : List Host.Cell) (a kind k : Nat) : Int × Int :=
  if kind = 0 then (toSigned 16 (cellNat mem (a + 4 * k) 2), toSigned 16 (cellNat mem (a + 4 * k + 2) 2))
  else (toSigned 16 (cellNat mem (a + 2 * k) 2), 0)

/-- The sum of squares of a segment whose data begin at a byte address (R141). -/
def sumSquares (mem : List Host.Cell) (a : Nat) (h : SegHead) : Nat :=
  ((List.range h.len).map fun j =>
    let i := (resample (fun k => (envAt mem a h.kind k).1) h.m h.rate j).1
    let q := if h.kind = 0 then (resample (fun k => (envAt mem a h.kind k).2) h.m h.rate j).1 else 0
    (i * i + q * q).toNat).sum

/-- The largest sum of squares a segment can hold (R141). -/
def maxSquares (len kind : Nat) : Nat := len * (if kind = 0 then 2147483648 else 1073741824)

/-- The header line of a segment or library image (R135). -/
def headerBytes (h : SegHead) (seg sq loadser : Nat) : List Byte :=
  leBytes 4 h.len ++ leBytes 4 h.rate ++ leBytes 4 h.m ++ leBytes 1 h.kind ++ leBytes 1 0 ++ leBytes 2 seg
    ++ leBytes 8 sq ++ leBytes 4 loadser ++ leBytes 4 0

/-- Data padded with zeros to whole lines (R136). -/
def padLines (d : List Byte) : List Byte := d ++ zeros (32 * ceilDiv d.length 32 - d.length)

/-- The header of a directory entry. -/
def Seg.head (e : Seg) : SegHead := ⟨e.len, e.rate, e.kind, e.m⟩

/-- The byte address of galley line n of forme f. -/
def galByte (f n : Nat) : Nat := 2 ^ 20 * f + 32 * n

/-! ### Segment checks (R139) -/

/-- The payload offset of the first header field that R139 refuses, given the offsets of KIND, LEN, RATE and M; KIND
stands first where koff is the least. -/
def headFault (h : SegHead) (koff loff roff moff : Nat) : Option Nat :=
  let bad : List (Nat × Bool) :=
    [(koff, decide (1 < h.kind)), (loff, h.len % 32 != 0 || decide (h.len < 64) || decide (2 ^ 32 ≤ h.len)),
     (roff, !validRate h.rate), (moff, h.m != envSamples h.len h.rate)]
  ((bad.filter Prod.snd).map Prod.fst).min?

/-- The first line past the segment area (R134). -/
def Device.segArea (s : Device) (f : Nat) : Nat := 1024 * s.fld F.galCtrlRingBase f

/-- The home range fits in the segment area (R139). -/
def Device.homeOk (s : Device) (f home : Nat) (h : SegHead) : Bool :=
  decide (home + segLines h.m h.kind ≤ s.segArea f)

/-- The lines [a, a + n) and [b, b + m) overlap (R3). -/
def overlap (a n b m : Nat) : Bool := decide (a < b + m) && decide (b < a + n) && decide (0 < n) && decide (0 < m)

/-- Segment n of forme f is pinned (R140). -/
def Device.pinned (s : Device) (f n : Nat) : Bool := (s.forme f).pins.any fun p => p.1 == n

/-- Another pinned segment of the forme has home lines that overlap a range (R139, R143). -/
def Device.pinnedOver (s : Device) (f n home lines : Nat) : Bool :=
  (s.forme f).pins.any fun p =>
    let e := s.seg f p.1
    p.1 != n && e.state != 0 && overlap home lines e.home (segLines e.m e.kind)

/-- A segment that loses its data becomes KNOWN with the largest SQ if it has a library line, and otherwise EMPTY
(R139, R141). -/
def dropSeg (e : Seg) : Seg :=
  match e.lib with
  | some _ => { e with state := 1, sq := maxSquares e.len e.kind }
  | none => {}

/-- A line of forme f's galley is uncorrectable: the RESIDENT segments that hold it lose their data (R374). -/
def galleyLost (f line : Nat) (s : Device) : Device :=
  { s with segs := s.segs.map fun (key, e) =>
      if key / 4096 = f ∧ e.state = 3 ∧ overlap line 1 e.home (segLines e.m e.kind) then (key, dropSeg e) else (key, e) }

/-- The unpinned RESIDENT segments of a forme, n excepted, whose lines a write touches lose their data (R139). -/
def overwritten (f n home lines : Nat) (s : Device) : Device :=
  { s with segs := s.segs.map fun (key, e) =>
      if key / 4096 = f ∧ key % 4096 ≠ n ∧ e.state = 3 ∧ overlap home lines e.home (segLines e.m e.kind)
          ∧ ¬ s.pinned f (key % 4096)
      then (key, dropSeg e) else (key, e) }

/-- Write a segment's header and data lines into the galley and complete the load: LOADSER counts it and its SQ is
computed (R135, R141). -/
def completeLoad (f n home : Nat) (h : SegHead) (lib : Option Nat) (data : List Byte) (s : Device) : Device :=
  let s1 := s.addFld F.galLoadser 1 f
  let body := padLines data
  let g1 := cellPuts s1.galley (galByte f (home + 1)) body
  let sq := sumSquares g1 (galByte f (home + 1)) h
  let g2 := cellPuts g1 (galByte f home) (headerBytes h n sq (s1.reg .galLoadser f).toNat)
  { s1 with galley := g2 }.putSeg f n
    { state := 3, home := home, lib := lib, len := h.len, rate := h.rate, kind := h.kind, m := h.m, sq := sq,
      loadser := (s1.reg .galLoadser f).toNat }

/-- Drop a segment from its forme's fetch queue; a fetch of it that runs is abandoned. -/
def unqueue (f n : Nat) (s : Device) : Device :=
  let x := s.forme f
  let runs := x.busy && x.fetchq.head? == some n
  let s1 := if runs then dropReqs 0 f s else s
  s1.putForme f { x with fetchq := x.fetchq.filter (· != n), busy := x.busy && !runs }

/-- SEG_LOAD (R138 to R141). -/
def segLoadOp (t f n home : Nat) (h : SegHead) (data : List Byte) (s : Device) : CmdOut :=
  let lines := segLines h.m h.kind
  if data.length ≠ h.m * sampleBytes h.kind then refuse s stBadLength
  else if 64 ≤ f then refuse s stBadArg 0
  else if 1 < h.kind then refuse s stBadArg 1
  else if 4096 ≤ n then refuse s stBadArg 2
  else
    match headFault h 1 8 12 16 with
    | some o => if o < 4 ∨ s.homeOk f home h then refuse s stBadArg o else refuse s stBadArg 4
    | none =>
      if !(s.homeOk f home h) then refuse s stBadArg 4
      else if !(s.formeWritable f t) then refuse s stNotOwner
      else if s.pinned f n || s.pinnedOver f n home lines then refuse s stBusy
      else done (completeLoad f n home h none data (galleyWritten f home lines (overwritten f n home lines (unqueue f n s))))

/-- LIB_STORE (R138 to R141, R145). -/
def libStoreOp (line : Nat) (h : SegHead) (data : List Byte) (s : Device) : CmdOut :=
  if data.length ≠ h.m * sampleBytes h.kind then refuse s stBadLength
  else if dramLines < line + segLines h.m h.kind then refuse s stBadArg 0
  else
    match headFault h 4 8 12 16 with
    | some o => refuse s stBadArg o
    | none =>
      if s.flag F.memStatusFrozen then refuse s stFrozen
      else if s.rewriting line (segLines h.m h.kind) then refuse s stBusy
      else
        let body := padLines data
        let head := headerBytes h 0 (sumSquares (cellPuts [] 0 body) 0 h) 0
        done (writeLines 0 (segLines h.m h.kind) (32 * line) (head ++ body) s)

/-- The header that a library line holds (R135). -/
def libHead (b : List Byte) : SegHead := ⟨fieldB b 0 4, fieldB b 4 4, fieldB b 12 1, fieldB b 8 4⟩

/-- The offset of the first field of a library header that SEG_BIND refuses (R139). -/
def libFault (b : List Byte) : Option Nat :=
  let more := [(13, fieldB b 13 1), (14, fieldB b 14 2), (24, fieldB b 24 4), (28, fieldB b 28 4)]
  ((headFault (libHead b) 12 0 4 8).toList ++ (more.filter fun x => x.2 != 0).map Prod.fst).min?

/-- A command reads DRAM lines; its reply follows when they have returned (R399). -/
def hostRead (c : Ctx) (opcode : Nat) (lines : List Nat) (bind : Option (Nat × Nat × Nat × Nat)) (s : Device) : CmdOut :=
  let n := s.mc.nextId
  let s1 := s.updMc fun m => { m with nextId := n + 1, host := m.host ++ [{ id := n, ctx := c, opcode := opcode, lines := lines, bind := bind }] }
  { done (forAllDo lines (fun l t => dramRead 3 n l t) s1) with later := true }

/-- What SEG_BIND asks before it reads the library header (R138, R139, R145). -/
def bindCheck (t f n home line : Nat) (s : Device) : Option (Nat × Nat) :=
  if 64 ≤ f then some (stBadArg, 0)
  else if 4096 ≤ n then some (stBadArg, 2)
  else if 32768 ≤ home then some (stBadArg, 4)
  else if dramLines ≤ line then some (stBadArg, 8)
  else if !(s.formeWritable f t) then some (stNotOwner, 0)
  else if s.pinned f n then some (stBusy, 0)
  else if s.flag F.memStatusFrozen then some (stFrozen, 0)
  else if s.rewriting line 1 then some (stBusy, 0)
  else none

/-- SEG_BIND: the checks, and the read of the library header (R138, R139, R141, R145). -/
def segBindOp (c : Ctx) (f n home line : Nat) (s : Device) : CmdOut :=
  match bindCheck c.sess f n home line s with
  | some (st, d) => refuse s st d
  | none => hostRead c 0x0403 [line] (some (f, n, home, line)) s

/-- SEG_BIND once the header has come: the segment becomes KNOWN with its bound SQ (R139, R141). -/
def segBindWith (t f n home line : Nat) (b : List Byte) (s : Device) : CmdOut :=
  match bindCheck t f n home line s with
  | some (st, d) => refuse s st d
  | none =>
    match libFault b with
    | some o => refuse s stBadArg (0x80000000 + o)
    | none =>
      let h := libHead b
      if dramLines < line + segLines h.m h.kind then refuse s stBadArg 8
      else if !(s.homeOk f home h) then refuse s stBadArg 4
      else if s.rewriting line (segLines h.m h.kind) then refuse s stBusy
      else
        done ((unqueue f n s).putSeg f n
          { state := 1, home := home, lib := some line, len := h.len, rate := h.rate, kind := h.kind, m := h.m,
            sq := maxSquares h.len h.kind })

/-- Queue the fetch of a KNOWN segment (R138, R143). -/
def queueFetch (f n : Nat) (s : Device) : Device :=
  let e := s.seg f n
  (s.putSeg f n { e with state := 2 }).updForme f fun x => { x with fetchq := x.fetchq ++ [n] }

/-- SEG_FETCH (R138, R139). -/
def segFetchOp (t f n : Nat) (s : Device) : CmdOut :=
  if 64 ≤ f then refuse s stBadArg 0
  else if 4096 ≤ n then refuse s stBadArg 2
  else if !(s.formeWritable f t) then refuse s stNotOwner
  else
    match (s.seg f n).state with
    | 0 => refuse s stBadArg 2
    | 1 =>
      let e := s.seg f n
      if s.rewriting (e.lib.getD 0) (segLines e.m e.kind) then refuse s stBusy else done (queueFetch f n s)
    | _ => done s

/-- SEG_FREE (R138, R139). -/
def segFreeOp (t f n : Nat) (s : Device) : CmdOut :=
  if 64 ≤ f then refuse s stBadArg 0
  else if 4096 ≤ n then refuse s stBadArg 2
  else if !(s.formeWritable f t) then refuse s stNotOwner
  else if s.pinned f n then refuse s stBusy
  else done ((unqueue f n s).putSeg f n {})

/-- SEG_INFO (R138, R466); LOADSER is that of the segment's last load or fetch, 0 before one (DEDUCED). -/
def segInfoOp (f n : Nat) (s : Device) : CmdOut :=
  if 64 ≤ f then refuse s stBadArg 0
  else if 4096 ≤ n then refuse s stBadArg 2
  else
    let e := s.seg f n
    done s (leBytes 1 e.state ++ leBytes 1 e.kind ++ leBytes 2 n ++ leBytes 4 e.home ++ leBytes 4 (e.lib.getD 0)
      ++ leBytes 4 e.len ++ leBytes 4 e.rate ++ leBytes 4 e.m ++ leBytes 8 e.sq
      ++ leBytes 4 e.loadser ++ zeros 12)

/-! ### Fetches (R141, R143, R145) -/

/-- The fetch at the head of a forme's queue starts: FETCH_WAIT while its home lines overlap another pinned segment;
while DRAM is frozen or a class rewrite runs on its granules (R376) nothing moves. -/
def fetchStartOp (f : Nat) (s : Device) : Device :=
  let x := s.forme f
  match x.fetchq with
  | [] => s
  | n :: _ =>
    if x.busy || s.flag F.memStatusFrozen then s
    else
      let e := s.seg f n
      let lines := segLines e.m e.kind
      if s.rewriting (e.lib.getD 0) lines then s
      else if s.pinnedOver f n e.home lines then s.setFlag F.galStatusFetchWait f
      else
        let s1 := (overwritten f n e.home lines s).putForme f { x with busy := true, left := lines - 1 }
        forAllDo (List.range (lines - 1)) (fun j t => dramRead 0 f (e.lib.getD 0 + 1 + j) t) s1

/-- A line of the running fetch of forme f has come: it goes to its home line, and a segment loaded there since the fetch began loses
its data (R139). -/
def fetchLine (f line : Nat) (data : List Byte) (s : Device) : Device :=
  let x := s.forme f
  match x.fetchq.head? with
  | some n =>
    let e := s.seg f n
    let at_ := e.home + (line - e.lib.getD 0)
    let s1 := galleyWritten f at_ 1 (overwritten f n at_ 1 s)
    { s1 with galley := cellPuts s1.galley (galByte f at_) data }.putForme f { x with left := x.left - 1 }
  | none => s

/-- The running fetch has all its lines. -/
def Device.fetchComplete (s : Device) (f : Nat) : Bool :=
  let x := s.forme f
  x.busy && x.left == 0 && !x.fetchq.isEmpty

/-- The running fetch completes (R141, R157). -/
def fetchDoneOp (f : Nat) (s : Device) : Device :=
  let x := s.forme f
  match x.fetchq with
  | [] => s
  | n :: rest =>
    if !(s.fetchComplete f) || s.flag F.memStatusFrozen then s
    else
      let e := s.seg f n
      let data := cellGets s.galley (galByte f (e.home + 1)) (32 * (segLines e.m e.kind - 1))
      let s1 := completeLoad f n e.home e.head e.lib data (galleyWritten f e.home 1 (overwritten f n e.home 1 s))
      (s1.updForme f fun y => { y with fetchq := rest, busy := false }).presentNow (evCode 5 f 4)

/-! ### RING_BASE (R134) -/

/-- Sequencer k is IDLE, STOPPED, ABORTED or FAULT. -/
def Device.seqQuiet (s : Device) (k : Nat) : Bool :=
  let st := s.fld F.csStatusState k
  st == 0 || st == 4 || st == 5 || st == 6

/-- A write of GAL_CTRL by session t (R134, R498). -/
def ringBaseWriteOp (t f v : Nat) (s : Device) : CmdOut :=
  let nb := bitsOf v 5 0
  let ob := s.fld F.galCtrlRingBase f
  if 32 < nb then refuse s stBadArg
  else if !(s.formeWritable f t) then refuse s stNotOwner
  else if !((List.range 8).all fun m => s.seqQuiet (8 * f + m)) then refuse s stBusy
  else if (List.range 16).any fun n => s.flag F.galRingEn f n then refuse s stBusy
  else
    let lo := 1024 * min nb ob
    let n := 1024 * max nb ob - lo
    let s1 := { galleyWritten f lo n s with
      segs := s.segs.map (fun (x : Nat × Seg) =>
        if x.1 / 4096 = f ∧ x.2.state = 3 ∧ overlap lo n x.2.home (segLines x.2.m x.2.kind) then (x.1, dropSeg x.2)
        else x)
      galley := s.galley.filter fun c => !(decide (galByte f lo ≤ c.1) && decide (c.1 < galByte f (lo + n))) }
    done (s1.putReg .galCtrl (BitVec.ofNat 32 nb) f)

/-! ### Stream rings (R146 to R152) -/

/-- The lines of ring n (R146). -/
def Device.ringLines (s : Device) (f n : Nat) : Nat := 32 * 2 ^ s.fld F.galRingSize f n

/-- The galley byte address of ring position z (R147). -/
def Device.ringByte (s : Device) (f n z : Nat) : Nat :=
  galByte f (s.fld F.galRingBase f n + z / 32 % s.ringLines f n) + z % 32

/-- Any voice that reads ring n of forme f (R146, R151). -/
def Device.ringActive (s : Device) (f n : Nat) : Bool :=
  match sfind (s.forme f).ringBusy n with
  | some c => decide (s.cycle ≤ c)
  | none => false

/-- A write of a ring's configuration: w 0 the control word, w 1 RATE (R146, R147). -/
def ringConfigWriteOp (t f n w v : Nat) (s : Device) : CmdOut :=
  let old := s.reg .galRing f n
  let en := bitOf old.toNat 31
  if !(s.formeWritable f t) then refuse s stNotOwner
  else if w = 1 then
    if en then refuse s stBusy
    else if !(validRate v) then refuse s stBadArg
    else done (s.putReg .galRingRate (BitVec.ofNat 32 v) f n)
  else
    let nw : Word := BitVec.ofNat 32 v &&& 0xFFC07FFF
    if en then
      if nw ≠ (old &&& 0x7FFFFFFF) ∨ s.ringActive f n then refuse s stBusy
      else done (s.putReg .galRing nw f n)
    else if 9 < bitsOf v 29 26 ∨ 10 < bitsOf v 25 22 then refuse s stBadArg
    else
      let size := 32 * 2 ^ bitsOf v 29 26
      let base := bitsOf v 14 0
      let clash := bitOf v 31 && (List.range 16).any fun m =>
        m != n && s.flag F.galRingEn f m && overlap base size (s.fld F.galRingBase f m) (s.ringLines f m)
      if base % size ≠ 0 ∨ base < s.segArea f ∨ 32768 < base + size ∨ clash then refuse s stBadArg
      else if !bitOf v 31 then done (s.putReg .galRing nw f n)
      else done (((s.putReg .galRing nw f n).putReg .galRingRd 0 f n).putReg .galRingWr 0 f n)

/-- A RING_STATUS notice (R148, R152, R468). -/
def ringNotice (f n : Nat) (s : Device) : Device :=
  let flags := 8 * b2n (bitOf (s.fld F.galRflag0Ovf f) n) + 4 * b2n (bitOf (s.fld F.galRflag0Under f) n)
    + 2 * b2n (bitOf (s.fld F.galRflag1Deny f) n) + b2n (bitOf (s.fld F.galRflag1Gap f) n)
  s.notice 0x8001 stOk none
    (leBytes 1 f ++ leBytes 1 n ++ leBytes 2 flags ++ leBytes 4 (s.reg .galRingRd f n).toNat
      ++ leBytes 4 (s.reg .galRingWr f n).toNat)

/-- RD moves on to a position; passing a multiple of 2^(NOTIFY+9) sends one notice (R152). -/
def advanceRd (f n pos : Nat) (s : Device) : Device :=
  let rd := (s.reg .galRingRd f n).toNat
  let d := (pos + 2 ^ 32 - rd) % 2 ^ 32
  if d = 0 ∨ 2 ^ 31 ≤ d then s
  else
    let s1 := s.putReg .galRingRd (BitVec.ofNat 32 pos) f n
    let k := s.fld F.galRingNotify f n
    if 1 ≤ k ∧ k ≤ 10 ∧ rd / 2 ^ (k + 9) < (rd + d) / 2 ^ (k + 9) then ringNotice f n s1 else s1

/-- Add to the LATE count of ring n (R148): it saturates at 65,535. -/
def ringLate (f n lines : Nat) (s : Device) : Device :=
  let odd := n % 2 = 1
  if n < 4 then s.addSat (if odd then F.galLate01Odd else F.galLate01Even) lines f (n / 2)
  else s.addSat (if odd then F.galLate27Odd else F.galLate27Even) lines f (n / 2 - 2)

/-- Judge a refill packet as a whole (R148): the first condition that applies decides. -/
def refillOp (p : Refill) (s : Device) : Device :=
  let f := p.forme
  let n := p.ring
  let len := 32 * p.count
  let deny := !(s.flag F.galRingEn f n) || !(s.formeWritable f p.sess) || !p.resvOk || p.count == 0
    || decide (64 < p.count) || p.pos % 32 != 0 || p.data.length != len
  let wr := (s.reg .galRingWr f n).toNat
  let rd := (s.reg .galRingRd f n).toNat
  let dEnd := toSigned 32 (p.pos + len + 2 ^ 32 - wr)
  let dPos := toSigned 32 (p.pos + 2 ^ 32 - wr)
  if deny then ringNotice f n (s.orFld F.galRflag1Deny (2 ^ n) f)
  else if dEnd ≤ 0 then s
  else if dPos ≠ 0 then ringNotice f n (s.orFld F.galRflag1Gap (2 ^ n) f)
  else if (32 * s.ringLines f n : Int) < toSigned 32 (p.pos + len + 2 ^ 32 - rd) then
    ringNotice f n (s.orFld F.galRflag0Ovf (2 ^ n) f)
  else
    let s1 := s.putReg .galRingWr (BitVec.ofNat 32 (p.pos + len)) f n
    let store := (List.range p.count).filter fun q => decide (0 ≤ toSigned 32 (p.pos + 32 * q + 2 ^ 32 - rd))
    let at_ (q : Nat) : Nat := s1.ringByte f n ((p.pos + 32 * q) % 2 ^ 32)
    let s2 := { forAllDo store (fun q t => galleyWritten f (at_ q / 32 % 32768) 1 t) s1 with
      galley := store.foldl (fun g q => cellPuts g (at_ q) (sliceB p.data (32 * q) 32)) s1.galley }
    ringLate f n (p.count - store.length) s2

end Sys2Proof.Machine
end

