-- ==== Sys2Proof/Machine/SeqInstr.lean ====
section
/-! DEFINITION. The 64-bit instructions of the pulse sequencers (R90, R91): their decoded form, the decoder with the
checks of R113 that concern one instruction, and the encoder. -/

namespace Sys2Proof.Machine

/-- A sequencer instruction, decoded. Gains are the 16-bit patterns of R91. -/
inductive SeqInstr where
  | nop
  | block (cls : Nat) (ess colo upol event : Bool) (ec id : Nat)
  | endB
  | yieldB
  | goto (target : Nat)
  | loop (ctr count : Nat)
  | endl (ctr target : Nat)
  | jcond (pol : Bool) (target : Nat)
  | armdLane (lane mask : Nat) (dflt : Bool)
  | armdGate (gate : Nat)
  | wait (announce : Bool) (count : Nat)
  | play (adv : Bool) (voice seg gain : Nat)
  | stream (adv : Bool) (voice ring gain len : Nat)
  | cplay (adv : Bool) (voice segA segB gain : Nat)
  | setf (car freq : Nat)
  | setp (car : Nat) (add : Bool) (phase : Nat)
  | setport (kind value : Nat)
  | strobe
  | mark (bit offset length : Nat)
  | emit (out : Nat)
  | win (adv : Bool) (tones len : Nat)
  | capt (adv : Bool) (len : Nat)
  deriving DecidableEq, Repr

/-- An OP_MODE word that R160 lists. -/
def validMode (v : Nat) : Bool :=
  let mode := v % 4
  let span := v / 16 % 4
  let bspan := v / 256 % 4
  decide (v < 1024) && v / 4 % 4 == 0 && v / 64 % 4 == 0 && bspan != 3 && !(mode == 3 && span == 3)

/-- A lane selector that R103 does not reserve. -/
def validLane (x : Nat) : Bool := decide (x < 1280)

/-- Every field of an instruction lies in its listed range (R91, R113). -/
def SeqInstr.wf : SeqInstr → Bool
  | .nop | .endB | .yieldB | .strobe => true
  | .block cls _ _ _ event ec id => decide (cls < 4) && decide (ec < 256) && decide (id < 65536) && (event || ec == 0)
  | .goto t => decide (t < 32768)
  | .loop c n => decide (c < 4) && decide (1 ≤ n) && decide (n < 2 ^ 24)
  | .endl c t => decide (c < 4) && decide (t < 32768)
  | .jcond _ t => decide (t < 32768)
  | .armdLane l m _ => validLane l && decide (m < 8)
  | .armdGate g => decide (g < 4)
  | .wait _ n => decide (1 ≤ n) && decide (n < 2 ^ 32)
  | .play _ v sg g => decide (v < 16) && decide (sg < 4096) && decide (g < 65536)
  | .stream _ v r g n => decide (v < 16) && decide (r < 16) && decide (g < 65536) && decide (2 ≤ n) && decide (n < 2 ^ 19)
  | .cplay _ v a b g => decide (v < 16) && decide (a < 4096) && decide (b < 4096) && decide (g < 65536)
  | .setf c f => decide (c < 32) && decide (f < 2 ^ 48)
  | .setp c _ p => decide (c < 32) && decide (p < 2 ^ 48)
  | .setport k v =>
    match k with
    | 0 => validMode v
    | 1 => decide (v < 2 ^ 20)
    | 2 => decide (v < 2 ^ 9)
    | _ => false
  | .mark b o n => decide (b < 2) && decide (o < 65536) && decide (1 ≤ n) && decide (n < 2 ^ 24)
  | .emit o => decide (o < 4)
  | .win _ t n => decide (t < 65536) && decide (1 ≤ n) && decide (n < 65536)
  | .capt _ n => decide (2 ≤ n) && decide (n < 2 ^ 32)

/-- The opcode of R90. -/
def SeqInstr.opcode : SeqInstr → Nat
  | .nop => 0x00 | .block .. => 0x01 | .endB => 0x02 | .yieldB => 0x03 | .goto _ => 0x04 | .loop .. => 0x05
  | .endl .. => 0x06 | .jcond .. => 0x07 | .armdLane .. => 0x08 | .armdGate _ => 0x08 | .wait .. => 0x09
  | .play .. => 0x0A | .stream .. => 0x0A | .cplay .. => 0x0B | .setf .. => 0x0C | .setp .. => 0x0D
  | .setport .. => 0x0E | .strobe => 0x0F | .mark .. => 0x10 | .emit _ => 0x11 | .win .. => 0x18 | .capt .. => 0x19

/-- The bits [57:0] of an instruction (R91). -/
def SeqInstr.body : SeqInstr → Nat
  | .nop | .endB | .yieldB | .strobe => 0
  | .block cls ess colo upol event ec id =>
    cls * 2 ^ 56 + b2n ess * 2 ^ 55 + b2n colo * 2 ^ 54 + b2n upol * 2 ^ 53 + b2n event * 2 ^ 51 + ec * 2 ^ 43 + id
  | .goto t => t
  | .loop c n => c * 2 ^ 56 + n
  | .endl c t => c * 2 ^ 56 + t
  | .jcond p t => b2n p * 2 ^ 57 + t
  | .armdLane l m d => l * 2 ^ 46 + m * 2 ^ 43 + b2n d * 2 ^ 42
  | .armdGate g => 2 ^ 57 + g * 2 ^ 46
  | .wait a n => b2n a * 2 ^ 57 + n
  | .play a v sg g => b2n a * 2 ^ 57 + v * 2 ^ 52 + sg * 2 ^ 40 + g * 2 ^ 24
  | .stream a v r g n => b2n a * 2 ^ 57 + 2 ^ 56 + v * 2 ^ 52 + r * 2 ^ 40 + g * 2 ^ 24 + n
  | .cplay a v x y g => b2n a * 2 ^ 57 + v * 2 ^ 52 + x * 2 ^ 40 + y * 2 ^ 28 + g * 2 ^ 12
  | .setf c f => c * 2 ^ 53 + f
  | .setp c a p => c * 2 ^ 53 + b2n a * 2 ^ 52 + p
  | .setport k v => k * 2 ^ 56 + v
  | .mark b o n => b * 2 ^ 57 + o * 2 ^ 32 + n
  | .emit o => o * 2 ^ 56
  | .win a t n => b2n a * 2 ^ 57 + t * 2 ^ 41 + n * 2 ^ 25
  | .capt a n => b2n a * 2 ^ 57 + n

/-- The 64-bit word of an instruction (R91). -/
def SeqInstr.encode (i : SeqInstr) : Nat := i.opcode * 2 ^ 58 + i.body

/-- The instruction that a word's fields spell, its reserved bits not yet checked (R91). -/
def SeqInstr.parse (w : Nat) : Option SeqInstr :=
  let b := bitOf w 57
  match bitsOf w 63 58 with
  | 0x00 => some .nop
  | 0x01 =>
    if bitsOf w 52 51 ≤ 1 then
      some (.block (bitsOf w 57 56) (bitOf w 55) (bitOf w 54) (bitOf w 53) (bitOf w 51) (bitsOf w 50 43) (bitsOf w 15 0))
    else none
  | 0x02 => some .endB
  | 0x03 => some .yieldB
  | 0x04 => some (.goto (bitsOf w 14 0))
  | 0x05 => some (.loop (bitsOf w 57 56) (bitsOf w 23 0))
  | 0x06 => some (.endl (bitsOf w 57 56) (bitsOf w 14 0))
  | 0x07 => some (.jcond b (bitsOf w 14 0))
  | 0x08 =>
    if b then some (.armdGate (bitsOf w 47 46)) else some (.armdLane (bitsOf w 56 46) (bitsOf w 45 43) (bitOf w 42))
  | 0x09 => some (.wait b (bitsOf w 31 0))
  | 0x0A =>
    if bitOf w 56 then some (.stream b (bitsOf w 55 52) (bitsOf w 43 40) (bitsOf w 39 24) (bitsOf w 18 0))
    else some (.play b (bitsOf w 55 52) (bitsOf w 51 40) (bitsOf w 39 24))
  | 0x0B => some (.cplay b (bitsOf w 55 52) (bitsOf w 51 40) (bitsOf w 39 28) (bitsOf w 27 12))
  | 0x0C => some (.setf (bitsOf w 57 53) (bitsOf w 47 0))
  | 0x0D => some (.setp (bitsOf w 57 53) (bitOf w 52) (bitsOf w 47 0))
  | 0x0E => some (.setport (bitsOf w 57 56) (bitsOf w 31 0))
  | 0x0F => some .strobe
  | 0x10 => some (.mark (bitsOf w 57 57) (bitsOf w 47 32) (bitsOf w 23 0))
  | 0x11 => some (.emit (bitsOf w 57 56))
  | 0x18 => some (.win b (bitsOf w 56 41) (bitsOf w 40 25))
  | 0x19 => some (.capt b (bitsOf w 31 0))
  | _ => none

/-- The decoder: the instruction whose fields the word spells, its reserved bits 0 and its fields in range; none where
R113 refuses the word. -/
def SeqInstr.decode (w : Nat) : Option SeqInstr :=
  match SeqInstr.parse w with
  | some i => if i.wf && i.encode == w then some i else none
  | none => none

/-- The instruction is valid for a forme store (kind 0) or an input-group store (kind 1) (R90). -/
def SeqInstr.validFor (kind : Nat) : SeqInstr → Bool
  | .play .. | .stream .. | .cplay .. | .setf .. | .setp .. | .setport .. | .strobe | .mark .. => kind == 0
  | .win .. | .capt .. => kind == 1
  | _ => true

/-- The instruction may advance T (R90): what a loop body needs one of (R113). -/
def SeqInstr.advances : SeqInstr → Bool
  | .wait _ _ => true
  | .play a _ _ _ => a
  | .stream a _ _ _ _ => a
  | .cplay a _ _ _ _ => a
  | .win a _ _ => a
  | .capt a _ => a
  | _ => false

/-- The instruction opens a block. -/
def SeqInstr.isBlock : SeqInstr → Bool
  | .block .. => true
  | _ => false

/-- The instruction closes a block at once (R79). -/
def SeqInstr.closes : SeqInstr → Bool
  | .block .. | .yieldB | .endB => true
  | _ => false

end Sys2Proof.Machine
end

