-- ==== Sys2Proof/Machine/Program.lean ====
section
/-! DEFINITION. Pulse programs as stored: fetching an instruction, the load checks of R113, block energies and played
samples (R87, R301, R547), full-scale power (R161, R162) and energy vectors (R300 to R304). -/

namespace Sys2Proof.Machine

/-! ### The stores (R71) -/

/-- The store of sequencer k: its forme's, or 64 plus its input group's (R71). -/
def storeOf (k : Nat) : Nat := if k < 512 then k / 8 else 64 + (k - 512) / 8

/-- The word at an address of a store; what was never loaded reads 0 (R396). -/
def Device.progWord (s : Device) (st a : Nat) : Nat := sget 0 s.prog (32768 * st + a)

/-- The instruction at an address of a store. -/
def Device.instrAt (s : Device) (st a : Nat) : Option SeqInstr := SeqInstr.decode (s.progWord st a)

/-- The loaded instructions of a store at addresses [lo, hi), in rising order. -/
def Device.loaded (s : Device) (st lo hi : Nat) : List (Nat × SeqInstr) :=
  s.prog.filterMap fun (key, w) =>
    if key / 32768 = st ∧ lo ≤ key % 32768 ∧ key % 32768 < hi then
      (SeqInstr.decode w).map fun i => (key % 32768, i)
    else none

/-- The address is one of the store and holds a BLOCK instruction. -/
def Device.isBlockAt (s : Device) (st a : Nat) : Bool := decide (a < 32768) &&
  match s.instrAt st a with
  | some i => i.isBlock
  | none => false

/-- The last BLOCK at or before an address. -/
def Device.blockOf (s : Device) (st a : Nat) : Option Nat :=
  ((s.loaded st 0 (a + 1)).filter fun x => x.2.isBlock).getLast?.map Prod.fst

/-- No loaded instruction at addresses [lo, hi) has property p. -/
def Device.clearOf (s : Device) (st lo hi : Nat) (p : SeqInstr → Bool) : Bool :=
  (s.loaded st lo hi).all fun x => !(p x.2)

/-- The checks of R113 on branch targets, for the instruction at address a of a store. -/
def Device.targetOk (s : Device) (st a : Nat) (i : SeqInstr) : Bool :=
  match i with
  | .goto t => s.isBlockAt st t || (decide (a < t) && s.clearOf st (a + 1) (t + 1) SeqInstr.isBlock)
  | .jcond _ t => s.isBlockAt st t || (decide (a < t) && s.clearOf st (a + 1) (t + 1) SeqInstr.isBlock)
  | .endl _ t =>
    decide (t < a) && (s.blockOf st a).isSome
      && (if s.isBlockAt st t then s.blockOf st a == some t
          else s.clearOf st t a SeqInstr.closes)
      && (s.loaded st t (a + 1)).any fun x => x.2.advances
  | _ => true

/-! ### Full-scale power (R161, R162) -/

/-- The nominal full-scale power of MODE and SPAN in pW (R161). -/
def nominalPfs (mode span : Nat) : Nat :=
  match mode with
  | 1 => [1000000000, 100000000, 10000000, 1000000].getD span 0
  | 2 => [251188643, 25118864, 2511886, 251189].getD span 0
  | 3 => [20000000000, 5000000000, 1250000000].getD span 0
  | _ => 0

/-- The full-scale power of an OP_MODE word on port p. -/
def Device.pfsOf (s : Device) (p word : Nat) : Nat :=
  let mode := word % 4
  let span := word / 16 % 4
  if mode = 0 then 0 else (sfind s.pfs (16 * p + 4 * mode + span)).getD (nominalPfs mode span)

/-- The OP_MODE words that SETPORT instructions of CSp's span carry (R162). -/
def Device.spanModes (s : Device) (p : Nat) : List Nat :=
  (s.loaded (storeOf p) (s.fld F.csSpanLo p) (s.fld F.csSpanHi p)).filterMap fun x =>
    match x.2 with
    | .setport 0 v => some v
    | _ => none

/-- The largest of a list of numbers. -/
def maxOf (l : List Nat) : Nat := l.foldl max 0

/-- P_FS,p with a given staged OP_MODE word (R162). -/
def Device.pfsWith (s : Device) (p staged : Nat) : Nat :=
  maxOf (((s.port p).mode :: staged :: s.spanModes p).map (s.pfsOf p))

/-- P_FS,p (R162). -/
def Device.pfsPort (s : Device) (p : Nat) : Nat := s.pfsWith p (s.reg .opMode p).toNat

/-! ### Block energy and played samples (R87, R301, R547) -/

/-- The largest 64-bit value, at which sums and products stand (R87). -/
def cap64 : Nat := 2 ^ 64 - 1
def satAdd (a b : Nat) : Nat := min cap64 (a + b)
def satMul (a b : Nat) : Nat := min cap64 (a * b)

/-- E_seg,p for a sum of squares (R142). -/
def segEnergy (sq pfs : Nat) : Nat := ceilDiv (sq * pfs) (16000 * 1073676289)

/-- The energy of a galley PLAY (R87). -/
def Device.playEnergy (s : Device) (p pfs seg gain : Nat) : Nat :=
  ceilDiv (segEnergy (s.seg (p / 8) seg).sq pfs * (toSigned 16 gain).natAbs ^ 2) (2 ^ 30)

/-- What one instruction of port p adds to the block energy (R87). -/
def Device.instrEnergy (s : Device) (p pfs : Nat) : SeqInstr → Nat
  | .play _ _ sg g => s.playEnergy p pfs sg g
  | .cplay _ _ a b g => max (s.playEnergy p pfs a g) (s.playEnergy p pfs b g)
  | .stream _ _ _ _ n => ceilDiv (32 * n * pfs) 16000
  | _ => 0

/-- What one instruction adds to N_act (R301). -/
def Device.instrSamples (s : Device) (p : Nat) : SeqInstr → Nat
  | .play _ _ sg _ => (s.seg (p / 8) sg).len
  | .cplay _ _ a b _ => max (s.seg (p / 8) a).len (s.seg (p / 8) b).len
  | .stream _ _ _ _ n => 32 * n
  | _ => 0

/-- The instructions of the block that opens at an address: those loaded after it, up to the next BLOCK. -/
def Device.blockBody (s : Device) (st a : Nat) : List (Nat × SeqInstr) :=
  (s.loaded st (a + 1) 32768).takeWhile fun x => !x.2.isBlock

/-- The loops of a block (R547): (TARGET, ENDL address, counter). -/
def loopsOf (start : Nat) (body : List (Nat × SeqInstr)) : List (Nat × Nat × Nat) :=
  body.filterMap fun x =>
    match x.2 with
    | .endl c t => if t = start then none else some (t, x.1, c)
    | _ => none

/-- COUNT of a loop's counter: the largest among the block's LOOP instructions, or 16,777,215 (R547). -/
def loopCount (body : List (Nat × SeqInstr)) (ctr : Nat) : Nat :=
  let l := body.filterMap fun x => match x.2 with | .loop c n => if c = ctr then some n else none | _ => none
  if l.isEmpty then 16777215 else maxOf l

/-- The outermost loop that holds address a and is not among those already entered. -/
def outerLoop (loops : List (Nat × Nat × Nat)) (inside : List Nat) (a : Nat) : Option (Nat × Nat × Nat) :=
  loops.foldl (fun best l =>
    if l.1 ≤ a ∧ a ≤ l.2.1 ∧ ¬ inside.contains l.2.1 then
      match best with
      | none => some l
      | some b => if l.2.1 - l.1 > b.2.1 - b.1 then some l else best
    else best) none

/-- The addresses at which paths leave a loop other than by END or YIELD (R547). -/
def loopExits (body : List (Nat × SeqInstr)) (l : Nat × Nat × Nat) : List Nat :=
  (l.2.1 + 1) :: body.filterMap fun x =>
    if l.1 ≤ x.1 ∧ x.1 < l.2.1 then
      match x.2 with
      | .goto t => if l.2.1 < t then some t else none
      | .jcond _ t => if l.2.1 < t then some t else none
      | _ => none
    else none

/-- The largest weight of any path from address a to the end of the block, or, inside a loop being measured, to its
ENDL or out of it (R547). A branch back to the block's own BLOCK or an earlier one ends the block (R79). -/
def pathMax (w : SeqInstr → Nat) (start : Nat) (body : List (Nat × SeqInstr)) (loops : List (Nat × Nat × Nat)) :
    Nat → List Nat → Option (Nat × Nat × Nat) → Nat → Nat
  | 0, _, _, _ => 0
  | fuel + 1, inside, stop, a =>
    let go := pathMax w start body loops fuel
    let outside := match stop with
      | some l => decide (a < l.1) || decide (l.2.1 ≤ a)
      | none => false
    if outside then 0
    else
      match outerLoop loops inside a with
      | some l =>
        let pass := go (l.2.1 :: inside) (some l) l.1
        satAdd (satMul (loopCount body l.2.2) pass) (maxOf ((loopExits body l).map fun x => go inside stop x))
      | none =>
        match body.find? fun x => decide (a ≤ x.1) with
        | none => 0
        | some (b, i) =>
          if b ≠ a then go inside stop b
          else
            match i with
            | .endB | .yieldB | .block .. => 0
            | .goto t => if t ≤ start then 0 else go inside stop t
            | .jcond _ t => max (if t ≤ start then 0 else go inside stop t) (go inside stop (a + 1))
            | i => satAdd (w i) (go inside stop (a + 1))

/-- The largest weight over all paths through the block at address a. -/
def Device.blockWeight (s : Device) (st a : Nat) (w : SeqInstr → Nat) : Nat :=
  let body := s.blockBody st a
  pathMax w a body (loopsOf a body) (4 * body.length * (body.length + 1) + 4) [] none (a + 1)

/-- E of the block at address a of sequencer k (R87); 0 for a read-out sequencer. -/
def Device.blockEnergy (s : Device) (k a : Nat) : Nat :=
  if k < 512 then s.blockWeight (storeOf k) a (s.instrEnergy k (s.pfsPort k)) else 0

/-- N_act of the block (R301). -/
def Device.blockSamples (s : Device) (k a : Nat) : Nat :=
  if k < 512 then s.blockWeight (storeOf k) a (s.instrSamples k) else 0

/-- The entry F[p][j] of the attenuation table (R300). -/
def Device.attn (s : Device) (p j : Nat) : Nat := (s.reg .budAttn p j).toNat

/-- The energy vector of a block of E and N_act on sequencer k (R300 to R302). -/
def Device.vectorOf (s : Device) (k e n : Nat) : List Nat :=
  if k < 512 then
    (List.range 16).map (fun j => ceilDiv (e * s.attn k j) (2 ^ 32)) ++
      [satMul n (s.reg .budEsamp).toNat, satMul n (s.reg .budEsamp).toNat]
  else List.replicate 18 0

/-- The energy vector of the block at an address. -/
def Device.blockVector (s : Device) (k a : Nat) : List Nat :=
  s.vectorOf k (s.blockEnergy k a) (s.blockSamples k a)

/-! ### Ledger figures (R294, R298, R306, R308) -/

/-- H_LIM (R294). -/
def Ledger.hlim (l : Ledger) : Nat := l.c * (l.tlim - l.tbase)
/-- H_LIM_E of DIE; H_LIM of the others (R298). -/
def Ledger.hlimE (l : Ledger) (j : Nat) : Nat := if j = 16 then l.c * (368150 - l.tbase) else l.hlim
/-- DECAY (R294); 0 where H_LIM is 0. -/
def Ledger.decay (l : Ledger) : Nat := if l.hlim = 0 then 0 else 2 ^ 48 * l.pcool / (500 * l.hlim)
/-- S (R294). -/
def Ledger.stat (l : Ledger) : Nat := ceilDiv l.pstat 500
/-- FLOOR (R294); 0 where DECAY is 0. -/
def Ledger.floor (l : Ledger) : Nat := if l.decay = 0 then 0 else ceilDiv ((l.stat + 1) * 2 ^ 48) l.decay

/-- EN of ledger j. -/
def Device.ledOn (s : Device) (j : Nat) : Bool := s.flag F.budCfgEn j

/-- RES_c (R306). -/
def Device.reserve (s : Device) (cls : Nat) : Nat :=
  match cls with
  | 0 => s.fld F.budReserveRes0
  | 1 => s.fld F.budReserveRes1
  | 2 => s.fld F.budReserveRes2
  | _ => 0

/-- lim(j, b) for a block of a class, ESSENTIAL or not (R306). -/
def Device.limit (s : Device) (j cls : Nat) (ess : Bool) : Nat :=
  let l := s.led j
  let top := if j = 16 && ess then l.hlimE j else l.hlim
  top - top * s.reserve cls / 256

/-- A block with this vector can never fit (R308). -/
def Device.infeasible (s : Device) (vec : List Nat) (cls : Nat) (ess : Bool) : Bool :=
  (List.range 18).any fun j =>
    s.ledOn j && decide (0 < vec.getD j 0) && decide (s.limit j cls ess < (s.led j).floor + vec.getD j 0)

end Sys2Proof.Machine
end

