-- ==== Sys2Proof/Machine/TimeBase.lean ====
section
/-! DEFINITION. The time base (spec/02_time_and_registration.md): OFFSET and RATE_ADJ, SYNC capture and
registration, the SYNC monitor and generator, and the alarms. -/

namespace Sys2Proof.Machine

/-- Replace the time base record. -/
def Device.putTb (s : Device) (t : TimeBase) : Device := { s with tb := t }

/-! ### OFFSET and RATE_ADJ (R40 to R46) -/

/-- TB_CTRL.SEAL (R46). -/
def Device.tbSealed (s : Device) : Bool := s.flag F.tbCtrlSeal

/-- Stage word w of OFFSET; word 3 also commits the four words staged at the next cycle (R44, R46). -/
def offsetWrite (w v : Nat) (s : Device) : CmdOut :=
  if s.tbSealed then refuse s stNotOwner
  else
    let staged := listSet s.tb.staged w (v % 2 ^ 32)
    done (s.putTb { s.tb with staged := staged, commit := if w = 3 then some staged else s.tb.commit })

/-- A write of RATE_ADJ, in force from the next cycle (R43, R46). -/
def rateAdjWrite (v : Nat) (s : Device) : CmdOut :=
  if s.tbSealed then refuse s stNotOwner else done (s.putTb { s.tb with rateNext := some (v % 2 ^ 32) })

/-- Four 32-bit words as one value. -/
def words4 (l : List Nat) : Nat :=
  l.getD 0 0 + 2 ^ 32 * l.getD 1 0 + 2 ^ 64 * l.getD 2 0 + 2 ^ 96 * l.getD 3 0

/-- The commit of OFFSET that lands at the start of this cycle (R44); the writes of TB_OFFSET3 of one cycle make one commit (DESIGN
CHOICE, log entry 95). -/
def offsetLand (s : Device) : Device :=
  match s.tb.commit with
  | none => s
  | some l =>
    ((s.putTb { s.tb with commit := none, offset := words4 l }).setFlag F.tbStatusStep).addFld F.tbStepcount 1

/-- The change of RATE_ADJ that lands at the start of this cycle, with OFFSET compensated (R43); it comes after a
commit of the same cycle (R44). -/
def rateLand (s : Device) : Device :=
  match s.tb.rateNext with
  | none => s
  | some v =>
    let adj : Int := (s.sampleCount : Int) * (s.rateAdj - toSigned 32 v) * 2 ^ 16 / 16000000000
    (s.putTb { s.tb with rateNext := none, offset := (((s.tb.offset : Int) + adj) % 2 ^ 128).toNat }).putReg
      .tbRateAdj (BitVec.ofNat 32 v)

/-! ### TB_CTRL (R46, R49, R51, R52, R546) -/

/-- Any sequencer PENDING, RUNNING or LEADING among those that were ever started. -/
def Device.anyRunning (s : Device) : Bool :=
  s.seqs.any fun (k, _) => let st := s.fld F.csStatusState k; st == 1 || st == 2 || st == 3

/-- Any alarm is enabled, one whose ENABLE was written in this cycle included (DESIGN CHOICE, log entry 96). -/
def Device.anyAlarm (s : Device) : Bool := (List.range 16).any fun n => s.flag F.tbTaCtrlEnable n

/-- The conditions that refuse a write that sets SYNC_ARM (R51). -/
def Device.armBusy (s : Device) : Bool := s.anyRunning || s.anyAlarm || !s.eng.timed.isEmpty

/-- SYNC_ARM set: REG_STATE becomes ARMED and the former state is kept (R51, R52). -/
def armSync (s : Device) : Device :=
  (s.putTb { s.tb with armCycle := some s.cycle, former := s.fld F.tbStatusRegState }).setFld
    F.tbStatusRegState 1

/-- SYNC_ARM cleared by the host: the former REG_STATE comes back. -/
def disarmSync (s : Device) : Device :=
  (s.putTb { s.tb with armCycle := none }).setFld F.tbStatusRegState s.tb.former

/-- A link port that is up in the peer role (R58): LSTATE 3 UP and ROLE 1. -/
def Device.peerUp (s : Device) (p : Nat) : Bool := s.fld F.lkPstatLstate p == 3 && s.flag F.lkPctlRole p

/-- Start the link check on every port that is up in the peer role (R58); a check under way begins anew, and the results of a port
that is skipped stay (DESIGN CHOICE, log entry 98). -/
def startCheck (s : Device) : Device :=
  s.putTb { s.tb with
    check := ((List.range 8).filter s.peerUp).map fun p => (p, ({ } : LinkCheck))
    checkAt := some s.cycle }

/-- The index of the generated pulse lies in this word, in GENERATE mode (R49). -/
def Device.genDue (s : Device) : Bool :=
  s.fld F.tbCtrlSyncOutMode == 2 &&
    (let x := s.reg64 .tbSyncGenLo .tbSyncGenHi; decide (s.ssi ≤ x) && decide (x < s.ssi + 32))

/-- SYNC_OUT rises at TB_SYNC_GEN (R49). -/
def syncGenOp (s : Device) : Device :=
  if s.genDue then s.putTb { s.tb with pulse := some (s.reg64 .tbSyncGenLo .tbSyncGenHi) } else s

/-- After a write of the mode or the index of SYNC_OUT, which lands at the start of the cycle (R24): a pulse of this word stands
only where the word holds the index now written. -/
def syncGenLand (s : Device) : Device :=
  let past := s.tb.pulse.filter fun r => decide (r < s.ssi) || decide (s.ssi + 32 ≤ r)
  syncGenOp (s.putTb { s.tb with pulse := past })

/-- A write of TB_CTRL (R46, R49, R51, R52, R58, R546); a SYNC_ARM that a capture of this cycle has
cleared stays clear (R24). A reserved SYNC_OUT_MODE is judged before the sealed field (DESIGN CHOICE, log entry 93). -/
def tbCtrlWrite (v : Nat) (s : Device) : CmdOut :=
  let armed := s.flag F.tbCtrlSyncArm
  let arm := if getField (sget 0 s.hwNow (RegName.addr .tbCtrl)) 0 0 = 1 then armed else bitOf v 0
  if bitsOf v 5 4 = 3 then refuse s stBadArg
  else if s.tbSealed && !bitOf v 8 then refuse s stNotOwner
  else if arm && !armed && s.armBusy then refuse s stBusy
  else
    let w := putField (putField (putField (putField 0 8 8 (b2n (bitOf v 8))) 7 7 (b2n (bitOf v 7))) 5 4
      (bitsOf v 5 4)) 0 0 (b2n arm)
    let s1 := s.putReg .tbCtrl w
    let s2 := if arm && !armed then armSync s1 else if !arm && armed then disarmSync s1 else s1
    done (syncGenLand (if bitOf v 1 then startCheck s2 else s2))

/-! ### SYNC edges (R48 to R53, R62) -/

/-- The instant of the reference plane's SYNC in 1/256 sample of the local count (R52). -/
def Device.tRef (s : Device) (stamp : Nat) : Int := (stamp : Int) - toSigned 32 (s.reg .tbSyncDelay).toNat

/-- W and d that a capture computes (R52). -/
def Device.captureOf (s : Device) (stamp : Nat) : Int × Nat :=
  let sysofs : Int := (s.reg64 .tbEpochLo .tbEpochHi : Int) * 256 - s.tRef stamp
  let d := (-sysofs) % 8192
  ((sysofs + d) / 8192, d.toNat)

/-- Capture a SYNC edge: W and d wait for their word and SYNC_ARM clears (R52, R53). -/
def captureSync (stamp : Nat) (s : Device) : Device :=
  let (w, d) := s.captureOf stamp
  (s.putTb { s.tb with waiting := some (w, d, stamp / 256 + 2048), armCycle := none }).setFld F.tbCtrlSyncArm 0

/-- The monitor's error in 1/256 sample: the signed difference from the nearest multiple of the period after the
epoch; at equal distance either one, a free value (R62). -/
def Device.syncError (s : Device) (stamp : Nat) : Int :=
  let x : Int := s.tRef stamp - s.tb.d + 8192 * s.tb.W
  let p : Int := (s.reg .tbSyncPer).toNat * 256
  let r := (x - (s.reg64 .tbEpochLo .tbEpochHi : Int) * 256) % p
  if 2 * r < p then r else if 2 * r = p then (if Config.free s.free % 2 = 0 then r else r - p) else r - p

/-- Measure a SYNC edge that is not captured (R62); TB_SYNCMON_ERR holds the error modulo 2^32, and the threshold is judged on the
whole error (DESIGN CHOICE, log entry 99). -/
def monitorSync (stamp : Nat) (s : Device) : Device :=
  let e := s.syncError stamp
  let s1 := ({ s with free := s.free + 1 }).putReg .tbSyncmonErr (BitVec.ofInt 32 e)
  if 64 ≤ e.natAbs then (s1.setFlag F.tbStatusSyncDrift).presentNow (evCode 0 1 2) else s1

/-- The edge is captured: SYNC_ARM is set and its stamp lies in a cycle after the arming one (R52). -/
def Device.captures (s : Device) (stamp : Nat) : Bool :=
  s.flag F.tbCtrlSyncArm && (match s.tb.armCycle with
    | some a => decide (a < stamp / 256 / 32)
    | none => false)

/-- A rising edge at SYNC_IN, stamped in 1/256 sample of SAMPLECOUNT, followed by a high level of the given length in
1/256 sample (R48, R50, R52, R62). -/
def syncEdgeOp (stamp high : Nat) (s : Device) : Device :=
  let short := decide (high < 256 * 256)
  let fast := match s.tb.lastEdge with
    | some l => decide (stamp < l + 16000 * 256)
    | none => false
  if short || fast then
    onlyIf fast (fun s => s.setFlag F.tbStatusSyncFast) (onlyIf short (fun s => s.setFlag F.tbStatusSyncShort) s)
  else
    let s1 := s.putTb { s.tb with lastEdge := some stamp }
    if s.captures stamp then captureSync stamp s1
    else if (s.reg .tbSyncPer) ≠ 0 ∧ (s.fld F.tbStatusRegState = 2 ∨ s.fld F.tbStatusRegState = 3) then
      monitorSync stamp s1
    else s1

/-- The total kerning before the clamp, in 1/256 sample (R177). -/
def Device.kernRaw (s : Device) (p : Nat) : Int :=
  (s.tb.d : Int) + toSigned 14 (s.port p).skew + toSigned 14 (s.port p).trim

/-- The total kerning as applied (R177). -/
def Device.kern (s : Device) (p : Nat) : Nat := (clampI 0 16383 (s.kernRaw p)).toNat

/-- Set KERN_CLAMP of a port whose kerning is clamped (R177). -/
def kernFlag (p : Nat) (s : Device) : Device :=
  if s.kernRaw p = (s.kern p : Int) then s else s.setFlag F.opStatusKernClamp p

/-- The first word at which W and d apply is here (R53). -/
def Device.registrationDue (s : Device) : Bool :=
  match s.tb.waiting with
  | some (_, _, x) => decide (x ≤ s.sampleCount)
  | none => false

/-- The new W and d take effect together (R53, R54); the event is stamped at the first sample of the word (DESIGN CHOICE, log entry
101). -/
def registrationOp (s : Device) : Device :=
  match s.tb.waiting with
  | none => s
  | some (w, d, x) =>
    if x ≤ s.sampleCount then
      let s1 := (s.putTb { s.tb with W := w, d := d, waiting := none }).setFld F.tbStatusRegState 2
      (forAllDo (s1.ports.map Prod.fst) kernFlag s1).presentNow (evCode 0 1 0)
    else s

/-- The delay of REPEAT in samples (R49). -/
def syncRepeatDelay : Nat := 24

/-- The level of REFCLK_OUT, given the level at REFCLK_IN (R49). -/
def Device.refclkOut (s : Device) (refclkIn : Bool) : Bool := s.flag F.tbCtrlRefclkOutEn && refclkIn

/-- The level of SYNC_OUT at a system index, given the levels at SYNC_IN by index (R49): in REPEAT that of 24 samples before. -/
def Device.syncOut (s : Device) (syncIn : Nat → Bool) (x : Nat) : Bool :=
  match s.fld F.tbCtrlSyncOutMode with
  | 1 => syncIn (x - syncRepeatDelay)
  | 2 => match s.tb.pulse with
    | some r => decide (r ≤ x) && decide (x < r + 1024)
    | none => false
  | _ => false

/-! ### Alarms (R63 to R66) -/

/-- The index of alarm n as it stood at the start of the cycle. -/
def Device.alarmIndexF (s : Device) (n : Nat) : Nat :=
  (s.regF .tbTaLo n).toNat + 2 ^ 32 * (s.regF .tbTaHi n).toNat

/-- Alarm n fires in this cycle: none, on time, or late in its arming cycle (R63, R65, R66); an index that a registration's change of
W jumps over, outside the arming cycle, does not fire (DESIGN CHOICE, log entry 100). -/
def Device.alarmFires (s : Device) (n : Nat) : Option Bool :=
  if s.fldF F.tbTaCtrlEnable n = 0 then none
  else
    let x := s.alarmIndexF n
    if s.ssi ≤ x ∧ x < s.ssi + 32 then some false
    else if x < s.ssi ∧ sfind s.tb.alarmCycle n = some s.cycle then some true
    else none

/-- The next index of a periodic alarm: the series index after x, or the first that lies in a later cycle (R65). -/
def Device.alarmNext (s : Device) (x per : Nat) (late : Bool) : Nat :=
  if late then x + per * ceilDiv (s.ssi + 32 - x) per else x + per

/-- Whether the index of alarm n was written in this cycle (R66). -/
def Device.alarmRewritten (s : Device) (n : Nat) : Bool :=
  (sfind s.former (RegName.addr .tbTaLo n)).isSome || (sfind s.former (RegName.addr .tbTaHi n)).isSome

/-- Alarm n fires: its event, FIRED, and the next index or ENABLE clear (R63, R65, R66). -/
def alarmFireOp (n : Nat) (s : Device) : Device :=
  match s.alarmFires n with
  | none => s
  | some late =>
    let x := s.alarmIndexF n
    let per := (s.regF .tbTaPer n).toNat
    let s1 := (s.present (evCode 1 n 0) (if late then s.ssi else x) late).setFlag F.tbTaCtrlFired n
    if per = 0 then s1.setFld F.tbTaCtrlEnable 0 n
    else if s1.alarmRewritten n then s1
    else s1.put64 .tbTaLo .tbTaHi (s1.alarmNext x per late % 2 ^ 64) n

/-- A write of word w of alarm n: 0 LO, 1 HI, 2 PER, 3 CTRL (R64, R65). The caller has kept the former values. -/
def alarmWriteOp (n w v : Nat) (s : Device) : CmdOut :=
  let pend (s : Device) : Device := s.putTb { s.tb with alarmPend := s.tb.alarmPend ++ [n] }
  match w with
  | 0 => done (pend (s.putReg .tbTaLo (BitVec.ofNat 32 v) n))
  | 1 => done (pend (s.putReg .tbTaHi (BitVec.ofNat 32 v) n))
  | 2 => if 1 ≤ v ∧ v < 32 then refuse s stBadArg else done (s.putReg .tbTaPer (BitVec.ofNat 32 v) n)
  | _ =>
    let a := RegName.addr .tbTaCtrl n
    let hw := sget 0 s.hwNow a
    let old := s.reg .tbTaCtrl n
    let fired := getField old 1 1 * (1 - (if getField hw 1 1 = 1 then 0 else b2n (bitOf v 1)))
    let en := if getField hw 0 0 = 1 then getField old 0 0 else b2n (bitOf v 0)
    let s1 := s.putReg .tbTaCtrl (BitVec.ofNat 32 (2 * fired + en)) n
    done (if en = 1 then pend s1 else s1)

/-- At the start of a cycle, the alarms written in the cycle before get it as their arming cycle (R65). -/
def alarmLand (s : Device) : Device :=
  s.putTb { s.tb with
    alarmCycle := s.tb.alarmPend.foldl (fun m n => sput m n s.cycle) s.tb.alarmCycle
    alarmPend := [] }

end Sys2Proof.Machine
end

