-- ==== Sys2Proof/Machine/Output.lean ====
section
/-! DEFINITION. Voices, carriers, markers, load strobes and the output ports (spec/04_waveform_synthesis.md R117 to
R126, R144 to R157; spec/05_output_ports.md). A cycle's sample word is formed when the cycle ends. -/

namespace Sys2Proof.Machine

/-! ### Carriers (R125, R126) -/

/-- A carrier at a system index n of the current word, given its state at the word's first sample: FREQ, FREQ(n − 1), OFS, PHMODE,
and ACC in CONT mode. -/
structure CarAt where
  freq : Nat
  was : Nat
  ofs : Nat
  cont : Bool
  acc : Nat
  n : Nat
  deriving DecidableEq, Repr

/-- The carrier at the first sample of the current word. -/
def Device.carStart (s : Device) (f c : Nat) : CarAt :=
  let k := s.carrier f c
  ⟨k.freq, k.freq, k.ofs, k.cont, (k.acc + k.freq * (s.sampleCount - k.accAt)) % 2 ^ 48, s.ssi⟩

/-- The carrier moved on to a later index without a change. -/
def CarAt.moveTo (k : CarAt) (x : Nat) : CarAt :=
  { k with acc := (k.acc + k.freq * (x - k.n)) % 2 ^ 48, was := if k.n < x then k.freq else k.was, n := x }

/-- One carrier write at its index (R126). -/
def applyChange (k0 : CarAt) (g : Change) : CarAt :=
  let k := k0.moveTo g.index
  if g.ofs then { k with ofs := if g.add then (k.ofs + g.value) % 2 ^ 48 else g.value }
  else
    match g.mode with
    | none => { k with freq := g.value }
    | some cont => { k with
        freq := g.value, cont := cont
        acc := if cont && !k.cont then k.was * g.index % 2 ^ 48 else k.acc }

/-- The carrier at index n of the current word: the writes with an index not later than n applied in order (R93,
R126). -/
def Device.carAt (s : Device) (f c n : Nat) : CarAt :=
  (((s.forme f).changes.filter fun g => g.car == c && decide (g.index ≤ n)).foldl applyChange (s.carStart f c)).moveTo n

/-- theta(n) of a carrier (R125). -/
def Device.theta (s : Device) (f c n : Nat) : Nat :=
  let k := s.carAt f c n
  ((if k.cont then k.acc else k.freq * n) + k.ofs) % 2 ^ 48

/-- The order of two carrier writes (R24, R93, R126). -/
def Change.before (a b : Change) : Bool :=
  decide (a.index < b.index) ||
    (a.index == b.index && (decide (a.rank < b.rank) || (a.rank == b.rank && decide (a.owner ≤ b.owner))))

/-- Insert a carrier write in order. -/
def insertChange (g : Change) : List Change → List Change
  | [] => [g]
  | h :: t => if h.before g then h :: insertChange g t else g :: h :: t

/-- Add a carrier write to a forme. -/
def addChange (f : Nat) (g : Change) (s : Device) : Device :=
  s.updForme f fun x => { x with changes := insertChange g x.changes }

/-- At the end of a word the carriers take its writes in. -/
def carrierLand (f : Nat) (s : Device) : Device :=
  let cs := ((s.forme f).changes.map Change.car).eraseDups
  let s1 := forAllDo cs (fun c t =>
    let k := s.carAt f c (s.ssi + 32)
    t.putCarrier f c ⟨k.freq, k.ofs, k.cont, k.acc, s.sampleCount + 32⟩) s
  s1.updForme f fun x => { x with changes := [] }

/-- A write of FM_CARc_FREQ_HI by session t: it commits FREQ and PHMODE (R126, R498). -/
def carFreqCommitOp (t f c v : Nat) (s : Device) : CmdOut :=
  if !(s.formeWritable f t) then refuse s stNotOwner
  else
    let freq := (s.reg .fmCarFreqLo f c).toNat + 2 ^ 32 * bitsOf v 15 0
    done (addChange f ⟨s.ssi, 0, 0, c, false, false, some (bitOf v 16), freq⟩ s)

/-- A write of FM_CARc_OFS_HI by session t: it commits OFS (R126, R498). -/
def carOfsCommitOp (t f c v : Nat) (s : Device) : CmdOut :=
  if !(s.formeWritable f t) then refuse s stNotOwner
  else
    let ofs := (s.reg .fmCarOfsLo f c).toNat + 2 ^ 32 * bitsOf v 15 0
    done (addChange f ⟨s.ssi, 0, 0, c, true, false, none, ofs⟩ s)

/-! ### Stagings and strobes (R169 to R178) -/

/-- Stage a value of port p at an index (R169). -/
def stage (p index kind value : Nat) (s : Device) : Device :=
  let s1 := s.updPort p fun q => { q with staged := q.staged ++ [⟨index, kind, value⟩] }
  match kind with
  | 0 => s1.putReg .opMode (BitVec.ofNat 32 value) p
  | 1 => s1.putReg .opBias (BitVec.ofNat 32 value) p
  | 2 => s1.putReg .opBind (BitVec.ofNat 32 (value % 32)) p (value / 32)
  | 3 => s1.putReg .opTrim (BitVec.ofNat 32 value) p
  | _ => s1

/-- The length of a safe interval, t_SPAN, which is also that of the entry to MUTE (R172, R176, R180); an immediate setting waits for
nothing (R171, R180). -/
def tSpan : Nat := 768

/-- The setting that the output stage gives effect to: the mode word once the forme is LIVE, else MUTE (R174, R175). In MUTE SPAN is
ignored (R160). -/
def effMode (word : Nat) (live : Bool) : Nat := if live && word % 4 != 0 then word else word / 256 % 4 * 256

/-- One staged value taken into the settings in force. -/
def takeStaging (q : Port) (g : Staging) : Port :=
  match g.kind with
  | 0 => { q with mode := g.value }
  | 1 => { q with bias := g.value }
  | 2 => { q with bind := listSet q.bind (g.value / 32) (g.value % 32) }
  | 3 => { q with trim := g.value }
  | _ => { q with skew := g.value }

/-- The whole-sample part of the kerning of a port record, for a registration delay d (R177). -/
def wholeKern (d : Nat) (q : Port) : Int :=
  (clampI 0 16383 ((d : Int) + toSigned 14 q.skew + toSigned 14 q.trim)) / 256

/-- A strobe at x on one port: the values staged at an index not later than x come into force, and a change of MODE,
SPAN, BSPAN or whole-sample kerning starts or extends a safe interval (R95, R171 to R175, R548). -/
def strobePort (d x : Nat) (wasLive isLive : Bool) (q : Port) : Port :=
  let due := q.staged.filter fun g => decide (g.index ≤ x)
  let q1 := { due.foldl takeStaging q with staged := q.staged.filter fun g => decide (x < g.index), muted := false }
  let oe := effMode q.mode (wasLive && !q.muted)
  let ne := effMode q1.mode isLive
  let span := oe != ne || decide (wholeKern d q ≠ wholeKern d q1)
  let hold := oe % 4 != ne % 4 || oe / 256 % 4 != ne / 256 % 4
  let q2 := if q1.bias ≠ q.bias then { q1 with biasFrom := x } else q1
  if !span then q2
  else
    match q.safe with
    | some g =>
      if x < g.stop then
        let e := max g.stop (x + tSpan)
        { q2 with safe := some { g with stop := e, hold := g.hold || hold, counts := e } }
      else { q2 with safe := some ⟨x, x + tSpan, oe, oe % 4 == 0, hold, x + tSpan, false⟩ }
    | none => { q2 with safe := some ⟨x, x + tSpan, oe, oe % 4 == 0, hold, x + tSpan, false⟩ }

/-- LIVE as port p's output stage sees it at n: a MUTE_ALL that has not reached it yet leaves it as it was (R176). -/
def Device.liveAt (s : Device) (p n : Nat) : Bool :=
  s.flag F.fmOutenLive (p / 8) || (match (s.port p).muteAt with | some (x, l) => l && decide (n < x) | none => false)

/-- What a strobe may not change in a calibration slot (R358): MODE, SPAN, BSPAN and whole-sample kerning. -/
def slotSetting (d : Nat) (q : Port) (live : Bool) : Nat × Nat × Nat × Int :=
  (effMode q.mode (live && !q.muted) % 4, q.mode / 16 % 4, q.mode / 256 % 4, wholeKern d q)

/-- Apply a strobe's values to the eight ports of forme f at x (R95, R175); a change of MODE, SPAN, BSPAN or whole-sample
kerning ends the port's calibration slot (R358), and a new kerning is judged for KERN_CLAMP (R177). -/
def strobeValues (f x : Nat) (s : Device) : Device :=
  let on := s.flag F.fmOutenLive f || s.flag F.fmOutenEnabled f
  forAllDo (List.range 8) (fun m t =>
    let p := 8 * f + m
    let q := t.port p
    let live := s.liveAt p x
    let now := live || on
    let t1 := t.updPort p (strobePort t.tb.d x live now)
    let q1 := t1.port p
    let t2 := if q1.trim = q.trim ∧ q1.skew = q.skew then t1 else kernFlag p t1
    if slotSetting t.tb.d q1 now = slotSetting t.tb.d q live then t2 else endSlots p x t2)
    (if on then s.setFld F.fmOutenLive 1 f else s)

/-- A load strobe of forme f at x; several requests at one index make one strobe (R95, R170). -/
def strobe (f x : Nat) (s : Device) : Device :=
  let again := s.fld F.fmStrobecnt f ≠ 0 ∧ s.reg64 .fmLaststrobeLo .fmLaststrobeHi f = x
  let s1 := if again then s else
    ((s.addFld F.fmStrobecnt 1 f).put64 .fmLaststrobeLo .fmLaststrobeHi x f).present (evCode 5 f 5) x
  strobeValues f x s1

/-- A write of FM_STROBE by session t (R170, R498): GO makes a strobe at the first sample of this cycle. -/
def formeStrobeOp (t f v : Nat) (s : Device) : CmdOut :=
  if !(s.formeWritable f t) then refuse s stNotOwner
  else if bitOf v 0 then
    done (strobe f s.ssi { s with struck := if s.struck.contains f then s.struck else s.struck ++ [f] })
  else done s

/-- A write of OP_MODE by session t (R160, R163, R169). -/
def opModeOp (t p v : Nat) (s : Device) : CmdOut :=
  let st := s.fld F.csStatusState p
  if !(s.seqWritable p t) then refuse s stNotOwner
  else if !(validMode (v % 2 ^ 32 &&& 0x333)) then refuse s stBadArg
  else if (st = 1 ∨ st = 2 ∨ st = 3) ∧ s.pfsPort p < s.pfsWith p (v &&& 0x333) then refuse s stBusy
  else done (stage p s.ssi 0 (v &&& 0x333) s)

/-- OUTPUT_ENABLE by session t (R175, R498): ENABLED of each forme of the mask. -/
def outputEnableOp (t mask : Nat) (s : Device) : CmdOut :=
  let fs := bitsSet 64 mask
  if !(fs.all fun f => s.formeWritable f t) then refuse s stNotOwner
  else done (forAllDo fs (fun f s => s.setFld F.fmOutenEnabled 1 f) s)

/-- MUTE_ALL reaches a port at x (R176): a port not in MUTE starts a safe interval with V_bias at 0 V, whose dropped words set no
SPANCUT, and is in MUTE after it; one that is still in MUTE, leaving it or not, stays there; staged values stay staged. -/
def mutePort (x : Nat) (live : Bool) (q : Port) : Port :=
  let oe := effMode q.mode (live && !q.muted)
  let q1 := { q with muteAt := none, muted := true }
  match q.safe with
  | some g =>
    if g.stop ≤ x then (if oe % 4 = 0 then q1 else { q1 with safe := some ⟨x, x + tSpan, oe, false, true, 0, false⟩ })
    else if g.outMuted then q1
    else { q1 with safe := some { g with stop := max g.stop (x + tSpan), hold := true } }
  | none => if oe % 4 = 0 then q1 else { q1 with safe := some ⟨x, x + tSpan, oe, false, true, 0, false⟩ }

/-- A MUTE_ALL reaches the ports at sample n. -/
def muteReach (n : Nat) (s : Device) : Device :=
  forAllDo ((s.ports.filter fun (x : Nat × Port) => match x.2.muteAt with | some (m, _) => m == n | none => false).map Prod.fst)
    (fun p t => t.updPort p (mutePort n (match (t.port p).muteAt with | some (_, l) => l | none => false))) s

/-- MUTE_ALL on every forme, whatever its owner (R176, R467): ENABLED and LIVE clear, and each port is reached at the first sample that
the command can reach. -/
def muteAllState (s : Device) : Device :=
  let x := s.reach
  let s1 := forAllDo (s.ports.map Prod.fst) (fun p t =>
    t.updPort p fun q => { q with muteAt := some (match q.muteAt with | some m => m | none => (x, t.flag F.fmOutenLive (p / 8))) })
    (forAllDo (List.range 512) (fun p t => endSlots p x t) s)
  forAllDo (List.range 64) (fun f t => (t.setFld F.fmOutenEnabled 0 f).setFld F.fmOutenLive 0 f) s1

/-- A safe interval that has run out ends (R172, R548): the new setting is in force, and the bias DAC starts toward
its code where V_bias was held. -/
def safeEnd (p : Nat) (s : Device) : Device :=
  let q := s.port p
  match q.safe with
  | none => s
  | some g =>
    if g.stop ≤ s.ssi then
      s.putPort p { q with
        safe := none
        biasFrom := if g.hold then g.stop else q.biasFrom }
    else s

/-! ### Voices (R94, R117 to R120, R144, R149 to R151) -/

/-- The index at which a play of a port ends: its length, a later play of its voice (R94), or a stop. -/
def Voice.finish (v : Voice) (later : List Voice) : Nat :=
  let ends := (v.start + v.len) :: (later.filter fun w => w.voice == v.voice).map Voice.start ++ v.stopAt.toList
  ends.foldl min (v.start + v.len)

/-- The plays of a port with their ends, in issue order. -/
def withEnds : List Voice → List (Voice × Nat)
  | [] => []
  | v :: t => (v, v.finish t) :: withEnds t

/-- The voice units playing at index x among other plays (R120). -/
def unitsAt (x : Nat) (l : List (Voice × Nat)) : Nat :=
  (l.map fun (v, e) => if v.judged && v.sounds && decide (v.start ≤ x) && decide (x < e) then voiceUnits v.rate else 0).sum

/-- UNDERRUN of port p's sequencer and its galley (R88, R144, R150), with the event at the first sample affected. -/
def underrun (p x : Nat) (s : Device) : Device :=
  let s1 := ((s.setFlag F.csStatusUnderrun p).setFlag F.galStatusUnderrun (p / 8)).present (evCode 5 (p / 8) 2) x
  (s1.present (evCode 2 p 6) x).updSeq p fun q =>
    let hit (b : Blk) : Blk :=
      if b.start ≤ x && (match b.stop with | some e => decide (x < e) | none => true) then { b with underrun := true } else b
    { q with blk := q.blk.map hit, ending := q.ending.map hit }

/-- The first output sample that needs line q of a stream play (R150). -/
def lineNeeded (x q kind rate : Nat) : Nat := x + ceilDiv ((q * perLine kind - 8) * rateD rate) (2 ^ 24)

/-- The first output sample that a missing line q leaves without its voice (R150, R157): the sample that first needs it, and at
RATE 0, where the resampler is bypassed (R131), the line's first own sample (DEDUCED). -/
def lineAffects (x q kind rate : Nat) : Nat := if rate = 0 then x + q * perLine kind else lineNeeded x q kind rate

/-- The cycle that holds the read point of sample n is here or past (R121). -/
def Device.readHere (s : Device) (n : Nat) : Bool := decide (n < s.ssi + 672)

/-- Judge a play at its read point (R120, R144, R149, R151): answers the play judged. -/
def judgeVoice (p : Nat) (others : List (Voice × Nat)) (v : Voice) (s : Device) : Voice × Device :=
  let f := p / 8
  let base := { v with judged := true }
  let rate := if v.stream then (s.reg .galRingRate f v.seg).toNat else (s.seg f v.seg).rate
  let kind := if v.stream then s.fld F.galRingKind f v.seg else (s.seg f v.seg).kind
  let m := if v.stream then envSamples v.len rate else (s.seg f v.seg).m
  if 16 < unitsAt v.start others + voiceUnits rate then
    (base, (s.setFlag F.galStatusVoiceOver f).present (evCode 5 f 1) v.start)
  else if v.stream then
    if (match sfind (s.forme f).ringBusy v.seg with | some c => decide (s.cycle < c) | none => false) then
      (base, (s.setFlag F.galStatusRingclash f).present (evCode 5 f 3) v.start)
    else
      let lines := ceilDiv m (perLine kind)
      let lastCycle := s.cycleOf (lineNeeded v.start (lines - 1) kind rate - 640)
      ({ base with sounds := true, rate := rate, kind := kind, m := m, base := (s.reg .galRingRd f v.seg).toNat,
                   lines := lines },
       s.updForme f fun x => { x with ringBusy := sput x.ringBusy v.seg lastCycle })
  else if (s.seg f v.seg).state = 3 then
    ({ base with sounds := true, rate := rate, kind := kind, m := m, base := galByte f ((s.seg f v.seg).home + 1) }, s)
  else (base, underrun p v.reach s)

/-- Read the next line of a stream play (R149, R150): its data, or missing; RD passes it. -/
def readLine (p : Nat) (v : Voice) (s : Device) : Voice × Device :=
  let f := p / 8
  let pos := (v.base + 32 * v.nextLine) % 2 ^ 32
  let here := decide (toSigned 32 (pos + 32 + 2 ^ 32 - (s.reg .galRingWr f v.seg).toNat) ≤ 0)
  let w := s.galWord f (s.ringByte f v.seg pos / 32 % 32768)
  let (bad, s0) := if here then sramAccess w.1 f w.2 s else (false, s)
  let stored := here && !bad
  let v1 := if stored then { v with data := sput v.data v.nextLine (cellGets s.galley (s.ringByte f v.seg pos) 32) }
    else { v with missing := v.missing ++ [v.nextLine] }
  let s1 := if stored then s0
    else underrun p (max v.reach (lineAffects v.start v.nextLine v.kind v.rate)) (s0.orFld F.galRflag0Under (2 ^ v.seg) f)
  ({ v1 with nextLine := v.nextLine + 1 }, advanceRd f v.seg (pos + 32) s1)

/-- Read every line whose read point is here or past and which a sample before e, the play's end, needs (R150); at most fuel of
them. -/
def readLines (p e : Nat) : Nat → Voice → Device → Voice × Device
  | 0, v, s => (v, s)
  | n + 1, v, s =>
    let need := lineNeeded v.start v.nextLine v.kind v.rate
    if v.stream && v.sounds && decide (v.nextLine < v.lines) && decide (need < e) && s.readHere need then
      let (v1, s1) := readLine p v s
      readLines p e n v1 s1
    else (v, s)

/-- Envelope sample k of a play as it was read. -/
def Voice.env (v : Voice) (s : Device) (k : Nat) : Int × Int :=
  if v.stream then
    let d := sget [] v.data (k / perLine v.kind)
    let o := k % perLine v.kind * sampleBytes v.kind
    (toSigned 16 (fieldB d o 2), if v.kind = 0 then toSigned 16 (fieldB d (o + 2) 2) else 0)
  else envAt s.galley v.base v.kind k

/-- The resampled sample of a play at index n, with its clamps; none where it touches a missing line (R130, R150). -/
def Voice.sample (v : Voice) (s : Device) (n : Nat) : Option (Int × Int × Bool × Bool) :=
  let j := n - v.start
  if (touches v.m v.rate j).any fun k => v.missing.contains (k / perLine v.kind) then none
  else
    let (i, ci) := resample (fun k => (v.env s k).1) v.m v.rate j
    let (q, cq) := if v.kind = 0 then resample (fun k => (v.env s k).2) v.m v.rate j else (0, false)
    some (i, q, ci, cq)

/-- Resample a play's samples from lo on whose read point is here or past (R121). -/
def fillPipe (lo : Nat) (v : Voice) (s : Device) : Voice :=
  let ns := (List.range (s.ssi + 672 - lo)).filterMap fun d => if lo + d < v.start + v.len then some (lo + d) else none
  { v with pipe := v.pipe ++ ns.map fun n => (n, v.sample s n) }

/-- The galley lines with errors that play v of forme f reads for its samples of the current read points, from lo on and before e: each
with its place in the play and the first of those samples (R150, R374). -/
def Device.unsoundLines (s : Device) (f lo e : Nat) (v : Voice) : List (Nat × Nat × Nat) :=
  let at_ (q : Nat) : Nat := v.base / 32 % 32768 + q
  let reads := (List.range (s.ssi + 672 - lo)).flatMap fun d =>
    if lo + d < e then (touches v.m v.rate (lo + d - v.start)).map fun k => (at_ (k / perLine v.kind), k / perLine v.kind, lo + d) else []
  let odd := reads.filter fun x => let w := s.galWord f x.1; !(s.sramErrsAt w.1 f w.2).isEmpty && !v.missing.contains x.2.1
  odd.foldl (fun l x => if l.any fun y => y.1 == x.1 then l else l ++ [x]) []

/-- The read stage of play j of port p, whose plays end at e, from sample lo on (R121, R150, R374): an uncorrectable line of a segment
is missing, with UNDERRUN at the first sample that needs it; then the samples are resampled. -/
def fillPlay (p j lo : Nat) (s : Device) : Device :=
  match (withEnds (s.port p).voices)[j]? with
  | none => s
  | some (v, e) =>
    if !(v.judged && v.sounds) then s
    else
      let odd := if v.stream || s.sramErrs.isEmpty then [] else s.unsoundLines (p / 8) lo e v
      let (gone, s1) := odd.foldl (fun (st : List Nat × Device) x =>
        let w := st.2.galWord (p / 8) x.1
        let (bad, t) := sramAccess w.1 (p / 8) w.2 st.2
        if bad then (st.1 ++ [x.2.1], underrun p x.2.2 (galleyLost (p / 8) x.1 t)) else (st.1, t)) ([], s)
      let v1 := { v with missing := v.missing ++ gone }
      s1.updPort p fun q => { q with voices := listSet q.voices j (fillPipe lo v1 s1) }

/-- A stream play cut at an index whose read point is here or past moves RD to the end of the lines it named and is no
longer active (R151). -/
def cutStreams (p : Nat) (s : Device) : Device :=
  let gone (v : Voice) (e : Nat) : Bool :=
    v.stream && v.judged && v.sounds && decide (v.nextLine < v.lines) && decide (e < v.start + v.len) && s.readHere e
  let l := withEnds (s.port p).voices
  if l.any fun (v, e) => gone v e then
    let s1 := s.updPort p fun q => { q with voices := l.map fun (v, e) => if gone v e then { v with nextLine := v.lines } else v }
    forAllDo (l.filter fun (v, e) => gone v e) (fun (v, _) t =>
      advanceRd (p / 8) v.seg ((v.base + 32 * v.lines) % 2 ^ 32)
        (t.updForme (p / 8) fun y => { y with ringBusy := sdel y.ringBusy v.seg })) s1
  else s

/-- Play j of port p reads the lines due in this cycle (R149, R150). -/
def readDue (p j : Nat) (s : Device) : Device :=
  match (withEnds (s.port p).voices)[j]? with
  | some (v, e) =>
    let (v1, s1) := readLines p e (v.lines - v.nextLine) v s
    s1.updPort p fun q => { q with voices := listSet q.voices j v1 }
  | none => s

/-- The plays of port p that sound read the lines due in this cycle, those that are cut give up theirs, and their samples are
resampled (R121, R150, R151). -/
def readPort (p : Nat) (s : Device) : Device :=
  if (s.port p).voices.isEmpty then s
  else
    let js := List.range (s.port p).voices.length
    forAllDo js (fun j t => fillPlay p j (max (((t.port p).voices[j]?).map Voice.reach |>.getD 0) (t.ssi + 640)) t)
      (cutStreams p (forAllDo js (readDue p) s))

/-- The plays of port p whose read point is here or past and that are not judged yet: the sample at which each takes effect, the port
and the play. -/
def Device.unjudged (s : Device) (p : Nat) : List (Nat × Nat × Nat) :=
  (s.port p).voices.zipIdx.filterMap fun (v, j) =>
    if !v.judged && v.choice.isNone && s.readHere v.reach then some (v.reach, p, j) else none

/-- Play j of port p is judged (R120, R144, R149, R151), reads the lines due and, where it sounds, begins to be resampled. -/
def judgePlay (p j : Nat) (s : Device) : Device :=
  let l := withEnds (s.port p).voices
  match l[j]? with
  | none => s
  | some (v, _) =>
    let others := l.zipIdx.filterMap fun ((w, e), i) =>
      if i = j then none else some (w, if w.voice = v.voice then min e v.start else e)
    let (v1, s1) := judgeVoice p others v s
    fillPlay p j v1.reach (cutStreams p (readDue p j (s1.updPort p fun q => { q with voices := listSet q.voices j v1 })))

/-- The galley and ring read stage of a cycle (R121): the plays that are active read first; then the plays whose read point has come
are judged by index (R151), whatever their ports. -/
def readStage (s : Device) : Device :=
  let ps := s.ports.map Prod.fst
  let s1 := forAllDo ps readPort s
  let before (a b : Nat × Nat × Nat) : Bool :=
    decide (a.1 < b.1) || (a.1 == b.1 && (decide (a.2.1 < b.2.1) || (a.2.1 == b.2.1 && decide (a.2.2 ≤ b.2.2))))
  forAllDo (sortBy before (ps.flatMap s1.unjudged)) (fun x t => judgePlay x.2.1 x.2.2 t) s1

/-! ### The sample word (R118, R119, R158, R159, R172) -/

/-- Port p is in a safe interval at index n. -/
def Port.inSafe (q : Port) (n : Nat) : Bool :=
  match q.safe with
  | some g => decide (g.start ≤ n) && decide (n < g.stop)
  | none => false

/-- The OP_MODE word that the output stage gives effect to at n, the outgoing one through a safe interval (R160, R548). -/
def Device.settingAt (s : Device) (p n : Nat) : Nat :=
  let q := s.port p
  let now := effMode q.mode (s.liveAt p n && !q.muted)
  match q.safe with
  | some g => if n < g.stop then g.outgoing else now
  | none => now

/-- mode(p, n): the mode of the output stage at n (R118). -/
def Device.modeAt (s : Device) (p n : Nat) : Nat := s.settingAt p n % 4

/-- What one play adds at index n, and whether a value of it that enters the sum was clamped (R118, R119). -/
def Device.contrib (s : Device) (p n : Nat) (v : Voice) (stop : Nat) : Int × Bool :=
  if n < v.start ∨ stop ≤ n then (0, false)
  else
    match v.pipe.find? fun e => e.1 == n with
    | some (_, some (i, q, ci, cq)) =>
      let mode := s.modeAt p n
      if mode = 1 ∨ mode = 2 then
        let (c, sn) := carrierOut (s.theta (p / 8) ((s.port p).bind.getD v.voice 0) n)
        let y := rnd (i * c - q * sn) 17
        (sat16 y * v.gain, ci || cq || decide (sat16 y ≠ y))
      else (i * v.gain, ci)
    | _ => (0, false)

/-- The word w[n] of port p and whether a value clamped (R118, R119). -/
def Device.portWord (s : Device) (p n : Nat) : Int × Bool :=
  let l := (withEnds (s.port p).voices).map fun (v, e) => s.contrib p n v e
  let z := (l.map Prod.fst).sum
  let w := rnd z 15
  (sat16 w, l.any Prod.snd || decide (sat16 w ≠ w))

/-- The corrected word, the DAC code and whether either clamped (R158, R159). -/
def Device.correct (s : Device) (p n : Nat) (w : Int) : Int × Int × Bool :=
  let g : Int := s.fld F.opCgainGain p
  let im := toSigned 16 (s.fld F.opCimgImg p)
  let ofs := toSigned 16 (s.fld F.opCofsOfs p)
  let t := g * w + (if n % 2 = 1 then -2 else 2) * im * w
  let c0 := rnd t 16 + ofs
  let c := sat16 c0
  let k0 := rnd c 2
  (c, sat14 k0, decide (c ≠ c0) || decide (sat14 k0 ≠ k0))

/-- V_bias of port p at index n is held at 0 V or its DAC disconnected (R165, R172, R174). -/
def Device.biasOff (s : Device) (p n : Nat) : Bool :=
  s.modeAt p n != 3 || ((s.port p).inSafe n && (match (s.port p).safe with | some g => g.hold | none => false))

/-- V_bias of port p at sample n, nominal, in volts (R164, R165): B × V_bspan / 524,288 with V_bspan 2.5, 1.25 and 0.625 V. -/
def Device.vBias (s : Device) (p n : Nat) : Rat :=
  if s.biasOff p n then 0 else toSigned 20 (s.port p).bias * (5 / 2 / 2 ^ (s.settingAt p n / 256 % 4)) / 524288

/-- V_wave of port p in BASE for a corrected word, in volts (R160): c × V_span / 32,768 with V_span 1, 0.5 and 0.25 V. -/
def Device.vWave (s : Device) (p n : Nat) (c : Int) : Rat := c * (1 / 2 ^ (s.settingAt p n / 16 % 4)) / 32768

/-- The 25 mA limit of the output stage engages in BASE at the load of port p (R165). -/
def Device.overLimit (s : Device) (p n : Nat) (c : Int) : Bool :=
  s.modeAt p n == 3 &&
    (let v := s.vWave p n c + s.vBias p n
     decide ((s.port p).load * (25 / 1000 : Rat) < (if v < 0 then -v else v)))

/-- ILIM and its event at the first limited sample of an engagement of the limit (R165, R179). -/
def limitStep (p n : Nat) (c : Int) (s : Device) : Device :=
  let now := s.overLimit p n c
  if now = (s.port p).limited then s
  else
    let s1 := s.updPort p fun q => { q with limited := now }
    if now then (s1.setFlag F.opStatusIlim p).present (evCode 4 p 1) n else s1

/-- Form sample n of port p, the waveform safe value inside a calibration slot (R168, R358): CLIP at the first clamp of the cycle, SPANCUT at the first non-zero word a safe interval
drops, CORR_SAT at each clamped sample, ILIM where the current limit engages; the code leaves the land. Answers whether CLIP was
raised. -/
def portSample (p n : Nat) (clipped : Bool) (s : Device) : Bool × Device :=
  let (w0, clip) := s.portWord p n
  let w := if s.inSlot p n then 0 else w0
  let s := if s.inSwitchBack p n && ((withEnds (s.port p).voices).any fun (v, e) => decide (v.start ≤ n) && decide (n < e))
    then s.setFlag F.calStatusCalcut else s
  let s1 := if clip && !clipped then (s.orFld F.galClipPort (2 ^ (p % 8)) (p / 8)).present (evCode 5 (p / 8) 0) n else s
  let q := s1.port p
  let (s2, wOut) :=
    if q.inSafe n then
      match q.safe with
      | some g =>
        if w ≠ 0 ∧ n < g.counts ∧ ¬ g.cut then
          (((s1.setFlag F.opStatusSpancut p).present (evCode 4 p 0) n).putPort p { q with safe := some { g with cut := true } }, 0)
        else (s1, 0)
      | none => (s1, 0)
    else (s1, w)
  let (c, code, bad) := s2.correct p n wOut
  let s3 := limitStep p n c (if bad then (s2.setFlag F.opStatusCorrSat p).present (evCode 4 p 2) n else s2)
  (clip || clipped, s3.updPort p fun q => { q with out := q.out ++ [code] })

/-- A port whose samples are formed: it has a mode, a play or a safe interval. A port in MUTE with neither holds 0 V and its
codes reach nothing (R165). -/
def Port.busy (q : Port) : Bool := q.mode != 0 || !q.voices.isEmpty || q.safe.isSome || q.muteAt.isSome

/-- The actions of a cycle's word in the order of R93: by index, then by sequencer. -/
def Act.before (a b : Act) : Bool := decide (a.index < b.index) || (a.index == b.index && decide (a.owner ≤ b.owner))

def insertAct (a : Act) : List Act → List Act
  | [] => [a]
  | h :: t => if h.before a then h :: insertAct a t else a :: h :: t

def sortActs (l : List Act) : List Act := l.foldl (fun r a => insertAct a r) []

/-- One issued action taking effect (R92), a strobe excepted. -/
def applyAct (a : Act) (s : Device) : Device :=
  match a.kind with
  | .setport 2 v => stage a.owner a.index 2 (bitsOf v 8 5 * 32 + v % 32) s
  | .setport k v => stage a.owner a.index k v s
  | .emit o => s.present (evCode (if a.owner < 512 then 2 else 3) (a.owner % 512) o) a.prog
  | _ => s

/-- The actions and samples of index n (R93, R95): stagings first, then one strobe per forme, a MUTE_ALL that reaches n, then the
samples. -/
def sampleStep (acts : List Act) (ports : List Nat) (n : Nat) (st : List Nat × Device) : List Nat × Device :=
  let here := acts.filter fun a => a.index == n
  let s1 := forAllDo here applyAct st.2
  let fs := ((here.filter fun a => a.kind == .strobe).map fun a => a.owner / 8) ++ (if n = s1.ssi then s1.struck else [])
  let s2 := muteReach n (forAllDo fs.eraseDups (fun f => strobe f n) s1)
  ports.foldl (fun (st : List Nat × Device) p =>
    let (c, s) := portSample p n (st.1.contains p) st.2
    (if c && !(st.1.contains p) then p :: st.1 else st.1, s)) (st.1, s2)

/-- The carrier writes of a cycle's actions (R93, R126). -/
def carrierAct (a : Act) (s : Device) : Device :=
  match a.kind with
  | .setf c v => addChange (a.owner / 8) ⟨a.index, 1, a.owner, c, false, false, none, v⟩ s
  | .setp c add v => addChange (a.owner / 8) ⟨a.index, if add then 3 else 2, a.owner, c, true, add, none, v⟩ s
  | _ => s

/-- The actions of the current word. -/
def Device.wordActs (s : Device) : List Act := sortActs (s.acts.filter fun a => decide (a.index < s.ssi + 32))

/-- The start of a word: the carriers' writes of its actions stand, so that a read in this cycle sees them (R24, R126). -/
def carriersWord (s : Device) : Device := forAllDo s.wordActs carrierAct s

/-- Forget plays that are over. -/
def pruneVoices (ssi : Nat) (q : Port) : Port :=
  { q with
    voices := ((withEnds q.voices).filter fun (v, e) => decide (ssi + 32 < e + 1) || !v.judged).map fun (v, _) =>
      { v with pipe := v.pipe.filter fun e => decide (ssi + 32 ≤ e.1) }
    marks := q.marks.filter fun (_, _, e, _) => decide (ssi < e + 64) }

/-- The end of a fabric cycle in the output chain: actions of its word take effect, its samples leave the land, the
read stage works on the samples 640 ahead, and the carriers take in the word's writes. -/
def outputCycle (s : Device) : Device :=
  let mine := s.wordActs
  let s1 := { s with acts := s.acts.filter fun a => decide (s.ssi + 32 ≤ a.index) }
  let fs := (mine.filter fun a => a.kind == .strobe).map fun a => a.owner / 8
  let busy := (s1.ports.filter fun (p, q) => q.busy || fs.contains (p / 8) || s1.struck.contains (p / 8)).map Prod.fst
  let s2 := { s1 with ports := s1.ports.map fun (p, q) => (p, { q with out := [] }) }
  let s3 := if mine.isEmpty && busy.isEmpty then s2
    else ((List.range 32).foldl (fun st d => sampleStep mine busy (s.ssi + d) st) ([], s2)).2
  let s4 := readStage s3
  let s5 := forAllDo (s4.ports.map Prod.fst) (fun p t => t.updPort p (pruneVoices s.ssi)) s4
  let s6 := forAllDo ((s5.formes.filter fun (_, x) => !x.changes.isEmpty).map Prod.fst) carrierLand s5
  { s6 with struck := [] }

/-! ### Markers (R153 to R156) -/

/-- Marker bit b of port p at a placement index (R153). -/
def Port.markAt (q : Port) (b n : Nat) : Bool :=
  q.marks.any fun (c, lo, hi, _) => c == b && decide (lo ≤ n) && decide (n < hi)

/-- The marker bits of forme f at a placement index, bit 2m + b for bit b of port m (R154). -/
def Device.markBits (s : Device) (f n : Nat) : Nat :=
  ((List.range 16).map fun x => if (s.port (8 * f + x / 2)).markAt (x % 2) n then 2 ^ x else 0).sum

/-- The level of MKf at land index y (R154 to R156). -/
def Device.markerLevel (s : Device) (f y : Nat) : Bool :=
  let trim := toSigned 6 (s.fld F.fmMkCtrlTrim f)
  let n := ((y : Int) - trim).toNat
  (s.flag F.fmMkCtrlInv f) != ((List.range 16).any fun x =>
    bitOf (s.fld F.fmMkCtrlSel f) x && bitOf (s.markBits f n) x)

/-- A write of FM_MK_CTRL by session t (R156, R498). -/
def markerCtrlOp (t f v : Nat) (s : Device) : CmdOut :=
  if !(s.formeWritable f t) then refuse s stNotOwner
  else done (s.putReg .fmMkCtrl (BitVec.ofNat 32 v &&& 0x3F01FFFF) f)

/-! ### Stopping a port's part of a sequencer (R72, R115) -/

/-- The marker intervals of a port end at x (R153). -/
def cutMarks (x : Nat) (q : Port) : Port := { q with
  marks := (q.marks.filter fun (_, lo, _, _) => decide (lo < x)).map fun (b, lo, hi, pr) => (b, lo, min hi x, pr) }

/-- Every play of port p ends at x and its marker bits clear (R115, R153); a stream play gives up its lines once the read
point of x is reached (R151). -/
def stopPort (p x : Nat) (s : Device) : Device :=
  let q := s.port p
  s.putPort p (cutMarks x { q with
    voices := (q.voices.filter fun v => decide (v.start < x)).map fun v =>
      { v with stopAt := some (match v.stopAt with | some y => min x y | none => x) } })

end Sys2Proof.Machine
end

