-- ==== Sys2Proof/Machine/Router.lean ====
section
/-! DEFINITION. The event router and the event counters (spec/09_event_routing_and_counters.md). -/

namespace Sys2Proof.Machine

/-! ### Producers and channels (R273, R274, R283) -/

/-- The largest event number of a CLASS 0 instance, and none where the instance names no producer. -/
def lastEvt (inst : Nat) : Option Nat :=
  match inst with
  | 1 => some 2 | 2 => some 3 | 3 => some 7 | 4 => some 7 | 5 => some 7 | 6 => some 10 | 7 => some 12
  | 8 => some 14 | 9 => some 3 | 10 => some 0 | 11 => some 15 | _ => none

/-- A listed producer code, or 0 for an empty slot (R273). -/
def validProducer (code : Nat) : Bool :=
  let cls := code / 8192
  let inst := code / 16 % 512
  let evt := code % 16
  match cls with
  | 0 => code == 0 || (match lastEvt inst with | some m => decide (evt ≤ m) | none => false)
  | 1 => decide (inst < 16) && evt == 0
  | 2 => decide (evt ≤ 9)
  | 3 => decide (inst < 64) && decide (evt ≤ 9)
  | 4 => decide (evt ≤ 2)
  | 5 => decide (inst < 64) && decide (evt ≤ 5)
  | 6 => decide (inst < 64) && decide (evt ≤ 5)
  | _ =>
    (decide (inst < 16) && decide (evt ≤ 1)) || (decide (16 ≤ inst) && decide (inst < 64) && evt == 0)
      || (inst == 64 && evt == 0)

/-- The sequencer-and-port resource that a producer belongs to, if it has one (R283, R496). -/
def producerResource (code : Nat) : Option Nat :=
  let inst := code / 16 % 512
  match code / 8192 with
  | 2 => some inst | 4 => some inst | 3 => some (512 + inst) | 6 => some (512 + inst) | _ => none

/-- The eight slot codes of a channel as they stood at the start of the cycle (R274, R279). -/
def Device.slotsF (s : Device) (n : Nat) : List Nat :=
  (List.range 4).flatMap fun w => [s.fldF F.evEcEven n w, s.fldF F.evEcOdd n w]

/-- The events of the cycle before that are presented to channel n (R274, R275). -/
def Device.eventsFor (s : Device) (n : Nat) : List Ev :=
  let sl := s.slotsF n
  s.ev.prev.filter fun e => e.code != 0 && sl.contains e.code

/-- The least stamp of a list of events. -/
def minStamp : List Ev → Nat
  | [] => 0
  | [e] => e.stamp
  | e :: t => min e.stamp (minStamp t)

/-- Channel n is muted as of the start of this cycle (R280, R281). -/
def Device.mutedF (s : Device) (n : Nat) : Bool := bitOf (s.regF .evLoopch 0 (n / 32)).toNat (n % 32)

/-- The deliveries of channel n in [k - 63, k + 1) of router cycle k (R280). -/
def Device.recent (s : Device) (n : Nat) : List Nat := (sget [] s.ev.hist n).filter fun c => decide (s.cycle < c + 64)

/-- Mute channel n (R280). -/
def muteChannel (n : Nat) (s : Device) : Device :=
  let s1 := (s.orFld F.evLoopch (2 ^ (n % 32)) 0 (n / 32)).setFlag F.evStatusLoop
  let s2 := (s1.presentNow (evCode 0 10 0)).notice 0x8004 stOk
    (some (s.fld F.evEcOwnOwner n, s.flag F.evEcOwnSealed n)) [BitVec.ofNat 8 n]
  (s2.monitor 258 1).monitor 257 1

/-- A snapshot of counter i: the earlier stamp of the cycle stands (R289, R290). -/
def evcSnap (i stamp : Nat) (s : Device) : Device :=
  let c := s.evc i
  let c1 := match c.snapNow with
    | none => { c with snapNow := some stamp, snap := (c.base + c.add) % 2 ^ 48, snapT := stamp }
    | some t => { c with snapNow := some (min t stamp), snapT := min t stamp }
  (s.putEvc i c1).setFlag F.evcStatusSnapped i

/-- Clear counter i before this cycle's additions (R290). -/
def evcClear (i : Nat) (s : Device) : Device :=
  let c := s.evc i
  s.putEvc i { c with base := 0, snap := if c.snapNow.isSome then c.add else c.snap }

/-- The snapshots that an activation of channel n makes (R289). -/
def snapAll (n stamp : Nat) (s : Device) : Device :=
  forAllDo (List.range 64) (fun i s =>
    if s.fldF F.evcCtrlSnapEn i != 0 && s.fldF F.evcCtrlSnapEc i == n && !(s.ev.cut.contains (RegName.addr .evcCtrl i + 1))
    then evcSnap i stamp s else s) s

/-- Deliver an activation of channel n to the counters and record it for the consumers of this cycle (R275, R276). -/
def deliver (n stamp : Nat) (late : Bool) (rx : List Nat) (s : Device) : Device :=
  let s1 := { s with ev := { s.ev with
    act := sput s.ev.act n ⟨0, stamp, late, rx⟩
    last := sput s.ev.last n stamp
    hist := sput s.ev.hist n (s.recent n ++ [s.cycle]) } }
  snapAll n stamp (s1.monitorAt n 1 stamp)

/-- Form the activation of channel n in this router cycle and deliver it, unless the channel is muted or the guard
mutes it (R275, R280). Answers the activation delivered, if any. -/
def activate (n : Nat) (s : Device) : Device × Option Ev :=
  match s.eventsFor n with
  | [] => (s, none)
  | e :: t =>
    let m := (e :: t).length
    let stamp := minStamp (e :: t)
    let late := (e :: t).any Ev.late
    let s1 := if m ≥ 2 then (s.monitor 256 (m - 1)).setFlag F.evStatusCoincide else s
    if s1.mutedF n then (s1.monitor 257 1, none)
    else if s1.fldF F.evEcCfgGuard n != 0 && decide (s1.fld F.evCtrlLoopMax < (s1.recent n).length + 1) then
      (muteChannel n s1, none)
    else
      let rx := ((e :: t).flatMap Ev.rx).eraseDups
      (deliver n stamp late rx s1, some ⟨0, stamp, late, rx⟩)

/-! ### Register writes of the router -/

/-- Selections written again stop being cut (R285), from the cycle after the one in which the write lands (R279). -/
def liftCuts (keys : List Nat) (s : Device) : Device := { s with ev := { s.ev with lift := s.ev.lift ++ s.ev.cut.filter keys.contains } }

/-- A write of EV_CTRL (LOOP_MAX 1 to 64). -/
def evCtrlWrite (v : Nat) (s : Device) : CmdOut :=
  let x := bitsOf v 6 0
  if x = 0 ∨ 64 < x then refuse s stBadArg else done (s.putReg .evCtrl (BitVec.ofNat 32 x))

/-- A write of EV_INJECT (R286). -/
def evInjectOp (v : Nat) (s : Device) : CmdOut :=
  done (forAllDo (bitsSet 16 v) (fun m s => s.presentNow (evCode 0 11 m)) s)

/-- A write of EV_LOOPCH word w: each 1 unmutes its channel, whose count of deliveries starts from zero (R281). -/
def loopUnmuteOp (w v : Nat) (s : Device) : CmdOut :=
  let a := RegName.addr .evLoopch 0 w
  let old := s.reg .evLoopch 0 w
  let clr := old &&& BitVec.ofNat 32 v &&& ~~~(sget 0 s.hwNow a)
  let s1 := s.putReg .evLoopch (old &&& ~~~clr) 0 w
  done { s1 with ev := { s1.ev with
    hist := (bitsSet 32 clr.toNat).foldl (fun h b => sput h (32 * w + b) []) s1.ev.hist } }

/-- A write of slot word w of channel n by session t (R274, R283). -/
def evSlotWrite (t n w v : Nat) (s : Device) : CmdOut :=
  let codes := [bitsOf v 15 0, bitsOf v 31 16]
  if !(s.ecWritable n t) then refuse s stNotOwner
  else if !(codes.all validProducer) then refuse s stBadArg
  else if codes.any fun c => match producerResource c with | some k => s.seqAway k t | none => false then
    refuse s stNotOwner
  else done (s.putReg .evEc (BitVec.ofNat 32 v) n w)

/-- A write of EV_ECn_CFG by session t (R283). -/
def evCfgWrite (t n v : Nat) (s : Device) : CmdOut :=
  if !(s.ecWritable n t) then refuse s stNotOwner
  else done (s.putReg .evEcCfg (BitVec.ofNat 32 (bitsOf v 0 0)) n)

/-- A source of an event counter that the table of R287 lists. -/
def validSrc (x : Nat) : Bool := decide (x ≤ 273)

/-- A write of EVC_CTRL of counter n by session t (R287 to R291). -/
def evcCtrlWrite (t n v : Nat) (s : Device) : CmdOut :=
  let src := bitsOf v 24 16
  let ec := bitsOf v 15 8
  if !(validSrc src) then refuse s stBadArg
  else if (decide (src < 256) && s.ecAway src t) || s.ecAway ec t then refuse s stNotOwner
  else
    let keep : Word := BitVec.ofNat 32 v &&& 0xE1FFFF00
    let a := RegName.addr .evcCtrl n
    let s1 := s.putReg .evcCtrl keep n
    let s2 := liftCuts [a, a + 1] { s1 with ev := { s1.ev with evcBy := sput s1.ev.evcBy n t } }
    let s3 := if bitOf v 0 then evcClear n s2 else s2
    done (if bitOf v 1 then evcSnap n s.ssi s3 else s3)

/-- The counters at the end of a router cycle: additions join the count, which wraps with WRAP (R288). -/
def evcLand (s : Device) : Device :=
  forAllDo (s.ev.evc.map Prod.fst) (fun i s =>
    let c := s.evc i
    let s1 := s.putEvc i { c with base := (c.base + c.add) % 2 ^ 48, add := 0, snapNow := none }
    if 2 ^ 48 ≤ c.base + c.add then s1.setFlag F.evcStatusWrap i else s1) s

/-- The router at the start of a new cycle: this cycle's events become those of the cycle before, and the events whose
stamp lies in the new cycle are presented (R272, R275). -/
def routerLand (s : Device) : Device :=
  let due := s.ev.later.filter fun e => decide (e.stamp < s.ssi + 32)
  let s1 := { s with ev := { s.ev with
    prev := s.ev.now, now := [], act := [], later := s.ev.later.filter fun e => decide (s.ssi + 32 ≤ e.stamp)
    cut := s.ev.cut.filter fun x => !(s.ev.lift.contains x), lift := [] } }
  forAllDo due (fun e t => t.presentRaw e.code e.stamp e.late e.rx) s1

end Sys2Proof.Machine
end

