-- ==== Sys2Proof/Machine/Budget.lean ====
section
/-! DEFINITION. The heat and energy budget scheduler's ledgers (spec/10_budget_scheduler.md): parameters, the update,
projections, the fit test, corrections, deadlines, and the register writes of the block. -/

namespace Sys2Proof.Machine

/-- A scheduler event (R320). -/
def budEvent (n : Nat) : Nat := evCode 0 3 n

/-! ### Parameters (R292 to R299) -/

/-- The parameters staged in the registers of ledger j (R295); DIE keeps its fixed T_LIM (R297). -/
def Device.stagedLedger (s : Device) (j : Nat) : Ledger :=
  { s.led j with
    c := s.reg64 .budCLo .budCHi j
    pcool := s.reg64 .budPcoolLo .budPcoolHi j
    pstat := s.reg64 .budPstatLo .budPstatHi j
    tbase := (s.reg .budTbase j).toNat
    tlim := if j = 16 then 363150 else (s.reg .budTlim j).toNat
    lag := (s.reg .budLag j).toNat
    tmo := (s.reg .budTmo j).toNat }

/-- The checks of a commit (R295). -/
def commitOk (j : Nat) (l : Ledger) : Bool :=
  decide (l.tbase < l.tlim) && decide (l.hlim < 2 ^ 63) && decide (l.hlimE j < 2 ^ 63)
    && decide (0 < l.decay) && decide (l.decay < 2 ^ 40) && decide (l.floor < l.hlim)

/-- Any channel sequencer PENDING, RUNNING or LEADING (R296). -/
def Device.csBusy (s : Device) : Bool :=
  s.seqs.any fun (k, _) => decide (k < 512) && (let st := s.fld F.csStatusState k; st == 1 || st == 2 || st == 3)

/-- The ledger is one whose settings BUD_CTRL.SEAL locks (R299). -/
def Device.ledSealed (s : Device) (j : Nat) : Bool := decide (16 ≤ j) && s.flag F.budCtrlSeal

/-- A write of CFG of ledger j by session t (R295, R296, R299, R319, R546): COMMIT or setting EN applies the staged
parameters, setting EN zeroes H and U, and a changed CMODE or SRC restarts the deadline (R317). Of a sealed ledger COMMIT
stays open where EN, CMODE and SRC keep their values. -/
def ledgerCfgWrite (t j v : Nat) (s : Device) : CmdOut :=
  let en := s.flag F.budCfgEn j
  let cmode := s.fld F.budCfgCmode j
  let src := s.fld F.budCfgSrc j
  let enW := if j = 16 then true else bitOf v 31
  let cmodeW := bitsOf v 30 29
  let srcW := bitsOf v 19 16
  let commit := bitOf v 28
  let sets := enW && !en
  let changes := enW != en || cmodeW != cmode || srcW != src
  if cmodeW = 3 then refuse s stBadArg
  else if j < 16 && !(s.ledWritable j t) then refuse s stNotOwner
  else if s.ledSealed j && changes then refuse s stNotOwner
  else if (commit || enW != en) && s.csBusy then refuse s stBusy
  else
    let l := s.stagedLedger j
    if (commit || sets) && !(commitOk j l) then refuse s stBadArg
    else
      let w := putField (putField (putField 0 31 31 (b2n enW)) 30 29 cmodeW) 19 16 srcW
      let s1 := s.putReg .budCfg w j
      let l1 := if commit || sets then { l with since := s.cycle, stale := false } else s.led j
      let l2 := if sets then { l1 with h := 0, u := 0, hSeen := 0, uSeen := 0 } else l1
      let l3 := if cmodeW != cmode || srcW != src then { l2 with since := s.cycle, stale := false } else l2
      done (s1.putLed j l3)

/-- A write of a staged parameter register of ledger j by session t (R295, R299, R319). -/
def ledgerParamWrite (t j : Nat) (r : RegName) (mask : Word) (v : Nat) (s : Device) : CmdOut :=
  if j < 16 && !(s.ledWritable j t) then refuse s stNotOwner
  else if s.ledSealed j then refuse s stNotOwner
  else if j = 16 ∧ r = .budTlim then done s
  else done (s.putReg r (BitVec.ofNat 32 v &&& mask) j)

/-- A write of BUD_CTRL (R299, R546): SEAL once set stays. -/
def budCtrlWrite (v : Nat) (s : Device) : CmdOut :=
  if s.flag F.budCtrlSeal then refuse s stNotOwner
  else done (s.putReg .budCtrl (BitVec.ofNat 32 (v % 2)))

/-- A write of BUD_RESERVE (R306). -/
def budReserveWrite (v : Nat) (s : Device) : CmdOut :=
  let r0 := bitsOf v 7 0
  let r1 := bitsOf v 15 8
  let r2 := bitsOf v 23 16
  if r1 ≤ r0 ∧ r2 ≤ r1 then done (s.putReg .budReserve (BitVec.ofNat 32 (v % 2 ^ 24))) else refuse s stBadArg

/-- A write of BUD_ESAMP (R296, R299). -/
def budEsampWrite (v : Nat) (s : Device) : CmdOut :=
  if s.flag F.budCtrlSeal then refuse s stNotOwner
  else if s.csBusy then refuse s stBusy
  else done (s.putReg .budEsamp (BitVec.ofNat 32 v))

/-- A write of BUD_LEADMAX or BUD_HOTLEAD: 0 is refused. -/
def budAtLeastOne (r : RegName) (v : Nat) (s : Device) : CmdOut :=
  if v % 2 ^ 32 = 0 then refuse s stBadArg else done (s.putReg r (BitVec.ofNat 32 v))

/-- Session t may write entry j of row p of the attenuation table (R303, R319, R496, R497). -/
def Device.attnWritable (s : Device) (p j t : Nat) : Bool := s.ledWritable j t && s.seqWritable p t

/-- A write of one entry of the attenuation table by session t (R296, R303, R319). -/
def attnWrite (t p j v : Nat) (s : Device) : CmdOut :=
  let row := listSet ((List.range 16).map (s.attn p)) j (v % 2 ^ 32)
  if !(s.attnWritable p j t) then refuse s stNotOwner
  else if s.csBusy then refuse s stBusy
  else if 2 ^ 32 < row.sum then refuse s stBadArg
  else done (s.putReg .budAttn (BitVec.ofNat 32 v) p j)

/-- BUD_ATTN_WRITE by session t: a whole row in one cycle (R303, R319, R466). -/
def attnRowOp (t p : Nat) (row : List Nat) (s : Device) : CmdOut :=
  if row.length ≠ 16 then refuse s stBadLength
  else if 512 ≤ p then refuse s stBadArg 0
  else if !((List.range 16).all fun j => s.attnWritable p j t) then refuse s stNotOwner
  else if s.csBusy then refuse s stBusy
  else if 2 ^ 32 < (row.map (· % 2 ^ 32)).sum then refuse s stBadArg 4
  else done (forAllDo (List.range 16) (fun j s => s.putReg .budAttn (BitVec.ofNat 32 (row.getD j 0)) p j) s)

/-! ### The update (R305, R315 to R318) -/

/-- The top of ledger j (R305). -/
def Device.ledTop (s : Device) (j : Nat) : Nat := (s.led j).hlimE j

/-- One cycle's cooling and static heat (R305). -/
def Ledger.cool (l : Ledger) (h : Nat) : Nat := min cap64 (h - h * l.decay / 2 ^ 48 + l.stat)

/-- OVER at a rise from at or below the top to above it (R318). -/
def overCheck (j before : Nat) (s : Device) : Device :=
  let top := s.ledTop j
  if before ≤ top ∧ top < (s.led j).h then
    ((s.setFlag F.budLstatOver j).setFlag F.budStatusOver).presentNow (budEvent 4)
  else s

/-- A charge is forgotten once no LAG, of 32 bits, reaches back to it (R316). -/
def Ledger.remembers (l : Ledger) (k : Nat) : List (Nat × Nat) := l.charges.filter fun c => decide (k < c.1 + 2 ^ 32)

/-- The first step of a cycle's update: the cooling and the static heat of every enabled ledger (R305). -/
def ledgersCool (s0 : Device) : Device :=
  let s := { s0 with leds := s0.leds.map fun (j, l) =>
    (j, { l with hSeen := l.h, uSeen := l.u, meas := none, charges := l.remembers s0.cycle }) }
  forAllDo (List.range 18) (fun j t =>
    if t.ledOn j then (let l := t.led j; t.putLed j { l with h := l.cool l.h }) else t) s

/-- H_meas of a temperature in cycle k (R316). -/
def Ledger.hMeas (l : Ledger) (k tmeas : Nat) : Nat :=
  min cap64 (l.c * (tmeas - l.tbase) + ((l.charges.filter fun c => decide (k ≤ c.1 + l.lag)).map Prod.snd).sum)

/-- H corrected by a measurement of cycle k under a correction mode (R316). -/
def Ledger.corrected (l : Ledger) (k cmode : Nat) : Nat :=
  match l.meas with
  | none => l.h
  | some t => if cmode = 1 then max l.h (l.hMeas k t) else if cmode = 2 then l.hMeas k t else l.h

/-- The last steps of a cycle's update, after its charges (R305): the corrections, then OVER. -/
def ledgersEnd (s : Device) : Device :=
  forAllDo (List.range 18) (fun j t =>
    if t.ledOn j then
      let l := t.led j
      overCheck j l.hSeen (t.putLed j { l with h := l.corrected t.cycle (t.fldF F.budCfgCmode j) })
    else t) s

/-- Charge a block's vector at its start (R305). -/
def chargeVec (vec : List Nat) (s : Device) : Device :=
  forAllDo (List.range 18) (fun j t =>
    let e := vec.getD j 0
    if t.ledOn j && decide (0 < e) then
      let l := t.led j
      t.putLed j { l with u := l.u - e, h := min cap64 (l.h + e), charges := l.charges ++ [(t.cycle, e)] }
    else t) s

/-- Add an admitted block's vector to U, or take it off when the block is removed before its start (R293, R549). -/
def reserveVec (add : Bool) (vec : List Nat) (s : Device) : Device :=
  forAllDo (List.range 18) (fun j t =>
    let e := vec.getD j 0
    if t.ledOn j && decide (0 < e) then
      let l := t.led j
      t.putLed j { l with u := if add then min cap64 (l.u + e) else l.u - e }
    else t) s

/-- A valid measurement of ledger j in mK delivered in this cycle (R315, R317): its correction follows the cycle's charges
(R305). -/
def measure (j tmeas : Nat) (s : Device) : Device :=
  (s.putReg .budTmeas (BitVec.ofNat 32 tmeas) j).putLed j { s.led j with since := s.cycle, stale := false, meas := some tmeas }

/-- Ledger j passes its measurement deadline in this cycle (R317). -/
def Device.staleDue (s : Device) (j : Nat) : Bool :=
  let l := s.led j
  s.fldF F.budCfgCmode j != 0 && l.tmo != 0 && !l.stale && decide (l.since + l.tmo * 500000 ≤ s.cycle)

/-- STALE (R317). -/
def staleOp (j : Nat) (s : Device) : Device :=
  if s.staleDue j then
    ((((s.putLed j { s.led j with stale := true }).setFlag F.budLstatStale j).setFlag F.budStatusStale)).presentNow
      (budEvent 7)
  else s

/-! ### Projections and the fit test (R306, R307, R309) -/

/-- The admitted blocks that have not started: (start index, vector). -/
def Device.admitted (s : Device) : List (Nat × List Nat) :=
  s.seqs.flatMap fun (_, q) => ((q.ending ++ q.blk.toList).filter fun b => !b.started).map fun b => (b.start, b.vec)

/-- H of a ledger after n further cycles, with charges (cycles from now, amount) added in their cycles (R307). -/
def projectFrom (l : Ledger) (charges : List (Nat × Nat)) : Nat → Nat
  | 0 => min cap64 (l.h + ((charges.filter fun c => c.1 == 0).map Prod.snd).sum)
  | n + 1 => min cap64 (l.cool (projectFrom l charges n) + ((charges.filter fun c => c.1 == n + 1).map Prod.snd).sum)

/-- How many cycles from now the cycle that holds an index lies; 0 where it is here or past. -/
def Device.cyclesTo (s : Device) (x : Nat) : Nat := s.cycleOf x - s.cycle

/-- Block vec of a class fits at candidate index t (R307). -/
def Device.fits (s : Device) (vec : List Nat) (cls : Nat) (ess : Bool) (t : Nat) : Bool :=
  let adm := s.admitted
  (List.range 18).all fun j =>
    let e := vec.getD j 0
    if s.ledOn j && decide (0 < e) then
      let charges := (s.cyclesTo t, e) :: adm.map fun (x, v) => (s.cyclesTo x, v.getD j 0)
      let points := t :: (adm.map Prod.fst).filter fun x => decide (t < x)
      points.all fun x => decide (projectFrom (s.led j) charges (s.cyclesTo x) ≤ s.limit j cls ess)
    else true

/-- The smallest n in [n0, n0 + fuel) with fits at T0 + 32n (R310). -/
def Device.leadingOf (s : Device) (vec : List Nat) (cls : Nat) (ess : Bool) (t0 : Nat) : Nat → Nat → Option Nat
  | 0, _ => none
  | fuel + 1, n => if s.fits vec cls ess (t0 + 32 * n) then some n else s.leadingOf vec cls ess t0 fuel (n + 1)

/-! ### HOT (R311) -/

/-- TJ published, in mK: HOT sets at 95 °C and clears below 93 °C; DIE takes TJ as its measurement (R311, R315). -/
def publishTj (tj : Nat) (s : Device) : Device :=
  let s1 := s.putReg .budTj (BitVec.ofNat 32 tj)
  let hot := s.flag F.budStatusHot
  let s2 := if !hot && decide (368150 ≤ tj) then (s1.setFld F.budStatusHot 1).presentNow (budEvent 5)
    else if hot && decide (tj < 366150) then (s1.setFld F.budStatusHot 0).presentNow (budEvent 6)
    else s1
  measure 16 tj s2

end Sys2Proof.Machine
end

