-- ==== Sys2Proof/Machine/Float64.lean ====
section
/-! DEFINITION. Exact rationals rounded to integers and to IEEE 754 binary64 (R339, R340, R363, R365). -/

namespace Sys2Proof.Machine

/-- Rounded to the nearest integer, halves away from zero (R343, R363). -/
def ratAway (q : Rat) : Int :=
  let n := q.num.natAbs
  let r : Nat := (2 * n + q.den) / (2 * q.den)
  if q.num < 0 then -(r : Int) else (r : Int)

/-- Rounded to the nearest integer, ties to even. -/
def roundEven (q : Rat) : Int :=
  let n := q.num.natAbs
  let f := n / q.den
  let r := 2 * (n % q.den)
  let a := if r < q.den then f else if q.den < r then f + 1 else f + f % 2
  if q.num < 0 then -(a : Int) else (a : Int)

/-- 2 to an integer power. -/
def pow2 (e : Int) : Rat := if e < 0 then 1 / ((2 ^ e.natAbs : Nat) : Rat) else ((2 ^ e.natAbs : Nat) : Rat)

/-- 10 to an integer power. -/
def pow10 (e : Int) : Rat := if e < 0 then 1 / ((10 ^ e.natAbs : Nat) : Rat) else ((10 ^ e.natAbs : Nat) : Rat)

/-- The integer e with 2^e ≤ |q| < 2^(e + 1), for q not 0. -/
def log2Rat (q : Rat) : Int :=
  let e : Int := (q.num.natAbs.log2 : Int) - (q.den.log2 : Int)
  if (q.num.natAbs : Rat) / (q.den : Rat) < pow2 e then e - 1 else e

/-- The exponent of the last place of the binary64 number nearest q. -/
def ulpExp (q : Rat) : Int := max (log2Rat q - 52) (-1074)

/-- The binary64 number nearest q, ties to even. -/
def fl64 (q : Rat) : Rat := if q = 0 then 0 else (roundEven (q / pow2 (ulpExp q)) : Rat) * pow2 (ulpExp q)

/-- The binary64 number nearest q, halves away from zero (R363). -/
def fl64Away (q : Rat) : Rat := if q = 0 then 0 else (ratAway (q / pow2 (ulpExp q)) : Rat) * pow2 (ulpExp q)

/-- The 64 bits of a binary64 number. -/
def encode64 (q : Rat) : Nat :=
  if q = 0 then 0
  else
    let u := ulpExp q
    let m := (q / pow2 u).num.natAbs
    let sign := if q.num < 0 then 2 ^ 63 else 0
    if m < 2 ^ 52 then sign + m else sign + (u + 1075).toNat * 2 ^ 52 + (m - 2 ^ 52)

/-- The number that 64 bits spell; none for an infinity or a NaN. -/
def decode64 (n : Nat) : Option Rat :=
  let e := bitsOf n 62 52
  let f := bitsOf n 51 0
  let a : Option Rat :=
    if e = 2047 then none
    else if e = 0 then some ((f : Rat) * pow2 (-1074))
    else some (((2 ^ 52 + f : Nat) : Rat) * pow2 ((e : Int) - 1075))
  if bitOf n 63 then a.map (- ·) else a

/-- The 8 bytes of a binary64 number (R6). -/
def bytes64 (q : Rat) : List Byte := leBytes 8 (encode64 (fl64 q))

end Sys2Proof.Machine
end

