-- ==== Sys2Proof/Machine/CalForce.lean ====
section
/-! DEFINITION. Calibration coefficients: the nominal values, the sets, and what is in force (R351, R362, R363). -/

namespace Sys2Proof.Machine

/-- The key of a class's instance. -/
def calKey (cls inst : Nat) : Nat := 1024 * cls + inst

/-- Instances of a class (R351). -/
def calInstances (cls : Nat) : Nat := if cls < 6 then 512 else if cls < 9 then 64 else 1

/-- The values that the sets and the coefficients hold before any step: no correction, and the nominal values of the
bench. Classes 6 to 8 hold signed codes, 9 zero and gain of the ranges as fractions, 10 amperes, volts and ohms. -/
def calNominal (cls : Nat) : List Rat :=
  match cls with
  | 1 => [65536]
  | 4 => ([(1, 0), (1, 1), (1, 2), (1, 3), (2, 0), (2, 1), (2, 2), (2, 3), (3, 0), (3, 1), (3, 2)].map
      fun x => (nominalPfs x.1 x.2 : Rat))
  | 5 => [2 ^ 30, 0]
  | 6 => [2 ^ 30, 0]
  | 7 => [0, 0, 0, 0]
  | 9 => [0, 1, 1, 1]
  | 10 => ((List.range 7).map fun l : Nat => pow10 (Int.ofNat l - 9)) ++ ((List.range 5).map fun l : Nat => pow10 (Int.ofNat l - 5))
      ++ [100, 10000, 1000000]
  | 11 => [1 / 4, 1 / 5, 1 / 50, 1 / 500, 1]
  | 12 => List.replicate 9 1
  | _ => [0]

/-- What set n holds for an instance. -/
def Device.calCoef (s : Device) (n cls inst : Nat) : List Rat :=
  sget (calNominal cls) s.cal.coef (16384 * n + calKey cls inst)

/-- The coefficients of an instance in force. -/
def Device.calForce (s : Device) (cls inst : Nat) : List Rat := sget (calNominal cls) s.cal.force (calKey cls inst)

/-- Some bench class is extrapolated (R364). -/
def Device.benchExtrap (s : Device) : Bool := s.reg .calXmask 0 18 != 0

/-- A bench class has a step due and may take one (R355, R359): its class, when no other is older. -/
def Device.calLast (s : Device) (cls inst : Nat) : Nat := sget 0 s.cal.last (calKey cls inst)

/-- A class is due for an instance (R359). -/
def Device.calIsDue (s : Device) (cls inst : Nat) : Bool :=
  let per := (s.reg .calPeriod cls).toNat
  per != 0 && (decide (s.calLast cls inst + per * 2 ^ 64 ≤ s.deviceTime) || s.cal.marks.contains (calKey cls inst))
    && !(s.flag F.calStatusNoref && (cls == 5 || cls == 9 || cls == 10 || cls == 12))

/-- The oldest of some due class instances, the lowest class among equals (R359). -/
def Device.calOldest (s : Device) (l : List (Nat × Nat)) : Option (Nat × Nat) :=
  (l.filter fun x => s.calIsDue x.1 x.2).foldl (fun r x =>
    match r with
    | none => some x
    | some y => if s.calLast x.1 x.2 < s.calLast y.1 y.2 then some x else some y) none

/-- The bench class instances (R351). -/
def benchItems : List (Nat × Nat) := ((List.range 512).map fun p => (5, p)) ++ [(9, 0), (10, 0), (11, 0), (12, 0)]

/-- The visits of a bench step as point, CONV and EXC words (R351): NPLC 1, AVG 4, SETTLE 3, and REV where an excitation
is on. -/
def benchVisits (cls : Nat) : List (Nat × Nat × Nat) :=
  let conv (range : Nat) : Nat := 2 ^ 16 + 4 * 2 ^ 12 + range * 256 + 3
  match cls with
  | 5 => [(16, conv 2, 0)]
  | 9 => [(18, conv 2, 0), (17, conv 2, 0), (30, conv 1, 0), (31, conv 0, 0)]
  | 10 => (List.range 15).map fun l =>
      (19, conv 2, if l < 7 then 96 + 4 * l else if l < 12 then 160 + 4 * (l - 7) else 96 + 12 + (l - 12))
  | 11 => (List.range 20).map fun l => ([16, 17, 30, 31].getD (l % 4) 16, conv 2, 0)
  | 12 => (List.range 9).map fun l => (21 + l, conv 2, 0)
  | _ => []

/-- The engine wants a bench visit in the next gap (R336, R356, R367). -/
def Device.benchWanted (s : Device) : Bool :=
  s.flag F.bnCtrlCalslotEn
    && (match sfind s.cal.steps 8 with
        | some c => !c.visits.isEmpty
        | none => !s.cal.xfer.isEmpty || (s.calOldest benchItems).isSome)

end Sys2Proof.Machine
end

