-- ==== Sys2Proof/Machine/Sha.lean ====
section
/-! DEFINITION. SHA-384 (FIPS 180-4), which spec/17_security.md names for chains, seals and digests. -/

namespace Sys2Proof.Machine

/-- The numbers below n that no smaller one from 2 on divides. -/
def primesBelow (n : Nat) : List Nat :=
  (List.range n).filter fun p => 2 ≤ p && (List.range p).all fun q => q < 2 || p % q != 0

/-- The largest x below 2^bits with x^e at most n, bit by bit from the top. -/
def rootFloor (e n : Nat) : Nat → Nat → Nat
  | 0, x => x
  | bits + 1, x => rootFloor e n bits (if (x + 2 ^ bits) ^ e ≤ n then x + 2 ^ bits else x)

/-- The first 64 bits of the fractional part of the e-th root of p. -/
def rootFraction (e p : Nat) : BitVec 64 := BitVec.ofNat 64 (rootFloor e (p * 2 ^ (64 * e)) 72 0)

/-- The constants of the eighty rounds: cube roots of the first eighty primes. -/
def shaK : List (BitVec 64) := (primesBelow 410).map (rootFraction 3)

/-- The initial hash value: square roots of the ninth to the sixteenth prime. -/
def shaH : List (BitVec 64) := ((primesBelow 54).drop 8).map (rootFraction 2)

/-- Rotate right. -/
def ror (x : BitVec 64) (n : Nat) : BitVec 64 := (x >>> n) ||| (x <<< (64 - n))

/-- The message schedule, newest word first: n further words. -/
def shaSchedule : Nat → List (BitVec 64) → List (BitVec 64)
  | 0, w => w
  | n + 1, w =>
    let a := w.getD 14 0
    let b := w.getD 1 0
    let s0 := ror a 1 ^^^ ror a 8 ^^^ (a >>> 7)
    let s1 := ror b 19 ^^^ ror b 61 ^^^ (b >>> 6)
    shaSchedule n ((w.getD 15 0 + s0 + w.getD 6 0 + s1) :: w)

/-- One round on the eight working variables. -/
def shaRound (v : List (BitVec 64)) (kw : BitVec 64 × BitVec 64) : List (BitVec 64) :=
  let x (i : Nat) := v.getD i 0
  let t1 := x 7 + (ror (x 4) 14 ^^^ ror (x 4) 18 ^^^ ror (x 4) 41) + ((x 4 &&& x 5) ^^^ (~~~(x 4) &&& x 6)) + kw.1 + kw.2
  let t2 := (ror (x 0) 28 ^^^ ror (x 0) 34 ^^^ ror (x 0) 39) + ((x 0 &&& x 1) ^^^ (x 0 &&& x 2) ^^^ (x 1 &&& x 2))
  [t1 + t2, x 0, x 1, x 2, x 3 + t1, x 4, x 5, x 6]

/-- The big-endian number that bytes spell. -/
def beNat (l : List Byte) : Nat := leNat l.reverse

/-- One 128-byte block. -/
def shaBlock (h : List (BitVec 64)) (b : List Byte) : List (BitVec 64) :=
  let w := (chunksOf 8 16 b).map fun c => BitVec.ofNat 64 (beNat c)
  let ws := (shaSchedule 64 w.reverse).reverse
  let v := (shaK.zip ws).foldl shaRound h
  (h.zip v).map fun p => p.1 + p.2

/-- The padded message. -/
def shaPad (m : List Byte) : List Byte :=
  let z := (128 - (m.length + 17) % 128) % 128
  m ++ [0x80] ++ zeros z ++ beBytes 16 (8 * m.length)

/-- SHA-384 of a byte string: 48 bytes. -/
def sha384 (m : List Byte) : List Byte :=
  let p := shaPad m
  let h := (chunksOf 128 (p.length / 128) p).foldl shaBlock shaH
  ((h.take 6).map fun x => beBytes 8 x.toNat).flatten

end Sys2Proof.Machine
end

