-- ==== Sys2Proof/Machine/P384.lean ====
section
/-! DEFINITION. ECDH and ECDSA on the curve P-384 (FIPS 186-4, SP 800-56A): the shared values from which R484 and R492 derive keys, and the
identity signature (R479). -/

namespace Sys2Proof.Machine

/-- The prime of the field. -/
def pPrime : Nat := 2 ^ 384 - 2 ^ 128 - 2 ^ 96 + 2 ^ 32 - 1

/-- The number of points of the curve. -/
def pOrder : Nat := 0xFFFFFFFFFFFFFFFFFFFFFFFFFFFFFFFFFFFFFFFFFFFFFFFFC7634D81F4372DDF581A0DB248B0A77AECEC196ACCC52973

/-- The constant term of the curve y^2 = x^3 - 3x + b. -/
def pConst : Nat := 0xB3312FA7E23EE7E4988E056BE3F82D19181D9C6EFE8141120314088F5013875AC656398D8A2ED19D2A85C8EDD3EC2AEF

/-- The base point. -/
def pBase : Nat × Nat :=
  (0xAA87CA22BE8B05378EB1C71EF320AD746E1D3B628BA79B9859F741E082542A385502F25DBF55296C3A545E3872760AB7,
   0x3617DE4A96262C6F5D9E98BF9292DC29F8F41DBD289A147CE9DA3113B5F0B8C00A60B1CE1D7E819D7A431D7C90EA0E5F)

/-- A difference in the field. -/
def fieldSub (a b : Nat) : Nat := (a % pPrime + pPrime - b % pPrime) % pPrime

/-- A power modulo m, by the low n bits of the exponent from the top. -/
def powMod (m a e : Nat) : Nat → Nat
  | 0 => 1
  | n + 1 => let r := powMod m a (e / 2) n; if e % 2 = 1 then r * r % m * a % m else r * r % m

/-- The inverse modulo a prime of 384 bits. -/
def inverseMod (m a : Nat) : Nat := powMod m a (m - 2) 384

/-- A point by (X, Y, Z), for x = X / Z^2 and y = Y / Z^3; Z is 0 at infinity. -/
structure CurvePoint where
  x : Nat
  y : Nat
  z : Nat

/-- Twice a point. -/
def CurvePoint.double (p : CurvePoint) : CurvePoint :=
  let yy := p.y * p.y % pPrime
  let s := 4 * p.x * yy % pPrime
  let zz := p.z * p.z % pPrime
  let m := 3 * fieldSub p.x zz * (p.x + zz) % pPrime
  let x := fieldSub (m * m) (2 * s)
  ⟨x, fieldSub (m * fieldSub s x) (8 * yy * yy), 2 * p.y * p.z % pPrime⟩

/-- The sum of a point and an affine one. -/
def CurvePoint.plus (p : CurvePoint) (q : Nat × Nat) : CurvePoint :=
  if p.z = 0 then ⟨q.1, q.2, 1⟩
  else
    let zz := p.z * p.z % pPrime
    let h := fieldSub (q.1 * zz) p.x
    let r := fieldSub (q.2 * zz % pPrime * p.z) p.y
    if h = 0 then (if r = 0 then p.double else ⟨1, 1, 0⟩)
    else
      let hh := h * h % pPrime
      let v := p.x * hh % pPrime
      let x := fieldSub (r * r) (h * hh + 2 * v)
      ⟨x, fieldSub (r * fieldSub v x) (p.y * (h * hh % pPrime)), p.z * h % pPrime⟩

/-- A multiple of an affine point, by the low n bits of the factor from the top. -/
def multiple (q : Nat × Nat) (k : Nat) : Nat → CurvePoint
  | 0 => ⟨1, 1, 0⟩
  | n + 1 => let p := (multiple q (k / 2) n).double; if k % 2 = 1 then p.plus q else p

/-- The affine coordinates of a point. -/
def CurvePoint.affine (p : CurvePoint) : Nat × Nat :=
  let i := inverseMod pPrime p.z
  let ii := i * i % pPrime
  (p.x * ii % pPrime, p.y * (ii * i % pPrime) % pPrime)

/-- The point lies on the curve. -/
def onCurve (q : Nat × Nat) : Bool :=
  decide (q.1 < pPrime) && decide (q.2 < pPrime) && q.2 * q.2 % pPrime == fieldSub (q.1 * q.1 * q.1 + pConst) (3 * q.1)

/-- The point that 96 bytes spell, X then Y (R480). -/
def pointOf (b : List Byte) : Nat × Nat := (beNat (sliceB b 0 48), beNat (sliceB b 48 48))

/-- A private key from 96 random bytes: 1 to one less than the order. -/
def privateKey (r : Nat) : Nat := 1 + r % (pOrder - 1)

/-- The public key of a private key, 96 bytes. -/
def publicKey (d : Nat) : List Byte :=
  let q := (multiple pBase d 384).affine
  beBytes 48 q.1 ++ beBytes 48 q.2

/-- The shared value of a private key and a public one, 48 bytes. -/
def sharedValue (d : Nat) (pub : List Byte) : List Byte := beBytes 48 (multiple (pointOf pub) d 384).affine.1

/-- The ECDSA signature of a 48-byte digest under a private key and a secret number, r then s (R479, R480). -/
def ecdsaSign (d k : Nat) (digest : List Byte) : List Byte :=
  let r := (multiple pBase k 384).affine.1 % pOrder
  beBytes 48 r ++ beBytes 48 (inverseMod pOrder k * (beNat digest + r * d) % pOrder)

/-- The identity's private key (R479). -/
def idSecret : Nat := privateKey Config.identity.toNat

/-- The identity public key, X then Y (R480). -/
def idKey : List Byte := publicKey idSecret

end Sys2Proof.Machine
end

