-- ==== Sys2Proof/Machine/CalSet.lean ====
section
/-! DEFINITION. The images of calibration sets and the seals of the plate store (R365, R505, R507). -/

namespace Sys2Proof.Machine

/-- The bytes of one instance's coefficients in a set's image (R365). -/
def coefBytes (cls : Nat) (c : List Rat) : List Byte :=
  let i (k : Nat) : Int := ratAway (c.getD k 0)
  match cls with
  | 0 | 2 => leBytes 4 (ofSigned 16 (i 0))
  | 1 => leBytes 4 (ofSigned 18 (i 0))
  | 3 | 8 => leBytes 4 (ofSigned 14 (i 0))
  | 4 => (List.range 11).flatMap fun k => leBytes 8 (i k).toNat
  | 5 | 6 => (List.range 2).flatMap fun k => leBytes 4 (ofSigned 32 (i k))
  | 7 => (List.range 4).flatMap fun k => leBytes 4 (ofSigned 32 (i k))
  | _ => c.flatMap bytes64

/-- The image of a set (R365): header, then the sections in class order. -/
def setImage (n flags tpoint ser devtime refv refvU : Nat) (coef : Nat → Nat → List Rat) : List Byte :=
  leBytes 1 n ++ leBytes 1 flags ++ zeros 2 ++ leBytes 4 tpoint ++ leBytes 4 59464 ++ leBytes 4 ser ++ leBytes 16 devtime
    ++ leBytes 8 refv ++ leBytes 8 refvU ++ zeros 16
    ++ (List.range 13).flatMap fun cls => (List.range (calInstances cls)).flatMap fun i => coefBytes cls (coef cls i)

/-- The image of a shipped set: the nominal values (R362). -/
def shippedImage (n : Nat) : List Byte := setImage n 0 (calTpointReset n) 0 0 0 0 fun cls _ => calNominal cls

/-- A seal without its signature (R505). -/
def sealHead (kind number devtime : Nat) (image : List Byte) : List Byte :=
  leBytes 4 0x5345414C ++ leBytes 1 kind ++ leBytes 1 number ++ zeros 2 ++ leBytes 16 devtime ++ sha384 image

/-- The seal of a shipped set. -/
def shippedSeal (n : Nat) : List Byte :=
  let head := sealHead 0 n 0 (shippedImage n)
  head ++ ecdsaSign idSecret (privateKey (Config.shippedSig n).toNat) (sha384 head)

/-- The image that the plate store holds under a key: sets 0 to 7, curves at 256 plus their number. -/
def Device.plateOf (s : Device) (key : Nat) : Option (List Byte) :=
  match sfind s.plate key with
  | some [] => none
  | some b => some b
  | none => if key < 4 then some (shippedImage key) else none

/-- The seal beside it. -/
def Device.sealOf (s : Device) (key : Nat) : Option (List Byte) :=
  match sfind s.seals key with
  | some [] => none
  | some b => some b
  | none => if key < 4 then some (shippedSeal key) else none

/-- A key pair or the secret number of a signature is drawn (R480): the private key. -/
def drawKey (s : Device) : Nat × Device := (privateKey (Config.random s.free).toNat, { s with free := s.free + 1 })

/-- The identity signature over SHA-384 of bytes (R479, R480, R505). -/
def identitySign (b : List Byte) (s : Device) : List Byte × Device :=
  let (k, s1) := drawKey s
  (ecdsaSign idSecret k (sha384 b), s1)

/-- Write an image to the plate store and seal it (R365, R505). -/
def plateWrite (key kind number : Nat) (image : List Byte) (s : Device) : Device :=
  let head := sealHead kind number s.deviceTime image
  let (sig, s1) := identitySign head s
  { s1 with plate := sput s.plate key image, seals := sput s.seals key (head ++ sig) }

/-- Take an image and its seal out of the plate store. -/
def plateErase (key : Nat) (s : Device) : Device := { s with plate := sput s.plate key [], seals := sput s.seals key [] }

end Sys2Proof.Machine
end

