-- ==== Sys2Proof/Machine/Aes.lean ====
section
/-! DEFINITION. AES-256 (FIPS 197) in Galois/counter mode (NIST SP 800-38D), which R487, R491 and R493 name for packets, FINISH
messages and VC1 blocks. A byte is a number below 256, a block sixteen of them, a round key too. -/

namespace Sys2Proof.Machine

/-! ### The cipher -/

/-- Twice a field element, modulo x^8 + x^4 + x^3 + x + 1. -/
def twice8 (a : Nat) : Nat := if a < 128 then 2 * a else (2 * a - 256) ^^^ 0x1B

/-- The substitutions of the 256 bytes, that of byte a in bits 8a + 7 to 8a: the inverse in the field, 0 of 0, under the affine map. -/
def substTable : Nat :=
  0xc072a49cafa2d4adf04759fa7dc982ca76abd7fe2b670130c56f6bf27b777c63 +
  0x75b227ebe28012079a059618c323c7041531d871f1e5a534ccf73f362693fdb7 * 2 ^ 256 +
  0xcf584c4a39becb6a5bb1fc20ed00d153842fe329b3d63b52a05a6e1b1a2c8309 * 2 ^ 512 +
  0xd2f3ff1021dab6bcf5389d928f40a351a89f3c507f02f94585334d43fbaaefd0 * 2 ^ 768 +
  0xdb0b5ede14b8ee4688902a22dc4f816073195d643d7ea7c41744975fec130ccd * 2 ^ 1024 +
  0x08ae7a65eaf4566ca94ed58d6d37c8e779e4959162acd3c25c2406490a3a32e0 * 2 ^ 1280 +
  0x9e1dc186b95735610ef6034866b53e708a8bbd4b1f74dde8c6b4a61c2e2578ba * 2 ^ 1536 +
  0x16bb54b00f2d99416842e6bf0d89a18cdf2855cee9871e9b948ed9691198f8e1 * 2 ^ 1792

/-- The substitution of a byte, from the table. -/
def substOf (a : Nat) : Nat := bitsOf substTable (8 * a + 7) (8 * a)

def xorNats (a b : List Nat) : List Nat := List.zipWith (· ^^^ ·) a b

/-- The next key word from the one before it and the one eight before, its number being i. -/
def keyWord (i : Nat) (last back : List Nat) : List Nat :=
  let w := match i % 8 with
    | 0 => xorNats ((last.rotateLeft 1).map substOf) [(List.range (i / 8 - 1)).foldl (fun c _ => twice8 c) 1, 0, 0, 0]
    | 4 => last.map substOf
    | _ => last
  xorNats w back

/-- The sixty words of the key schedule, newest first: n further ones. -/
def keyWords : Nat → List (List Nat) → List (List Nat)
  | 0, ws => ws
  | n + 1, ws => keyWords n (keyWord ws.length (ws.getD 0 []) (ws.getD 7 []) :: ws)

/-- The fifteen round keys of a key of 32 bytes. -/
def roundKeys (key : List Byte) : List (List Nat) :=
  let k := (List.range 32).map fun i => (key.getD i 0).toNat
  let words := (keyWords 52 ((List.range 8).map fun w => (k.drop (4 * w)).take 4).reverse).reverse
  (List.range 15).map fun r => ((words.drop (4 * r)).take 4).flatten

/-- Bytes substituted, and row r of the four columns turned by r columns. -/
def shiftBytes (b : List Nat) : List Nat := (List.range 16).map fun i => substOf (b.getD ((i + 4 * (i % 4)) % 16) 0)

/-- A column mixed: each byte is 2, 3, 1 and 1 times those of its column from itself on. -/
def mixBytes (b : List Nat) : List Nat :=
  (List.range 16).map fun i =>
    let at_ (j : Nat) : Nat := b.getD (4 * (i / 4) + (i + j) % 4) 0
    twice8 (at_ 0 ^^^ at_ 1) ^^^ at_ 1 ^^^ at_ 2 ^^^ at_ 3

/-- A block under the round keys of a key. -/
def cipherWith (ks : List (List Nat)) (block : List Nat) : List Nat :=
  let mid := (ks.drop 1).dropLast.foldl (fun b k => xorNats (mixBytes (shiftBytes b)) k) (xorNats block (ks.headD []))
  xorNats (shiftBytes mid) (ks.getLastD [])

/-- AES-256 of a 16-byte block. -/
def aes256 (key block : List Byte) : List Byte := natBytesOf (cipherWith (roundKeys key) (block.map BitVec.toNat))
where natBytesOf (l : List Nat) : List Byte := l.map (BitVec.ofNat 8)

/-! ### Galois/counter mode -/

/-- The product of two blocks as polynomials whose first bit is the constant term, the block's first bit being its number's highest. -/
def blockTimes (x y : Nat) : Nat :=
  ((List.range 128).foldl (fun (acc : Nat × Nat) i =>
    (if bitOf x (127 - i) then acc.1 ^^^ acc.2 else acc.1, if acc.2 % 2 = 1 then acc.2 / 2 ^^^ 0xE1 * 2 ^ 120 else acc.2 / 2)) (0, y)).1

/-- Bytes with zeros to a whole number of blocks. -/
def wholeBlocks (b : List Byte) : List Byte := b ++ zeros (16 * ceilDiv b.length 16 - b.length)

/-- The hash of additional data and ciphertext under a hash key. -/
def blockHash (h : Nat) (aad ct : List Byte) : Nat :=
  let all := wholeBlocks aad ++ wholeBlocks ct ++ beBytes 8 (8 * aad.length) ++ beBytes 8 (8 * ct.length)
  (chunksOf 16 (all.length / 16) all).foldl (fun y b => blockTimes (y ^^^ beNat b) h) 0

/-- Bytes, which n blocks go before, combined with the key stream that counter 2 begins. -/
def counterMode (key iv : List Byte) (n : Nat) (b : List Byte) : List Byte :=
  let ks := roundKeys key
  let stream := (List.range (ceilDiv b.length 16)).flatMap fun i =>
    (cipherWith ks ((iv ++ beBytes 4 (n + i + 2)).map BitVec.toNat)).map (BitVec.ofNat 8)
  List.zipWith (· ^^^ ·) b stream

/-- The tag of additional data and ciphertext, 16 bytes. -/
def gcmTag (key iv aad ct : List Byte) : List Byte :=
  let h := beNat (aes256 key (zeros 16))
  List.zipWith (· ^^^ ·) (beBytes 16 (blockHash h aad ct)) (aes256 key (iv ++ beBytes 4 1))

end Sys2Proof.Machine
end

