-- ==== Sys2Proof/Machine/Kdf.lean ====
section
/-! DEFINITION. HMAC (FIPS 198-1) and HKDF (RFC 5869) with SHA-384, from which R484 and R492 derive the keys. -/

namespace Sys2Proof.Machine

/-- HMAC-SHA-384 with a key of at most 128 bytes. -/
def hmac384 (key text : List Byte) : List Byte :=
  let pad (v : Byte) : List Byte := (List.range 128).map fun i => key.getD i 0 ^^^ v
  sha384 (pad 0x5C ++ sha384 (pad 0x36 ++ text))

/-- The blocks of HKDF's expansion from number i on: n of them, behind the block before. -/
def expandKey (prk info : List Byte) : Nat → Nat → List Byte → List Byte
  | 0, _, _ => []
  | n + 1, i, t => let b := hmac384 prk (t ++ info ++ beBytes 1 i); b ++ expandKey prk info n (i + 1) b

/-- HKDF-SHA-384: n bytes from an input key, a salt of at most 128 bytes and an info. -/
def hkdf384 (salt ikm info : List Byte) (n : Nat) : List Byte :=
  sliceB (expandKey (hmac384 salt ikm) info (ceilDiv n 48) 1 []) 0 n

end Sys2Proof.Machine
end

