-- ==== Sys2Proof/Machine/Protect.lean ====
section
/-! DEFINITION. The keys and the protection of what the transports carry (spec/17_security.md): the session keys and the packets under them
(R484, R487 to R489), the link keys and the VC1 blocks under them (R491 to R494). -/

namespace Sys2Proof.Machine

def Device.link (s : Device) (p : Nat) : Link := sget {} s.links p
def Device.putLink (s : Device) (p : Nat) (x : Link) : Device := { s with links := sput s.links p x }
def Device.updLink (s : Device) (p : Nat) (f : Link → Link) : Device := s.putLink p (f (s.link p))

/-- n random bytes of the device (R480). -/
def drawBytes (n : Nat) (s : Device) : List Byte × Device :=
  (leBytes n (Config.random s.free).toNat, { s with free := s.free + 1 })

/-- The 48-byte shared value of a private key and a public key that came: a key that is no point of the curve leaves it open. -/
def agree (d : Nat) (pub : List Byte) (s : Device) : List Byte × Device :=
  if onCurve (pointOf pub) then (sharedValue d pub, s) else drawBytes 48 s

/-! ### Packets (R484, R487, R488) -/

/-- The 72 key bytes of session n (R484): the info is "LQ5164 S" and the byte n. -/
def sessionKeys (n : Nat) (shared hostNonce nonce : List Byte) : List Byte :=
  hkdf384 (hostNonce ++ nonce) shared ([0x4C, 0x51, 0x35, 0x31, 0x36, 0x34, 0x20, 0x53] ++ leBytes 1 n) 72

/-- The key of a direction: 0 from the host to the device, 1 back (R484). -/
def Session.key (x : Session) (dir : Nat) : List Byte := sliceB x.keys (32 * dir) 32

/-- The initialisation vector of a packet (R488). -/
def Session.iv (x : Session) (dir vc count : Nat) : List Byte :=
  sliceB x.keys (64 + 4 * dir) 4 ++ leBytes 1 vc ++ beBytes 2 x.epoch ++ beBytes 5 count

/-- A packet's payload frames as they are sent, and its tag (R487); a reply to a session that is not open goes in clear under zeros. -/
def Session.protect (x : Session) (vc count : Nat) (header payload : List Byte) : List Byte × List Byte :=
  if x.isOpen then
    let ct := counterMode (x.key 1) (x.iv 1 vc count) 0 payload
    (ct, gcmTag (x.key 1) (x.iv 1 vc count) header ct)
  else (payload, zeros 16)

/-- The COUNT of a packet from the host among the 16 that the session tries (R487, R489): none where its tag verifies under none. -/
def Session.tagCount (x : Session) (vc next : Nat) (header body tag : List Byte) : Option Nat :=
  ((List.range 16).map (next + ·)).find? fun c => gcmTag (x.key 0) (x.iv 0 vc c) header body == tag

/-! ### Links (R491 to R494) -/

/-- The keys of the two directions of a link, the sender with the lower identity key first (R492): the info is "LQ5164 L". -/
def linkKeys (shared lower upper : List Byte) : List Byte × List Byte :=
  let k := hkdf384 (lower ++ upper) shared [0x4C, 0x51, 0x35, 0x31, 0x36, 0x34, 0x20, 0x4C] 136
  (k.take 68, k.drop 68)

/-- The keystream of reserved slot v under a direction's keys (R493); none before attestation. -/
def vc1Stream (keys : List Byte) (v : Nat) : Nat :=
  if keys.isEmpty then 0 else beNat ((aes256 (sliceB keys 0 32) (sliceB keys 64 4 ++ beBytes 8 v ++ zeros 4)).take 8)

/-- The 96-bit tag of the block sent in reserved slot v (R493): its ciphertext is taken as the eight bytes in the order sent. -/
def vc1Tag (keys : List Byte) (v ct : Nat) : Nat :=
  if keys.isEmpty then 0 else beNat ((gcmTag (sliceB keys 32 32) (sliceB keys 64 4 ++ beBytes 8 v) (beBytes 8 ct) []).take 12)

/-- The tag of a FINISH, SEQ being 0 (R491): the header and the payload are what it authenticates. -/
def finishTag (keys header payload : List Byte) : List Byte := gcmTag (sliceB keys 32 32) (zeros 12) (header ++ payload) []

/-- A received VC1 block stands as acted on until its tag comes (R243, R495): its slot, its arrival, its word and the tag it must have. -/
def actOn (q : Nat) (b : Vc1Block) (word : Nat) (s : Device) : Device :=
  s.updLink q fun x => { x with acted := x.acted ++ [(b.v, s.ssi, word, vc1Tag x.rxKeys b.v (b.bits ^^^ vc1Stream x.rxKeys b.v))] }

end Sys2Proof.Machine
end

