-- ==== Sys2Proof/Machine/Decision.lean ====
section
/-! DEFINITION. Decision words, gates and verdicts (spec/03_pulse_programs.md R103 to R112; spec/07_feedback.md), decision
and revoke frames, the VC1 queue (R234), and tainting. -/

namespace Sys2Proof.Machine

/-- UNDECIDED (R225). -/
def undecided : Nat := 3

/-- A port is up in the peer role (R434). -/
def Device.portUp (s : Device) (p : Nat) : Bool := s.flag F.lkPctlRole p && s.fld F.lkPstatLstate p == 3

/-! ### Bus positions and latching (R226, R227, R106) -/

/-- The word latched into the lanes of a condition that wait for position pos. -/
def Cond.offer (c : Cond) (pos : Nat) (w : DecWord) : Cond :=
  if c.ta ≤ w.a then
    { c with lanes := c.lanes.map fun (l, m, h) => (l, m, if l = pos ∧ h.isNone then some w else h) }
  else c

/-- A word with VAL set arrives at a bus position: the four most recent are held, DF_WORD shows it, and every armed
condition that waits for it latches it (R106, R227). -/
def placeWord (pos : Nat) (w : DecWord) (s : Device) : Device :=
  let held := sget [] s.words pos ++ [w]
  let s1 := s.putReg .dfWord (BitVec.ofNat 32 (8 * b2n w.f + 4 + w.state)) 0 pos
  { s1 with
    words := sput s.words pos (held.drop (held.length - 4))
    placed := s.placed ++ [(pos, w.state)]
    seqs := s.seqs.map fun (k, q) =>
      (k, { q with cond := q.cond.map fun c => c.offer pos w, old := q.old.map fun c => c.offer pos w }) }

/-- The held word of least A not less than T_a at a position; of two with one A, the earlier (R227). -/
def Device.heldWord (s : Device) (pos ta : Nat) : Option DecWord :=
  ((sget [] s.words pos).filter fun w => decide (ta ≤ w.a)).foldl (fun best w =>
    match best with
    | none => some w
    | some b => if w.a < b.a then some w else some b) none

/-- The lanes and masks of gate g of sequencer k (R112). -/
def Device.gateLanes (s : Device) (k g : Nat) : List (Nat × Nat) :=
  let all := [(s.fld F.csGateL01Lane0 k g, s.fld F.csGateCtrlMask0 k g), (s.fld F.csGateL01Lane1 k g, s.fld F.csGateCtrlMask1 k g),
    (s.fld F.csGateL23Lane2 k g, s.fld F.csGateCtrlMask2 k g), (s.fld F.csGateL23Lane3 k g, s.fld F.csGateCtrlMask3 k g)]
  all.take (s.fld F.csGateCtrlNlanes k g + 1)

/-- Arm one lane at T_a (R106). -/
def armLane (k lane mask : Nat) (dflt : Bool) (ta : Nat) (s : Device) : Cond :=
  { ser := (s.seq k).condSer + 1, gate := false, lanes := [(lane, mask, s.heldWord lane ta)], truth := 0, dflt := dflt,
    ta := ta }

/-- Arm gate g of sequencer k at T_a (R106, R112). -/
def armGate (k g ta : Nat) (s : Device) : Cond :=
  { ser := (s.seq k).condSer + 1, gate := true
    lanes := (s.gateLanes k g).map fun (l, m) => (l, m, s.heldWord l ta)
    truth := s.fld F.csGateCtrlTruth k g, dflt := s.flag F.csGateCtrlDefault k g, ta := ta }

/-! ### Verdicts (R105, R107, R108, R111) -/

/-- The word of a lane that is usable at T_c: latched, A not past T_c, and it has reached the sequencers. -/
def usable (tc now : Nat) (h : Option DecWord) : Option DecWord :=
  match h with
  | some w => if w.a ≤ tc ∧ w.reach ≤ now then some w else none
  | none => none

/-- The verdict of a condition at T_c: V, whether a lane had no usable word, and the usable words (R107, R108). -/
def Cond.judge (c : Cond) (tc now : Nat) : Bool × Bool × List DecWord :=
  let us := c.lanes.map fun (_, m, h) => (m, usable tc now h)
  let words := us.filterMap Prod.snd
  let miss := us.any fun u => u.2.isNone
  let v :=
    if miss || words.any fun w => w.state == undecided then c.dflt
    else
      let bits := us.map fun (m, h) => match h with | some w => bitOf m w.state | none => false
      if c.gate then bitOf c.truth (b2n (bits.getD 0 false) + 2 * b2n (bits.getD 1 false) + 4 * b2n (bits.getD 2 false)
        + 8 * b2n (bits.getD 3 false))
      else bits.getD 0 false
  (v, miss, words)

/-- Every needed lane has latched a word that has reached the sequencers (R111). -/
def Cond.certain (c : Cond) (now : Nat) : Bool :=
  c.lanes.all fun (_, _, h) => match h with | some w => decide (w.reach ≤ now) | none => false

/-- V is known at cursor T_c in this cycle: the words are certain, or this is the last cycle whose issue index is not
past T_c - 64, or a later one (R105, R111). -/
def Device.known (s : Device) (c : Cond) (tc : Nat) : Bool :=
  c.v.isSome || c.certain s.cycle || decide (tc < s.issueIndex + 96)

/-- A sequencer's block, open or closed, that runs at an index. -/
def Seq.blockAt (q : Seq) (x : Nat) : Option Blk :=
  (q.ending ++ q.blk.toList).find? fun b =>
    decide (b.start ≤ x) && (match b.stop with | some e => decide (x < e) | none => true)

/-- GANG of a sequencer (R83). -/
def Device.gang (s : Device) (k : Nat) : Nat := s.fld F.csCtrlGang k

/-- The other members of a sequencer's gang, whatever their state. -/
def Device.gangMates (s : Device) (k : Nat) : List Nat :=
  if s.gang k = 0 then [] else (s.seqs.map Prod.fst).filter fun m => m != k && s.gang m == s.gang k

/-- The blocks of the gang of sequencer k, its own excepted, that run at T_c (R240, R244). -/
def Device.matesAt (s : Device) (k tc : Nat) : List (Nat × Nat) :=
  (s.gangMates k).filterMap fun m => ((s.seq m).blockAt tc).map fun b => (m, b.uid)

/-- A verdict that used a late word makes blocks late-dependent from T_c (R239, R240). -/
def lateFrom (bs : List (Nat × Nat)) (tc : Nat) (s : Device) : Device :=
  forAllDo bs (fun (m, u) t =>
    t.updSeq m fun q => { q with late := sput q.late u (match sfind q.late u with | some x => min x tc | none => tc) }) s

/-- Event numbers of a sequencer (R116). -/
def seqEvent (k evt : Nat) : Nat := if k < 512 then evCode 2 k evt else evCode 3 (k - 512) evt

/-! ### CRC-16 and VC1 blocks (R231, R232, R234) -/

/-- CRC-16 over n bits of a number, entered from bit n - 1 down (R232). -/
def crc16 : Nat → Nat → Nat → Nat
  | 0, _, r => r
  | n + 1, x, r =>
    let top := (r / 32768 % 2 + b2n (bitOf x n)) % 2
    let r1 := r * 2 % 65536
    crc16 n x (if top = 1 then Nat.xor r1 0x1021 else r1)

/-- A VC1 block from its bits [63:16], with its CHECK (R231). -/
def sealBlock (top48 : Nat) : Nat := top48 * 65536 + crc16 48 top48 0xFFFF

/-- CHECK of a VC1 block holds. -/
def checkOk (b : Nat) : Bool := crc16 48 (b / 65536) 0xFFFF == b % 65536

/-- A decision frame (R231). -/
def decisionFrame (hops state : Nat) (f : Bool) (ch due : Nat) : Nat :=
  sealBlock (0x1 * 2 ^ 44 + hops % 4 * 2 ^ 42 + state % 4 * 2 ^ 40 + b2n f * 2 ^ 39 + ch % 256 * 2 ^ 31 + due % 2 ^ 31)

/-- A revoke frame (R246). -/
def revokeFrame (ch due : Nat) : Nat := sealBlock (0x4 * 2 ^ 44 + ch % 256 * 2 ^ 31 + due % 2 ^ 31)

/-- Queue a VC1 block on port p (R234): a full queue drops it, which DF_TXDROP counts for a decision or event
frame. -/
def queueVc1 (p b : Nat) (s : Device) : Device :=
  let x := s.link p
  if x.vq.length < 64 then s.putLink p { x with vq := x.vq ++ [b] }
  else ((s.addFld F.dfTxdrop 1).setFlag F.dfStatusTxDrop).presentNow (evCode 0 2 3)

/-- DF_PUB entries that publish a lane (R230). -/
def Device.pubsOf (s : Device) (lane : Nat) : List Nat :=
  if s.flag F.dfCtrlTxEn then (List.range 256).filter fun c => s.flag F.dfPubEn c && s.fld F.dfPubLane c == lane else []

/-- Publish a word that lane placed on the bus (R230, R233). -/
def publish (lane : Nat) (w : DecWord) (s : Device) : Device :=
  forAllDo (s.pubsOf lane) (fun c t =>
    forAllDo ((bitsSet 8 (t.fld F.dfPubPorts c)).filter t.portUp) (fun p t =>
      let due := w.a - 1536 + 2688 + ceilDiv (t.reg .tbLdly p).toNat 256 + (t.fld F.dfPubExtra c)
      queueVc1 p (decisionFrame 0 w.state w.f c due) t) t) s

/-- A word of a local lane whose window's last sample is L is placed on the bus (R104, R226, R229, R230): it reaches the
sequencers in the first cycle that begins at or after L + 737. -/
def placeLocal (lane l state : Nat) (f : Bool) (s : Device) : Device :=
  let w : DecWord := { a := l + 1536, state := state, f := f, reach := s.cycleOf (l + 737 + 31) }
  publish lane w (placeWord lane w s)

/-! ### Reception (R235 to R238, R242) -/

/-- The index congruent to due modulo 2^31 nearest to u (R235). -/
def nearIndex (due u : Nat) (w : Nat) : Int :=
  let d := ((due : Int) - u) % (2 ^ w : Nat)
  if d < (2 ^ (w - 1) : Nat) then (u : Int) + d else (u : Int) + d - (2 ^ w : Nat)

/-- Forwarding entries of the decision fabric that match channel c received on port q, and their joined OUT set without
q (R236). -/
def Device.fwdOut (s : Device) (c q : Nat) : Bool × List Nat :=
  let es := (List.range 64).filter fun n =>
    s.flag F.dfFwdEn n && decide (s.fld F.dfFwdChLo n ≤ c) && decide (c ≤ s.fld F.dfFwdChHi n) && bitOf (s.fld F.dfFwdIoIn n) q
  (!es.isEmpty, (List.range 8).filter fun r => r != q && es.any fun n => bitOf (s.fld F.dfFwdIoOut n) r)

/-- Count a frame or forward dropped, with its flag (R235, R236). -/
def rxDrop (f : Fld) (s : Device) : Device := (s.addFld F.dfRxdrop 1).setFlag f

/-- Forward a frame of channel c received on q with the block made for HOPS + 1 (R236): the ports that are down and a frame with HOPS
3 are counted; answers the ports on which the block is sent. -/
def forward (c q hops : Nat) (blk : Nat) (s : Device) : List Nat × Device :=
  let out := (s.fwdOut c q).2
  let s1 := forAllDo (out.filter fun r => !(s.portUp r)) (fun _ t => rxDrop F.dfStatusFwdDrop t) s
  if hops = 3 then ([], rxDrop F.dfStatusHoplimit s1)
  else
    let up := out.filter s.portUp
    (up.filter fun r => decide ((s.link r).vq.length < 64), forAllDo up (fun r t => queueVc1 r blk t) s1)

/-- A block with a bad header or CHECK is not acted on (R441); the row's own op is called for a good one. -/
def Vc1Block.good (b : Vc1Block) : Bool := b.hdrOk && checkOk b.bits

/-- The TYPE of a VC1 block (R231). -/
def Vc1Block.type (b : Vc1Block) : Nat := bitsOf b.bits 63 60

/-- A decision frame with a valid CHECK received on port q: delivery, forwarding and the drops (R235 to R238). The block
stands as acted on until its tag comes (R243, R495). -/
def decisionRx (q : Nat) (b : Vc1Block) (s : Device) : Device :=
  let hops := bitsOf b.bits 59 58
  let st := bitsOf b.bits 57 56
  let f := bitOf b.bits 55
  let c := bitsOf b.bits 54 47
  let u := s.issueIndex
  let d := nearIndex (bitsOf b.bits 46 16) u 31
  if d < (u : Int) - 1048576 ∨ (u : Int) + 131072 < d then
    actOn q b 0 (rxDrop F.dfStatusStale s)
  else
    let id := s.rxNext
    let (hit, _) := s.fwdOut c q
    let (fwd, s1) := forward c q hops (decisionFrame (hops + 1) st f c (bitsOf b.bits 46 16)) s
    let deliver := s.flag F.dfXinEn 0 c && s.fld F.dfXinPort 0 c == q
    let s2 := { s1 with
      rxNext := id + 1
      rx := s1.rx ++ [({ id := id, ch := c, port := q, d := d.toNat, fwd := fwd, suspect := true, uses := [] } : RxWord)] }
    let s3 := actOn q b id s2
    if deliver then
      let ur := u + 64
      if (ur : Int) ≤ d - 64 then
        placeWord (1024 + c) { a := d.toNat, state := st, f := f, reach := s.cycle + 2, rx := id } s3
      else
        let a := ur + 64
        let s4 := ((s3.addFld F.dfLatecnt 1).setFlag F.dfStatusLateRx).present (evCode 0 2 0) a
        placeWord (1024 + c) { a := a, state := st, f := true, reach := s.cycle + 2, rx := id } s4
    else if hit then s3
    else rxDrop F.dfStatusUnrouted s3

/-- A block with a valid CHECK whose TYPE is none of 1 to 4 (R236). -/
def unknownBlock (q : Nat) (b : Vc1Block) (s : Device) : Device :=
  actOn q b 0 (rxDrop F.dfStatusUnrouted s)

/-- The remote slots accepted on port p (R242). -/
def Device.slotsOf (s : Device) (p : Nat) : List Nat :=
  (List.range 256).filter fun c => s.flag F.dfXinEn 0 c && s.fld F.dfXinPort 0 c == p

/-- The synthetic word of this cycle (R242). -/
def Device.synthetic (s : Device) : DecWord := { a := s.issueIndex + 64, state := undecided, f := false, reach := s.cycle }

/-- The slots of port p, which is down, that hold no synthetic word of this cycle yet (R242). -/
def Device.slotsBare (s : Device) (p : Nat) : List Nat :=
  if s.portUp p then [] else (s.slotsOf p).filter fun c => !((sget [] s.words (1024 + c)).contains s.synthetic)

/-- The synthetic words of a cycle in which port p is down (R242). -/
def syntheticOp (p : Nat) (s : Device) : Device :=
  forAllDo (s.slotsBare p) (fun c t => placeWord (1024 + c) t.synthetic t) s

/-- The synthetic words of a cycle, before verdicts are formed in it (R242). -/
def syntheticLand (s : Device) : Device := forAllDo (List.range 8) syntheticOp s

/-- Port p goes down: the words held for its slots are discarded, and its VC1 queue with the frames counted (R234, R242,
R445). -/
def portLost (p : Nat) (s : Device) : Device :=
  let s1 := { s with words := s.words.filter fun x => !(decide (1024 ≤ x.1) && (s.slotsOf p).contains (x.1 - 1024)) }
  let frames := ((s.link p).vq.filter fun b => bitsOf b 63 60 == 1 || bitsOf b 63 60 == 2).length
  let s2 := s1.updLink p fun x => { x with vq := [] }
  if frames = 0 then s2 else (s2.addFld F.dfTxdrop frames).setFlag F.dfStatusTxDrop

/-! ### Tainting (R243 to R246) -/

/-- TAINTED in the records of an affected block that a ring or a spool still holds (R245). -/
def Record.taint (bs : List (Nat × Nat)) (r : Record) : Record :=
  if bs.contains (512 + r.lane / 16, r.uid) then { r with flags := orBit r.flags 7 } else r

/-- The record rings and spools with TAINTED set for affected blocks, in DRAM too (R245). -/
def taintRecords (bs : List (Nat × Nat)) (s : Device) : Device :=
  let lines := s.inputs.flatMap fun (_, x) => (x.spool.filter fun (_, r) => r.taint bs != r).map fun (l, r) => (l, (r.taint bs).flags)
  let s1 := { s with
    inputs := s.inputs.map fun (i, x) =>
      (i, { x with ring := x.ring.map (Record.taint bs), spool := x.spool.map fun (l, r) => (l, r.taint bs) }) }
  forAllDo lines (fun x t => dramPatch x.1 24 (leBytes 2 x.2) t) s1

/-- The TAINT entries of a block: one per tone that has records of it (R468). -/
def Device.taintEntries (s : Device) (b : Nat × Nat) : List (List Byte) :=
  if b.1 < 512 then []
  else ((s.seq b.1).folios.filter fun x => x.1 / 16 == b.2).map fun (key, ser, first, stop) =>
    leBytes 1 (b.1 - 512) ++ leBytes 1 (key % 16) ++ leBytes 2 0 ++ leBytes 4 ser ++ leBytes 4 first ++ leBytes 4 stop

/-- Send TAINT notices for entries, at most 255 to a notice (R468). -/
def taintNotice (owner : Option (Nat × Bool)) (entries : List (List Byte)) (s : Device) : Device :=
  forAllDo (chunksOf 255 (entries.length + 1) entries) (fun es t =>
    t.notice 0x8003 stOk owner (leBytes 2 es.length ++ zeros 6 ++ es.flatten)) s

/-- Blocks become affected (R244, R245): their records carry TAINTED from now on, those still held are marked, and TAINT
notices name them and the captures that depend on a tainted event. A notice about an input SEALED to a session goes
to that session alone (R469). -/
def affect (bs : List (Nat × Nat)) (caps : List (Nat × Nat)) (s : Device) : Device :=
  let fresh := (bs.filter fun (k, u) => !((s.seq k).affected.contains u)).eraseDups
  let s1 := forAllDo fresh (fun (k, u) t => t.updSeq k fun q => { q with affected := q.affected ++ [u] }) s
  let s2 := taintRecords fresh s1
  let capEntry (c : Nat × Nat) : List Byte := leBytes 1 c.1 ++ leBytes 1 0xFF ++ leBytes 6 0 ++ leBytes 4 c.2 ++ leBytes 4 0
  let ins := ((fresh.filter fun b => decide (512 ≤ b.1)).map fun b => b.1 - 512) ++ caps.map Prod.fst
  let isSealed (i : Nat) : Bool := s.seqSealed (512 + i) && s.seqOwner (512 + i) != firmware
  let entriesOf (p : Nat → Bool) : List (List Byte) :=
    (fresh.filter fun b => decide (512 ≤ b.1) && p (b.1 - 512)).flatMap s2.taintEntries ++ (caps.filter fun c => p c.1).map capEntry
  let s3 := forAllDo (ins.filter isSealed).eraseDups (fun i t =>
    taintNotice (some (s.seqOwner (512 + i), true)) (entriesOf (· == i)) t) s2
  taintNotice none (entriesOf fun i => !(isSealed i)) s3

/-- Words become tainted (R244): the flag of the block's status, the count, the event, the monitor, and the affected
blocks; nothing where none is named. -/
def taint (ids : List Nat) (flag : Fld) (evt : Nat) (s : Device) : Device :=
  let ws := s.rx.filter fun r => ids.contains r.id && !r.tainted
  if ws.isEmpty then s
  else
    let s1 := { s with rx := s.rx.map fun (r : RxWord) => if ids.contains r.id then { r with tainted := true, suspect := false } else r }
    let s2 := (((s1.setFlag flag).addFld F.dfTaintcnt 1).presentNow (evCode 0 2 evt)).monitor 273 1
    affect (ws.flatMap RxWord.uses) (ws.flatMap RxWord.caps) s2

/-- The least of a list of numbers, if any. -/
def leastOf (l : List Nat) : Option Nat := l.min?

/-- Revoke frames for tainted words that were forwarded (R246). -/
def revokeAll (ids : List Nat) (s : Device) : Device :=
  let ws := s.rx.filter fun r => ids.contains r.id && decide (r.ch < 256)
  let pairs := (ws.flatMap fun r => r.fwd.map fun p => (r.ch, p)).eraseDups
  forAllDo pairs (fun (c, p) t =>
    match ((ws.filter fun r => r.ch == c && r.fwd.contains p).map RxWord.d).min? with
    | some d => if t.portUp p then queueVc1 p (revokeFrame c d) t else t
    | none => t) s

/-- The words of port q whose tags are not verified (R243). -/
def Device.suspects (s : Device) (q : Nat) : List Nat :=
  (s.rx.filter fun r => r.port == q && r.suspect).map RxWord.id

/-- A tag check fails on port q (R244): the words suspect there become tainted, and those forwarded are revoked. The
caller takes the link down. -/
def taintPort (q : Nat) (s : Device) : Device :=
  let ids := s.suspects q
  revokeAll ids (taint ids F.dfStatusTaint 1 s)

/-- A revoke frame with a valid CHECK received on port q (R246). -/
def revokeRx (q : Nat) (b : Vc1Block) (s : Device) : Device :=
  let c := bitsOf b.bits 54 47
  let due := bitsOf b.bits 46 16
  let d := nearIndex due s.issueIndex 31
  let hops := bitsOf b.bits 59 58
  let blk := sealBlock (0x4 * 2 ^ 44 + (hops + 1) % 4 * 2 ^ 42 + c * 2 ^ 31 + due)
  let (_, s1) := forward c q hops blk s
  let ids := (s1.rx.filter fun (r : RxWord) => r.ch == c && decide (d ≤ r.d)).map RxWord.id
  actOn q b 0 (taint ids F.dfStatusRevoked 2 s1)

/-- The blocks that use what a remote word or event brought: they join its uses, and are affected at once where it is
tainted already (R244, R269). -/
def useRx (ids : List Nat) (bs : List (Nat × Nat)) (s : Device) : Device :=
  if ids.isEmpty then s
  else
    let s1 := { s with rx := s.rx.map fun (r : RxWord) => if ids.contains r.id then { r with uses := r.uses ++ bs } else r }
    if s.rx.any fun r => ids.contains r.id && r.tainted then affect bs [] s1 else s1

/-- Form the verdict of a condition of sequencer k at its cursor T_c (R107, R108, R239, R244): the flags, the events, and the
condition with its verdict. -/
def formVerdict (k : Nat) (c : Cond) (tc : Nat) (s : Device) : Cond × Device :=
  let (v, miss, words) := c.judge tc s.cycle
  let s1 := if miss then (s.setFlag F.csStatusDecMiss k).present (seqEvent k 8) tc else s
  let late := words.any DecWord.f
  let ids := (words.map DecWord.rx).filter (· != 0)
  let s2 := if late then lateFrom [(k, c.uid)] tc (s1.setFlag F.csStatusDecLate k) else s1
  let s3 := useRx ids [(k, c.uid)] s2
  let s4 := if late || !ids.isEmpty then { s3 with verdicts := s3.verdicts ++ [(k, tc, late, ids)] } else s3
  ({ c with v := some v }, s4.setFld F.csStatusCond (b2n v) k)

/-- The verdicts whose T_c lies in the current word touch the blocks of the gang that run at T_c: the read-out blocks become
late-dependent where a word was late, and every block is affected where a word is tainted, now or later (R240, R244). -/
def gangLand (s : Device) : Device :=
  let due := s.verdicts.filter fun v => decide (v.2.1 < s.ssi + 32)
  forAllDo due (fun (k, tc, late, ids) t =>
    let bs := t.matesAt k tc
    useRx ids bs (if late then lateFrom (bs.filter fun b => decide (512 ≤ b.1)) tc t else t))
    { s with verdicts := s.verdicts.filter fun v => decide (s.ssi + 32 ≤ v.2.1) }

/-- A tag of port q verifies: the block of its slot is no longer waited for, and its word no longer suspect (R495). -/
def tagPass (q v : Nat) (s : Device) : Device :=
  let ids := ((s.link q).acted.filter fun a => a.1 % 2 ^ 32 == v).map fun a => a.2.2.1
  let s1 := { s with rx := s.rx.map fun (r : RxWord) => if ids.contains r.id then { r with suspect := false } else r }
  s1.updLink q fun x => { x with acted := x.acted.filter fun a => a.1 % 2 ^ 32 != v }

end Sys2Proof.Machine
end

