-- ==== Sys2Proof/Machine/DemodInstr.lean ====
section
/-! DEFINITION. The 32-bit instructions of the demodulation engine (R201): decoded form, encoder, decoder, and the check
of a whole program store (R204, R208). -/

namespace Sys2Proof.Machine

/-- A demodulation instruction, decoded; COUNT and LEN as they run, not as the fields hold them. -/
inductive DInstr where
  | nop
  | mac (acc : Nat) (conj ksrc : Bool)
  | skip (advk : Bool) (count : Nat)
  | rep (len count : Nat)
  | setkp (tap : Nat)
  | setps (ps : Nat)
  | add (dst src : Nat) (sub : Bool) (sh : Nat)
  | clr (acc : Nat)
  | endP
  deriving DecidableEq, Repr

/-- Every field lies in its range. -/
def DInstr.wf : DInstr → Bool
  | .nop | .endP => true
  | .mac a _ _ => decide (a < 4)
  | .skip _ n => decide (1 ≤ n) && decide (n ≤ 65536)
  | .rep l n => decide (1 ≤ l) && decide (l ≤ 16) && decide (1 ≤ n) && decide (n ≤ 65536)
  | .setkp t => decide (t < 32768)
  | .setps p => decide (p < 16)
  | .add d r _ h => decide (d < 4) && decide (r < 4) && decide (h < 16)
  | .clr a => decide (a < 4)

/-- The 32-bit word of an instruction (R201). -/
def DInstr.encode : DInstr → Nat
  | .nop => 0
  | .mac a c k => 1 * 2 ^ 27 + a * 2 ^ 25 + b2n c * 2 ^ 24 + b2n k * 2 ^ 23
  | .skip a n => 2 * 2 ^ 27 + b2n a * 2 ^ 23 + (n - 1)
  | .rep l n => 3 * 2 ^ 27 + (l - 1) * 2 ^ 23 + (n - 1)
  | .setkp t => 4 * 2 ^ 27 + t
  | .setps p => 5 * 2 ^ 27 + p
  | .add d r u h => 6 * 2 ^ 27 + d * 2 ^ 25 + r * 2 ^ 23 + b2n u * 2 ^ 22 + h
  | .clr a => 7 * 2 ^ 27 + a * 2 ^ 25
  | .endP => 31 * 2 ^ 27

/-- The instruction that a word's fields spell, its reserved bits not yet checked. -/
def DInstr.parse (w : Nat) : Option DInstr :=
  match bitsOf w 31 27 with
  | 0 => some .nop
  | 1 => some (.mac (bitsOf w 26 25) (bitOf w 24) (bitOf w 23))
  | 2 => some (.skip (bitOf w 23) (bitsOf w 15 0 + 1))
  | 3 => some (.rep (bitsOf w 26 23 + 1) (bitsOf w 15 0 + 1))
  | 4 => some (.setkp (bitsOf w 14 0))
  | 5 => some (.setps (bitsOf w 3 0))
  | 6 => some (.add (bitsOf w 26 25) (bitsOf w 24 23) (bitOf w 22) (bitsOf w 3 0))
  | 7 => some (.clr (bitsOf w 26 25))
  | 31 => some .endP
  | _ => none

/-- The decoder: none for a reserved opcode or a reserved bit that is set (R201). -/
def DInstr.decode (w : Nat) : Option DInstr :=
  match DInstr.parse w with
  | some i => if i.encode = w then some i else none
  | none => none

/-- An instruction that a repeat body may hold (R204). -/
def DInstr.inBody : DInstr → Bool
  | .rep .. | .endP => false
  | _ => true

/-- The word at address a of a program store keeps R201 and R204. -/
def dprogWordOk (word : Nat → Nat) (a : Nat) : Bool :=
  match DInstr.decode (word a) with
  | none => false
  | some (.rep l _) =>
    decide (a + l ≤ 255) && (List.range l).all fun j =>
      match DInstr.decode (word (a + 1 + j)) with
      | some i => i.inBody
      | none => false
  | some _ => true

/-- The first address of a program store that breaks R201 or R204. -/
def dprogFault (word : Nat → Nat) : Option Nat := (List.range 256).find? fun a => !(dprogWordOk word a)

end Sys2Proof.Machine
end

