-- ==== Sys2Proof/Machine/Demod.lean ====
section
/-! DEFINITION. The demodulation engine of a lane (spec/06_readout_chain.md, R192 to R207): windows, decimated samples, and
the engine's steps. -/

namespace Sys2Proof.Machine

def Device.lane (s : Device) (l : Nat) : Lane := sget {} s.lanes l
def Device.putLane (s : Device) (l : Nat) (x : Lane) : Device := { s with lanes := sput s.lanes l x }
def Device.updLane (s : Device) (l : Nat) (f : Lane → Lane) : Device := s.putLane l (f (s.lane l))

def Device.input (s : Device) (i : Nat) : Input := sget {} s.inputs i
def Device.putInput (s : Device) (i : Nat) (x : Input) : Device := { s with inputs := sput s.inputs i x }
def Device.updInput (s : Device) (i : Nat) (f : Input → Input) : Device := s.putInput i (f (s.input i))

/-- Flags of a record (R213). -/
def rfSat : Nat := 0
def rfRclip : Nat := 1
def rfLag : Nat := 2
def rfClip : Nat := 3
def rfDdcSat : Nat := 4
def rfGap : Nat := 5
def rfLate : Nat := 6
def rfTainted : Nat := 7
def rfCalExtrap : Nat := 8
def rfWlate : Nat := 9
def rfCut : Nat := 10

/-! ### Windows (R193 to R197) -/

/-- DEC of a code (R193). -/
def decOf (code : Nat) : Nat := 8 * 2 ^ code

/-- DEC of a window: that of its latched settings; 8 before they are latched. -/
def Win.dec (w : Win) : Nat := match w.set with | some x => decOf x.dec | none => 8

/-- The window's decimated samples: N, or those complete before the index that cut it (R195, R197). -/
def Win.n (w : Win) : Nat :=
  let full := 64 * w.len / w.dec
  match w.cutAt with
  | some x => min full ((x - w.w) / w.dec)
  | none => full

/-- The last input sample L of the window's last decimated sample (R197, R220). -/
def Win.last (w : Win) : Nat := w.w + w.dec * w.n - 1

/-- The index at which decimated sample k enters the buffer (R195). -/
def Win.entry (w : Win) (k : Nat) : Nat := w.w + w.dec * (k + 1) + 512

/-- The finish step (R207). -/
def Win.finish (w : Win) : Nat := w.entry (w.n - 1) / 8 + 8

/-- The window is open at sample x over its input samples (R183). -/
def Win.openAt (w : Win) (x : Nat) : Bool :=
  decide (w.w ≤ x) && decide (x < w.w + 64 * w.len) && (match w.cutAt with | some c => decide (x < c) | none => true)

/-- Set a flag of the window. -/
def Win.mark (w : Win) (b : Nat) : Win := { w with flags := orBit w.flags b }

/-- The capture is open, or is to be open, at sample n: from its start to its end or cut index (R183). -/
def Capture.openAt (c : Capture) (n : Nat) : Bool :=
  !c.refused && decide (c.start ≤ n) && decide (n < (if c.isOpen then c.stop else c.start + 32 * c.len))
    && (match c.cutAt with | some x => decide (n < x) | none => true)

/-- A window or a capture of input i is open at sample n (R183). -/
def Device.inputOpen (s : Device) (i n : Nat) : Bool :=
  ((List.range 16).any fun t => (s.lane (16 * i + t)).wins.any fun w => w.openAt n) || (s.input i).caps.any fun c => c.openAt n

/-! ### Input samples (R182, R184) -/

/-- The corrected sample n of input i where no row brings its word (DESIGN CHOICE: within full scale, for ADC_OVR brings the words
that are not): the code at the instant shifted by d and the ADC skew, after the correction stage (R182). -/
def Device.adcNow (s : Device) (i n : Nat) : Int :=
  let kern : Int := s.tb.d + toSigned 14 (s.fld F.ipSkew i)
  clampI (-2047) 2046
    (Config.adcCorrect (s.calForce 6 i ++ s.calForce 7 i) n (Config.adc i (256 * n + kern) (s.fld F.ipCtrlRange i)))

/-- The current word of input i stands from now on (R182): the samples that a row brings, else those of the land; zero in a
switch-back (R358). A word that stands already is not changed. -/
def recordWord (i : Nat) (xs : List Int) (s : Device) : Device :=
  if (sfind (s.input i).words (s.ssi / 32)).isSome then s
  else
    let cut := if s.offers.any fun o => o.k == 512 + i && o.cut.isSome then
      (List.range 32).map fun j => s.inSwitchBack (512 + i) (s.ssi + j) else []
    let w := zeroAt cut ((List.range 32).map fun j => (xs[j]?).getD (s.adcNow i (s.ssi + j)))
    let s1 := s.updInput i fun x => { x with words := sput x.words (s.ssi / 32) w }
    if (List.range 32).any fun j => cut.getD j false && s.inputOpen i (s.ssi + j) then s1.setFlag F.calStatusCalcut else s1

/-- x[n] of input i (R182). -/
def Device.sampleAt (s : Device) (i n : Nat) : Int :=
  match sfind (s.input i).words (n / 32) with
  | some w => w.getD (n % 32) 0
  | none => s.adcNow i n

/-- The windows and captures of input i that contain an overranged sample are marked CLIP (R184). -/
def markOverranges (i : Nat) (ns : List Nat) (s : Device) : Device :=
  if ns.isEmpty then s
  else
    let s1 := s.updInput i fun x => { x with caps := x.caps.map fun c => if ns.any c.openAt then { c with clip := true } else c }
    forAllDo (List.range 16) (fun t s =>
      if (s.lane (16 * i + t)).wins.any fun w => ns.any w.openAt then
        s.updLane (16 * i + t) fun l => { l with wins := l.wins.map fun w => if ns.any w.openAt then w.mark rfClip else w }
      else s) s1

/-- An input event (R223). -/
def ipEvent (i evt : Nat) : Nat := evCode 6 i evt

/-- The converter of input i gives the current word (R182, R184): codes at full scale set ADC_OVR, make one event at the first
of them, and mark the windows and captures that contain them. -/
def adcOvrOp (i : Nat) (xs : List Int) (s : Device) : Device :=
  if (sfind (s.input i).words (s.ssi / 32)).isSome then s
  else
    let ns := ((List.range (min 32 xs.length)).filter fun j => xs.getD j 0 == 2047 || xs.getD j 0 == -2048).map fun j => s.ssi + j
    let s1 := recordWord i xs s
    match ns with
    | [] => s1
    | n :: _ => markOverranges i ns (((s1.updInput i fun x => { x with ovr := ns }).setFlag F.ipStatusAdcOvr i).present (ipEvent i 0) n)

/-- A row of another kind brings the samples of the current word of input i, or none (R182, R184). -/
def wordBrought (i : Nat) (xs : List Int) (s : Device) : Device := if xs.isEmpty then s else adcOvrOp i xs s

/-- The inputs that have a window or a capture. -/
def Device.busyInputs (s : Device) : List Nat :=
  List.eraseDups ((s.inputs.filter fun (x : Nat × Input) => !x.2.caps.isEmpty).map Prod.fst
    ++ ((s.lanes.filter fun (x : Nat × Lane) => !x.2.wins.isEmpty).map fun x => x.1 / 16))

/-- The words of a cycle at the inputs that need them. -/
def wordsLand (s : Device) : Device :=
  forAllDo s.busyInputs (fun i t => markOverranges i (t.input i).ovr (recordWord i [] t)) s

/-- The inputs at the start of a cycle: only the words that a window or a capture may still take in are kept, and captures that
ended are gone. -/
def Device.inputsNext (s : Device) : SMap Input :=
  let keep := s.busyInputs
  s.inputs.map fun (i, x) =>
    (i, { x with ovr := [], words := if keep.contains i then x.words else [], caps := x.caps.filter fun c => !c.ended })

/-- The settings of lane l as they stand now (R194). -/
def Device.laneSet (s : Device) (l : Nat) : LaneSet :=
  let i := l / 16
  let t := l % 16
  { dec := s.fld F.dlCtrlDec i t
    freq := (s.reg .dlFreqLo i t).toNat + 2 ^ 32 * (s.reg .dlFreqHi i t).toNat
    ofs := (s.reg .dlOfsLo i t).toNat + 2 ^ 32 * (s.reg .dlOfsHi i t).toNat
    ctrl := (s.reg .dlCtrl i t).toNat
    kbase := (s.reg .dlKbase i t).toNat
    klen := (s.reg .dlKlen i t).toNat
    kreg := (s.reg .dlKreg i t).toNat
    bounds := (List.range 3).map fun j =>
      let ab := (s.reg .dlB i t j).toNat
      (toSigned 16 (bitsOf ab 15 0), toSigned 16 (bitsOf ab 31 16),
        toSigned 48 ((s.reg .dlBCLo i t j).toNat + 2 ^ 32 * (s.reg .dlBCHi i t j).toNat))
    disc := (s.reg .dlDisc i t).toNat }

/-- The windows of a lane that start in the current word latch its settings (R194). -/
def latchWindows (l : Nat) (s : Device) : Device :=
  let x := s.lane l
  if x.wins.any fun w => w.set.isNone && decide (w.w < s.ssi + 32) then
    s.putLane l { x with wins := x.wins.map fun w =>
      if w.set.isNone ∧ w.w < s.ssi + 32 then { w with set := some (s.laneSet l) } else w }
  else s

/-! ### Decimated samples (R192, R193, R196) -/

/-- The phase of a tone at a system index (R192). -/
def LaneSet.theta (x : LaneSet) (n : Nat) : Nat := (x.freq * n + x.ofs) % 2 ^ 48

/-- Decimated sample k of a window from its input samples, and whether sat16 clamped (R193). -/
def Win.decimate (w : Win) (k : Nat) (xs : List Int) : Int × Int × Bool :=
  match w.set with
  | none => (0, 0, false)
  | some x =>
    let d := decOf x.dec
    let terms := (List.range d).map fun j =>
      let n := w.w + d * k + j
      let v := if n < w.late then 0 else xs.getD j 0
      let (c, sn) := carrierOut (x.theta n)
      (v * c, -(v * sn))
    let sh := 13 + (3 + x.dec)
    let di := rnd (terms.map Prod.fst).sum sh
    let dq := rnd (terms.map Prod.snd).sum sh
    (sat16 di, sat16 dq, decide (sat16 di ≠ di) || decide (sat16 dq ≠ dq))

/-! ### Engine steps (R198 to R207) -/

/-- The word at a demodulation program address of lane l's input. -/
def Device.dword (s : Device) (l a : Nat) : Nat := (s.reg .ipDprog (l / 16) a).toNat

/-- The kernel tap of input i at an address: I and Q. -/
def Device.tapAt (s : Device) (i a : Nat) : Int × Int :=
  let w := (sget (0 : Word) s.kernels (32768 * i + a)).toNat
  (toSigned 16 (bitsOf w 15 0), toSigned 16 (bitsOf w 31 16))

/-- One part of an accumulation with the SAT bit (R203). -/
def accPart (sat : Bool) (p u : Int) : Int × Bool :=
  if sat then (p, true)
  else
    let r := p + u
    if 2 ^ 39 - 1 < r then (2 ^ 39 - 1, true) else if r < -(2 ^ 39) then (-(2 ^ 39), true) else (r, false)

/-- A complex accumulation: I first, then Q (R203). -/
def accAdd (a : Int × Int × Bool) (ui uq : Int) : Int × Int × Bool :=
  let (i, s1) := accPart a.2.2 a.1 ui
  let (q, s2) := accPart s1 a.2.1 uq
  (i, q, s2)

/-- The product of R203 before the pre-shift. -/
def macTerm (conj : Bool) (s k : Int × Int) : Int × Int :=
  if conj then (s.1 * k.1 + s.2 * k.2, s.2 * k.1 - s.1 * k.2)
  else (s.1 * k.1 - s.2 * k.2, s.1 * k.2 + s.2 * k.1)

/-- KP moved on by one tap (R202). -/
def advKp (x : LaneSet) (kp : Nat) : Nat := if kp + 1 = x.kbase + x.klen then x.kbase else (kp + 1) % 32768

/-- What a consuming instruction takes (R199, R205): a sample and the lane and window after it, or none where it
waits. -/
def consume (x : Lane) (w : Win) : Option ((Int × Int) × Lane × Win) :=
  if w.n ≤ w.used then some ((0, 0), x, w)
  else if w.lost.contains w.used then some ((0, 0), x, { w with used := w.used + 1 })
  else
    match x.buf.find? fun b => b.1 == w.w && b.2.1 == w.used with
    | some (_, _, i, q) =>
      some ((i, q), { x with buf := x.buf.filter fun b => !(b.1 == w.w && b.2.1 == w.used) }, { w with used := w.used + 1 })
    | none => none

/-- The pc after an instruction at x.pc, with the repeat cache (R204). -/
def Lane.nextPc (x : Lane) : Lane :=
  match x.rep with
  | none => { x with pc := x.pc + 1 }
  | some (first, len, left) =>
    if x.pc + 1 = first + len then
      if 1 < left then { x with pc := first, rep := some (first, len, left - 1) } else { x with pc := x.pc + 1, rep := none }
    else { x with pc := x.pc + 1 }

/-- The instruction a lane's program executes next; past address 255 it ends (R205). -/
def Device.nextD (s : Device) (l : Nat) (x : Lane) : DInstr :=
  if 255 < x.pc then .endP else (DInstr.decode (s.dword l x.pc)).getD .endP

/-- END and the finish step (R206, R207): the result latch, the samples left are discarded, and the next program may
start in the next step. -/
def latchResult (x : Lane) (w : Win) (t : LaneSet) (step : Nat) : Lane × Win :=
  ({ x with run := false, rep := none, skip := 0, free := step + 1, buf := x.buf.filter fun b => b.1 != w.w },
   { w with ended := true, result := x.acc.getD (bitsOf t.ctrl 15 14) (0, 0, false) })

/-- Execute one instruction of a running program; none where it waits (R201 to R206). -/
def stepInstr (s : Device) (l : Nat) (x : Lane) (w : Win) (t : LaneSet) : Option (Lane × Win) :=
  match s.nextD l x with
  | .nop => some (x.nextPc, w)
  | .mac a conj ksrc =>
    match consume x w with
    | none => none
    | some (smp, x1, w1) =>
      let k := if ksrc then (toSigned 16 (bitsOf t.kreg 15 0), toSigned 16 (bitsOf t.kreg 31 16)) else s.tapAt (l / 16) x1.kp
      let (ti, tq) := macTerm conj smp k
      let acc := listSet x1.acc a (accAdd (x1.acc.getD a (0, 0, false)) (ti / 2 ^ x1.ps) (tq / 2 ^ x1.ps))
      some ({ x1 with acc := acc, kp := if ksrc then x1.kp else advKp t x1.kp }.nextPc, w1)
  | .skip advk count =>
    match consume x w with
    | none => none
    | some (_, x1, w1) =>
      let left := (if x1.skip = 0 then count else x1.skip) - 1
      let x2 := { x1 with skip := left, kp := if advk then advKp t x1.kp else x1.kp }
      some (if left = 0 then x2.nextPc else x2, w1)
  | .rep len count => some ({ x with pc := x.pc + 1, rep := some (x.pc + 1, len, count) }, w)
  | .setkp tap => some ({ x with kp := tap }.nextPc, w)
  | .setps ps => some ({ x with ps := ps }.nextPc, w)
  | .add d r sub sh =>
    let (i, q, _) := x.acc.getD r (0, 0, false)
    let ui := i / 2 ^ sh
    let uq := q / 2 ^ sh
    let acc := listSet x.acc d (accAdd (x.acc.getD d (0, 0, false)) (if sub then -ui else ui) (if sub then -uq else uq))
    some ({ x with acc := acc }.nextPc, w)
  | .clr a => some ({ x with acc := listSet x.acc a (0, 0, false) }.nextPc, w)
  | .endP => some (latchResult x w t x.step)

/-- The window whose program runs or comes next: the first that has not ended. -/
def Lane.current (x : Lane) : Option Win := x.wins.find? fun w => !w.ended && (w.set.isNone || decide (0 < w.n))

/-- Replace a window of a lane. -/
def Lane.putWin (x : Lane) (w : Win) : Lane :=
  { x with wins := x.wins.map fun v => if v.w = w.w then w else v }

/-- The start of a window's program (R200). -/
def Lane.startProgram (x : Lane) (t : LaneSet) : Lane :=
  { x with run := true, rep := none, skip := 0, kp := t.kbase, ps := bitsOf t.ctrl 19 16, pc := bitsOf t.ctrl 31 24,
           acc := [(0, 0, false), (0, 0, false), (0, 0, false), (0, 0, false)] }

/-- The program of window w may start in the lane's next step (R200). -/
def Lane.mayStart (x : Lane) (w : Win) : Bool := !x.run && decide (x.free ≤ x.step) && decide (0 < w.k)

/-- The end of a lane's step: windows that have ended and whose finish step is not after it are handed on (R207). -/
def Lane.stepOn (x : Lane) : Lane :=
  { x with step := x.step + 1, wins := x.wins.map fun u => if u.ended ∧ u.finish ≤ x.step then { u with handed := true } else u }

/-- The words that the instruction of lane l's next step reads: its own, and a tap's (R374). -/
def Device.laneReads (s : Device) (l : Nat) (x : Lane) : List (Nat × Nat) :=
  (if x.pc < 256 then [(4, x.pc / 8)] else [])
    ++ (match s.nextD l x with | .mac _ _ false => [(3, x.kp / 8)] | _ => [])

/-- The reads of an executed instruction: an uncorrectable word makes the input's sequencer fault (R374). -/
def laneAccess (l : Nat) (reads : List (Nat × Nat)) (s : Device) : Device :=
  forAllDo reads (fun (r, w) t =>
    let (bad, t1) := sramAccess r (l / 16) w t
    if bad then t1.updInput (l / 16) fun y => { y with broken := true } else t1) s

/-- One engine step of a lane (R198 to R207): a program starts where it may, one instruction executes, an arrival that finds
the buffer full after it is discarded, and the finish step latches what has not ended. -/
def laneStep (l : Nat) (s : Device) : Device :=
  let x := s.lane l
  match x.current with
  | none => s.putLane l x.stepOn
  | some w =>
    match w.set with
    | none => s.putLane l x.stepOn
    | some t =>
      let x1 := if x.mayStart w then x.startProgram t else x
      let ran := if x1.run then stepInstr s l x1 w t else none
      let (x2, w2) := ran.getD (x1, w)
      let x3 := x2.putWin w2
      let x4 :=
        if 16 < x3.buf.length then
          match x3.buf.getLast? with
          | some (v, k, _, _) =>
            { x3 with
              buf := x3.buf.dropLast
              wins := x3.wins.map fun u => if u.w = v then { u with lost := u.lost ++ [k] }.mark rfLag else u }
          | none => x3
        else x3
      let wf := (x4.wins.find? fun u => u.w == w.w).getD w2
      let x5 :=
        if wf.finish ≤ x4.step ∧ ¬ wf.ended then
          let (y, v) := latchResult x4 wf t x4.step
          y.putWin (v.mark rfLag)
        else x4
      let reads := if s.sramErrs.isEmpty || ran.isNone then [] else s.laneReads l x1
      laneAccess l reads (s.putLane l x5.stepOn)

/-- The lane has a window that has latched its settings and whose finish step is not past. -/
def Lane.active (x : Lane) : Bool := x.wins.any fun w => w.set.isSome && !w.handed && decide (0 < w.n)

/-- Run a lane's engine through the steps before a step, at most fuel of them. -/
def laneRun (l upto : Nat) : Nat → Device → Device
  | 0, s => s
  | fuel + 1, s =>
    let x := s.lane l
    if upto ≤ x.step then s
    else if x.active then laneRun l upto fuel (laneStep l s)
    else s.putLane l { x with step := upto }

/-- The lane's engine with the steps before a step executed; an idle lane starts at the current word. -/
def catchUp (l upto : Nat) (s : Device) : Device :=
  let x := s.lane l
  let s1 := if x.step < s.ssi / 8 then s.putLane l { x with step := s.ssi / 8 } else s
  laneRun l upto 8 s1

/-- The next decimated sample of a lane to enter its buffer: its window and place. -/
def Lane.nextSample (x : Lane) : Option (Win × Nat) :=
  match x.wins.find? fun w => decide (w.k < w.n) && w.set.isSome with
  | some w => some (w, w.k)
  | none => none

/-- A decimated sample enters the buffer of lane l in this cycle, formed from its DEC input samples (R193, R195, R199); one
that belongs to a window already ended is discarded (R206). -/
def sampleEnter (l : Nat) (s : Device) : Device :=
  match (s.lane l).nextSample with
  | none => s
  | some (w, k) =>
    let e := w.entry k
    if e < s.ssi ∨ s.ssi + 32 ≤ e then s
    else
      let s1 := catchUp l (e / 8) s
      let x := s1.lane l
      let w1 := (x.wins.find? fun u => u.w == w.w).getD w
      let xs := (List.range w1.dec).map fun j => s.sampleAt (l / 16) (w1.w + w1.dec * k + j)
      let (i, q, clamp) := w1.decimate k xs
      let w2 := { w1 with k := k + 1 }
      let x1 := x.putWin (if clamp then w2.mark rfDdcSat else w2)
      let x2 := if w1.ended then x1 else { x1 with buf := x1.buf ++ [(w.w, k, i, q)] }
      let s2 := s1.putLane l x2
      if clamp then s2.setFlag F.ipStatusDdcSat (l / 16) else s2

/-- The samples due in this cycle that no row entered. -/
def samplesDue (l : Nat) : Nat → Device → Device
  | 0, s => s
  | fuel + 1, s =>
    match (s.lane l).nextSample with
    | none => s
    | some (w, k) => if w.entry k < s.ssi + 32 then samplesDue l fuel (sampleEnter l s) else s

/-- The end of a cycle for lane l: settings latched by windows that start in its word, the samples due, the four
steps. -/
def laneCycle (l : Nat) (s : Device) : Device :=
  let s1 := samplesDue l 8 (latchWindows l s)
  catchUp l (s1.ssi / 8 + 4) s1

/-- The lane executes an instruction of a kind in its next step, and the step lies in this cycle (R198). -/
def Device.nextExec (s : Device) (l : Nat) (p : DInstr → Bool) : Bool :=
  let x := s.lane l
  match x.current with
  | none => false
  | some w =>
    match w.set with
    | none => false
    | some t =>
      let x1 := if x.mayStart w then x.startProgram t else x
      x1.run && decide (s.ssi / 8 ≤ x.step) && decide (x.step < s.ssi / 8 + 4) && p (s.nextD l x1)
        && (stepInstr s l x1 w t).isSome

/-- One step of lane l that executes an instruction of a kind; nothing where another comes next. -/
def demodOp (l : Nat) (p : DInstr → Bool) (s : Device) : Device :=
  if s.nextExec l p then laneStep l s else s

/-- The start of lane l's next program, where it may start in this cycle's next step (R200). -/
def programStartOp (l : Nat) (s : Device) : Device :=
  let x := s.lane l
  match x.current with
  | none => s
  | some w =>
    match w.set with
    | none => s
    | some t => if x.mayStart w && decide (s.ssi / 8 ≤ x.step) then s.putLane l (x.startProgram t) else s

/-- The finish step of the lane's current window, where it lies in this cycle (R207): the steps up to it are
executed. -/
def finishStepOp (l : Nat) (s : Device) : Device :=
  match (s.lane l).wins.find? fun w => !w.handed && w.set.isSome with
  | none => s
  | some w =>
    if s.ssi / 8 ≤ w.finish ∧ w.finish < s.ssi / 8 + 4 ∧ w.k = w.n ∧ 0 < w.n then catchUp l (w.finish + 1) s else s

end Sys2Proof.Machine
end

