-- ==== Sys2Proof/Machine/Colophon.lean ====
section
/-! DEFINITION. The hash chain of each demod lane and its colophons (spec/17_security.md, R500 to R504). -/

namespace Sys2Proof.Machine

/-- The device serial number as bytes (R545). -/
def serialBytes : List Byte := leBytes 16 Config.serial.toNat

/-- BOOTNONCE in force (R480). -/
def Device.nonceBytes (s : Device) : List Byte := leBytes 32 (Config.bootNonce s.boots).toNat

/-- The head of lane l at start-up (R500). -/
def Device.genesis (s : Device) (l : Nat) : List Byte := sha384 (serialBytes ++ leBytes 2 l ++ s.nonceBytes)

/-- The chain head of lane l. -/
def Device.head (s : Device) (l : Nat) : List Byte := (s.lane l).head.getD (s.genesis l)

/-- The 32 bytes of a record (R212). -/
def Record.bytes (r : Record) : List Byte :=
  leBytes 4 r.folio ++ leBytes 8 r.start ++ leBytes 4 (ofSigned 32 r.i) ++ leBytes 4 (ofSigned 32 r.q) ++ leBytes 2 r.lane
    ++ leBytes 1 (r.state + 4 * r.h) ++ leBytes 1 r.scale ++ leBytes 2 r.flags ++ leBytes 2 r.len ++ leBytes 4 r.serial

/-- The 32 bytes of a record as its ring's word delivers them (R374). -/
def Record.read (r : Record) : List Byte :=
  if r.flip.isEmpty then r.bytes else r.bytes.zipIdx.map fun x => x.1 ^^^ r.flip.getD x.2 0

/-- The record as the chain takes it: FLAGS bit 7 as 0 (R215, R500). -/
def Record.chainBytes (r : Record) : List Byte :=
  { r with flags := if bitOf r.flags 7 then r.flags - 128 else r.flags }.bytes

/-- The digest over the DIGEST fields of n seals from a key on, 48 zeros for one that is absent (R507). -/
def Device.sealDigest (s : Device) (key n : Nat) : List Byte :=
  sha384 ((List.range n).flatMap fun i => match s.sealOf (key + i) with | some b => sliceB b 24 48 | none => zeros 48)

/-- The calibration digest in force (R507). -/
def Device.calDigest (s : Device) : List Byte := s.sealDigest 0 8

/-- Room for a colophon: neither the signing queue nor the ring is full (R503). -/
def Device.colRoom (s : Device) : Bool := decide (s.colq.length < 64) && decide (s.colFill < 4096)

/-- A colophon without its signature (R502). -/
def Device.colophonBody (s : Device) (l kind serial : Nat) (deferred : Bool) : List Byte :=
  let x := s.lane l
  leBytes 4 0x434F4C4F ++ leBytes 2 l ++ leBytes 1 (kind + 2 * b2n deferred) ++ zeros 1 ++ leBytes 4 x.colEnd
    ++ leBytes 4 x.colStop ++ leBytes 4 x.chained ++ leBytes 4 (if kind = 1 then serial else 0) ++ leBytes 4 x.colSer
    ++ leBytes 2 (s.fld F.lkDevidDevid) ++ zeros 2 ++ leBytes 16 s.deviceTime ++ leBytes 8 s.ssi ++ s.nonceBytes
    ++ x.colPrev.getD (s.genesis l) ++ s.head l ++ s.calDigest

/-- Issue a colophon of lane l: it joins the signing queue, and the lane's next range starts here (R501 to R503). -/
def issueColophon (l kind serial : Nat) (deferred : Bool) (s : Device) : Device :=
  let s1 := { s with colq := s.colq ++ [s.colophonBody l kind serial deferred] }
  s1.updLane l fun x =>
    { x with chained := 0, colEnd := x.colStop, colPrev := some (s.head l), colSer := x.colSer + 1, colWait := none }

/-- A colophon of lane l falls due: issued, or deferred while there is no room (R503). -/
def colophonDue (l kind serial : Nat) (s : Device) : Device :=
  if (s.lane l).chained = 0 ∨ (s.lane l).colWait.isSome then s
  else if s.colRoom then issueColophon l kind serial false s
  else ((s.updLane l fun x => { x with colWait := some (kind, serial) }).addFld F.secColdefer 1).presentNow (evCode 0 8 13)

/-- A deferred colophon is issued once there is room (R503). -/
def colophonDeferredOp (l : Nat) (s : Device) : Device :=
  match (s.lane l).colWait with
  | some (kind, serial) => if s.colRoom then issueColophon l kind serial true s else s
  | none => s

/-- A stored record enters its lane's chain; 4,096 since the last colophon make one due (R500, R501). -/
def chainRecord (l : Nat) (r : Record) (s : Device) : Device :=
  let s1 := s.updLane l fun x => { x with
    head := some (sha384 (s.head l ++ r.chainBytes)), chained := x.chained + 1, colStop := (r.folio + 1) % 2 ^ 32
    wrote := if x.wrote.contains r.uid then x.wrote else r.uid :: x.wrote }
  if 4096 ≤ (s1.lane l).chained then colophonDue l 0 0 s1 else s1

/-- The first colophon of the queue is signed and written to the ring, where there is room (R503). -/
def colophonSignedOp (s : Device) : Device :=
  match s.colq with
  | [] => s
  | b :: rest =>
    if 4096 ≤ s.colFill then s
    else
      let wr := (s.reg .secColwr).toNat
      let (sig, s1) := identitySign b s
      ({ s1 with
        colq := rest, colring := sput s.colring wr (b ++ sig), colFill := s.colFill + 1 }.putReg
        .secColwr (BitVec.ofNat 32 ((wr + 1) % 4096))).presentNow (evCode 0 8 12)

end Sys2Proof.Machine
end

