-- ==== Sys2Proof/Machine/Sessions.lean ====
section
/-! DEFINITION. Sessions at the transports (spec/17_security.md R483 to R490): the packet counts, the packets a session
sends as frames (spec/15_links_flow_control.md R430, R431, R453), and closing. -/

namespace Sys2Proof.Machine

/-- Which count of a session a virtual channel uses. -/
def vcSlot (vc : Nat) : Nat := if vc = 2 then 1 else if vc = 3 then 2 else 0

/-- The COUNT of the next packet that a session sends on a channel (R488). -/
def Session.next (x : Session) (vc : Nat) : Nat := x.tx.getD (vcSlot vc) 0

/-- A packet of the session has been sent on a channel (R488). -/
def countTx (n vc : Nat) (s : Device) : Device :=
  let x := s.session n
  s.putSession n { x with tx := listSet x.tx (vcSlot vc) (x.tx.getD (vcSlot vc) 0 + 1) }

/-- The reply header of R453. -/
def Reply.header (r : Reply) : List Byte :=
  leBytes 2 r.opcode ++ leBytes 1 r.sess ++ leBytes 1 r.flags ++ leBytes 2 r.devid ++ leBytes 2 r.status ++ leBytes 4 r.seq
    ++ leBytes 4 r.length ++ leBytes 4 r.steps ++ leBytes 8 r.at_ ++ leBytes 4 r.detail

/-- A frame that waits to be sent (R428, R430). -/
def mkFrame (vc : Nat) (first tag : Bool) (d : List Byte) : LFrame := { fseq := 0, vc := vc, first := first, tag := tag, data := d }

/-- The frames of a packet: header, payload in frames of 32 bytes, the last zero-padded, and the tag frame (R430). -/
def packetFrames (vc : Nat) (header payload tag : List Byte) : List LFrame :=
  let chunks := chunksOf 32 (payload.length + 1) payload
  mkFrame vc true false header :: (chunks.map fun d => mkFrame vc false false (sliceB d 0 32)) ++ [mkFrame vc false true (sliceB tag 0 32)]

/-- The header frame of a bulk packet (R431). -/
def Device.bulkHeader (s : Device) (sess kind input count bulkseq cmdseq : Nat) : List Byte :=
  leBytes 2 (s.fld F.lkDevidDevid) ++ leBytes 1 sess ++ leBytes 1 kind ++ leBytes 1 input ++ leBytes 1 count ++ zeros 2
    ++ leBytes 4 bulkseq ++ leBytes 4 cmdseq ++ zeros 16

/-- Queue frames on VC3 of a link port; a packet waits behind the record packet under way, for a packet is one run of frames
(R430). -/
def queueVc3 (p : Nat) (fs : List LFrame) (s : Device) : Device :=
  let x := sget {} s.links p
  { s with links := sput s.links p (if x.packet.isSome then { x with after := x.after ++ fs } else { x with out := x.out ++ fs }) }

/-- A bulk packet takes its place in the counts of the port and the session (R431, R488). -/
def countBulk (p sess : Nat) (s : Device) : Device :=
  countTx sess 3 { s with bulkSeq := sput s.bulkSeq p ((sget 0 s.bulkSeq p + 1) % 2 ^ 32) }

/-- Queue a bulk packet of reply data, at most 64 bulk frames, on a link port: header frame, bulk frames, tag frame (R430, R431, R487). -/
def sendBulk (p sess cmdseq : Nat) (frames : List (List Byte)) (s : Device) : Device :=
  let x := s.session sess
  let h := s.bulkHeader sess 0 0 frames.length (sget 0 s.bulkSeq p) cmdseq
  let (ct, tag) := x.protect 3 (x.next 3) h frames.flatten
  countBulk p sess (queueVc3 p (packetFrames 3 h ct tag) s)

/-- A record packet of n records of an input begins on a link port: its header frame (R431). -/
def beginRecords (p sess input n : Nat) (s : Device) : Device :=
  let x := s.session sess
  let h := s.bulkHeader sess 1 input n (sget 0 s.bulkSeq p) 0
  let s1 := queueVc3 p [mkFrame 3 true false h] s
  let k : Streamed := { input := input, left := n, key := x.key 1, iv := x.iv 1 3 (x.next 3), header := h }
  countBulk p sess { s1 with links := sput s1.links p { sget {} s1.links p with packet := some k } }

/-- The next record of the record packet under way on a link port (R217), encrypted (R487); behind the last one go the tag frame and the
packets that waited. -/
def sendRecord (p : Nat) (data : List Byte) (s : Device) : Device :=
  let x := sget {} s.links p
  match x.packet with
  | none => s
  | some k =>
    let ct := counterMode k.key k.iv (k.sent.length / 16) data
    let k1 := { k with left := k.left - 1, sent := k.sent ++ ct }
    let y := { x with out := x.out ++ [mkFrame 3 false false ct] }
    { s with links := sput s.links p (
        if k.left ≤ 1 then
          { y with packet := none, after := []
                   out := y.out ++ mkFrame 3 false true (sliceB (gcmTag k.key k.iv k.header k1.sent) 0 32) :: x.after }
        else { y with packet := some k1 }) }

/-- The commands whose reply data travel on VC3 whatever their length: BENCH_RING_READ and MEM_READ (R341, R399). -/
def onBulk : List Nat := [0x0801, 0x0A01]

/-- Queue a reply or a notice on a link port: data of more than 1,024 bytes go ahead as bulk packets (R453). -/
def packReply (p : Nat) (r : Reply) (s : Device) : Device :=
  let big := decide (1024 < r.data.length) || (onBulk.contains r.opcode && !r.data.isEmpty)
  let chunks := (chunksOf 32 (r.data.length + 1) r.data).map fun d => sliceB d 0 32
  let s1 := if big then forAllDo (chunksOf 64 (chunks.length + 1) chunks) (fun fs t => sendBulk p r.sess r.seq fs t) s else s
  let y := s1.session r.sess
  let (ct, tag) := y.protect 0 (y.next 0) r.header (if big then [] else chunks.flatten)
  let fs := packetFrames 0 r.header ct tag
  let x := sget {} s1.links p
  countTx r.sess 0 { s1 with links := sput s1.links p { x with out := x.out ++ fs } }

/-- Queue every reply that waits for link port p (R453). -/
def packReplies (p : Nat) (s : Device) : Device :=
  let rs := s.eng.out.filter fun r => r.via == p
  forAllDo rs (packReply p) { s with eng := { s.eng with out := s.eng.out.filter fun r => r.via != p } }

/-- The sessions on transport p that have a notice waiting. -/
def Device.noticesOn (s : Device) (p : Nat) : List Nat :=
  (List.range 8).filter fun n => (s.session n).isOpen && (s.session n).via == p && !(s.session n).notices.isEmpty

/-- One of a list of sessions, where the spec does not say which goes first. -/
def chooseOne (l : List Nat) (s : Device) : Option Nat × Device :=
  match l with
  | [] => (none, s)
  | [n] => (some n, s)
  | l => let (r, s1) := s.draw; (l[r % l.length]?, s1)

/-- Queue the next notice for link port p, behind the replies (R470). -/
def packNotice (p : Nat) (s : Device) : Device :=
  match chooseOne (s.noticesOn p) s with
  | (some n, s1) => match s1.takeNotice n with
    | some (r, s2) => packReply p r s2
    | none => s1
  | (none, s1) => s1

/-- A pending TIMED command that is cancelled: status BUSY, CANCELLED set, and AT its acceptance, for it took no effect (R453,
R467, R486). -/
def cancelReply (e : Timed) (s : Device) : Device :=
  { refuse s stBusy with at_ := e.accepted }.finish e.ctx e.opcode flCancelled

/-- Cancel every pending TIMED command of a session (R467, R486). -/
def cancelTimed (n : Nat) (s : Device) : Device :=
  let es := s.eng.timed.filter fun e => e.ctx.sess == n
  forAllDo es cancelReply { s with eng := { s.eng with timed := s.eng.timed.filter fun e => e.ctx.sess != n } }

/-- A session closes (R486): TIMED commands cancelled, keys, window and notices gone. -/
def closeSession (n : Nat) (s : Device) : Device :=
  if (s.session n).isOpen then
    let s1 := cancelTimed n s
    { s1 with sess := sdel s1.sess n }.presentNow (ceEvent 9)
  else s

/-- The link of transport p enters UP (R431, R489): the sessions on it move to the next epoch with every count 0, or close
where it would pass 65,535 (R486). -/
def nextEpoch (p : Nat) (s : Device) : Device :=
  forAllDo ((List.range 8).filter fun n => (s.session n).isOpen && (s.session n).via == p) (fun n t =>
    let x := t.session n
    if 65535 ≤ x.epoch then closeSession n t
    else t.putSession n { x with epoch := x.epoch + 1, rx := [0, 0, 0], tx := [0, 0, 0] })
    { s with bulkSeq := sdel s.bulkSeq p }

end Sys2Proof.Machine
end

