-- ==== Sys2Proof/Machine/Readout.lean ====
section
/-! DEFINITION. The read-out chain around the engines (spec/06_readout_chain.md): opening and cutting windows and captures,
overranges, results, records, record rings and their mover, and the loads of kernels and demodulation programs. -/

namespace Sys2Proof.Machine

/-! ### Windows (R97, R194 to R197) -/

/-- The intervals [a, a + n) and [b, b + m) meet. -/
def meets (a n b m : Nat) : Bool := decide (a < b + m) && decide (b < a + n)

/-- The input samples of a window: fewer than 64 LEN where STOP or FAULT cuts it (R197). -/
def Win.span (w : Win) : Nat :=
  match w.cutAt with
  | some x => min (64 * w.len) (x - w.w)
  | none => 64 * w.len

/-- A window [w, w + 64 len) on any of the tones of input i would overlap one that is issued or open there (R97). -/
def Device.windowClash (s : Device) (i tones w len : Nat) : Bool :=
  (bitsSet 16 tones).any fun t => (s.lane (16 * i + t)).wins.any fun v => !v.handed && meets w (64 * len) v.w v.span

/-- Insert a window in order of its start. -/
def insertWin (w : Win) : List Win → List Win
  | [] => [w]
  | h :: t => if h.w ≤ w.w then h :: insertWin w t else w :: h :: t

/-- Open a window on tones of input i (R92); late is the first input sample that counts, w where it is on time (R196). -/
def openWindow (i tones w len late serial uid : Nat) (s : Device) : Device :=
  forAllDo (bitsSet 16 tones) (fun t s =>
    let v : Win :=
      { w := w, len := len, late := late, serial := serial, uid := uid, flags := if w < late then 2 ^ rfWlate else 0 }
    s.updLane (16 * i + t) fun x => { x with wins := insertWin v x.wins }) s

/-- The open windows of input i are cut at x, and those that start at or after x are gone (R100, R197). -/
def cutWindows (i x : Nat) (s : Device) : Device :=
  forAllDo (List.range 16) (fun t s =>
    if (s.lane (16 * i + t)).wins.isEmpty then s
    else s.updLane (16 * i + t) fun l => { l with
      wins := (l.wins.filter fun w => decide (w.w < x)).map fun w =>
        if x < w.w + w.span then { w with cutAt := some x }.mark rfCut else w }) s

/-- The windows of input i that start at or after x are withdrawn (R100). -/
def dropWindows (i x : Nat) (s : Device) : Device :=
  forAllDo (List.range 16) (fun t s =>
    if (s.lane (16 * i + t)).wins.isEmpty then s
    else s.updLane (16 * i + t) fun l => { l with wins := l.wins.filter fun w => decide (w.w < x) }) s

/-- The windows open on lane l as R208 and R222 count them: from their start until their record is written. -/
def Device.openWins (s : Device) (l : Nat) : List Win := (s.lane l).wins.filter fun w => decide (w.w ≤ s.ssi)

/-! ### Captures (R185 to R191) -/

/-- CAPDEC code to c (R185). -/
def capDec (code : Nat) : Nat := 2 ^ code

/-- Capture units (R186). -/
def capUnits (code : Nat) : Nat := if code = 0 then 2 else 1

/-- The open capture of an input. -/
def Input.current (x : Input) : Option Capture := x.caps.find? fun c => c.isOpen && !c.ended

/-- Capture units in use at sample n (R186): each capture holds its units from its start index to its end index. -/
def Device.unitsUsed (s : Device) (n : Nat) : Nat :=
  (s.inputs.flatMap fun (_, x) => (x.caps.filter fun c => c.isOpen && c.openAt n).map fun c => capUnits c.code).sum

/-- A CAPT issued for [t, t + 32 len), or an engine's capture (R92, R186, R260). -/
def addCapture (i t len late serial : Nat) (refused : Bool) (engine : Option Nat) (s : Device) : Device :=
  s.updInput i fun x => { x with
    caps := x.caps ++ [{ start := t, len := len, serial := serial, refused := refused, engine := engine, late := late }] }

/-- The end that a capture has or is to have (R185, R191). -/
def Capture.until_ (c : Capture) : Nat :=
  let e := if c.isOpen then c.stop else c.start + 32 * c.len
  match c.cutAt with
  | some x => min x e
  | none => e

/-- A capture [t, t + 32 len) would overlap one that is issued or open on input i (R97). -/
def Device.captureClash (s : Device) (i t len : Nat) : Bool :=
  (s.input i).caps.any fun c => !c.refused && !c.ended && meets t (32 * len) c.start (c.until_ - c.start)

/-- Data lines of S stored samples (R187): 1.5 bytes each, whole lines. -/
def capLines (n : Nat) : Nat := ceilDiv (3 * n) 64

/-- The trigger engines that measure input i (R262). -/
def Device.measuring (s : Device) (i : Nat) : List Nat :=
  (List.range 16).filter fun n => s.flag F.tgCapMeasEn n && s.fld F.tgCapMeasIn n == i

/-- A capture that is not started (R186, R260): CAP_REFUSED with its event stamped at T, and CAPREF of its engine. -/
def refuseCapture (i : Nat) (c : Capture) (s : Device) : Device :=
  let s1 := (s.setFlag F.ipStatusCapRefused i).present (ipEvent i 1) c.start
  match c.engine with
  | some n => s1.setFlag F.tgStatusCapref n
  | none => s1

/-- The samples a capture stored: those before its end or cut index (R188, R191). -/
def Capture.stored (c : Capture) : Nat := (c.stop - c.start) / capDec c.code

/-- The stored samples of a late CAPT that lie before the first sample it can reach (R77): free values. -/
def Capture.early (c : Capture) : Nat := min c.stored (ceilDiv (c.late - c.start) (capDec c.code))

/-- The offset in the area that follows a capture of input i (R187). -/
def Device.capNext (s : Device) (i : Nat) (c : Capture) : Nat :=
  let size := (s.reg .ipCapSize i).toNat
  let next := c.offset + 1 + capLines c.stored
  if s.flag F.ipCapCtrlWrap i then next % (max size 1) else min size next

/-- Start a capture at its start index: its decimation, units and place in the area (R185 to R187), after the capture that ends
at or before it; one that finds a capture still open, which an engine has started since its issue, is not started (DESIGN CHOICE). -/
def startCapture (i : Nat) (c : Capture) (s : Device) : Device :=
  let x := s.input i
  let rest := x.caps.filter fun d => d != c
  let code := s.fld F.ipCtrlCapdec i
  let size := (s.reg .ipCapSize i).toNat
  let wrap := s.flag F.ipCapCtrlWrap i
  let wr0 := match x.current with | some d => s.capNext i d | none => (s.reg .ipCapWr i).toNat
  let full := x.full || (match x.current with | some d => d.trunc | none => false)
  let wr := if wrap ∧ size ≤ wr0 then 0 else wr0
  if c.refused || 3 < code || (match x.current with | some d => decide (c.start < d.until_) | none => false) || decide (64 < s.unitsUsed c.start + capUnits code) || full || decide (size ≤ wr) then
    refuseCapture i c (s.putInput i { x with caps := rest })
  else
    let n := 32 * c.len / capDec code
    let room := size - wr - 1
    let short := !wrap && decide (room < capLines n)
    let stored := if short then min n (room * 64 / 3) else n
    let serial := (s.reg .ipCapser i).toNat + 1
    let last := c.start + capDec code * stored
    let cut := match c.cutAt with | some x => decide (x < last) | none => false
    let c1 := { c with
      code := code, offset := wr, capser := serial % 2 ^ 32, meas := s.measuring i, isOpen := true, cut := cut
      trunc := short && !cut, stop := if cut then c.cutAt.getD last else last, freeAt := s.free }
    let s1 := { s with free := s.free + c1.early }.putInput i { x with caps := rest ++ [c1] }
    (s1.putReg .ipCapser (BitVec.ofNat 32 serial) i).setFld F.ipStatusCapActive 1 i

/-- The captures of CAPT that start before sample n start, by index and input (R186); an engine's capture has a command of its
own. -/
def captureStarts (n : Nat) (s : Device) : Device :=
  let due := s.inputs.flatMap fun (i, x) =>
    (x.caps.filter fun c => !c.isOpen && c.engine.isNone && decide (c.start < n)).map fun c => (i, c)
  if due.isEmpty then s
  else
    forAllDo (sortBy (fun a b => decide (a.2.start < b.2.start) || (a.2.start == b.2.start && decide (a.1 ≤ b.1))) due)
      (fun (i, c) t => startCapture i c t) s

/-- STOP or FAULT at x ends the open capture of input i and withdraws those not started (R191). -/
def cutCapture (i x : Nat) (s : Device) : Device :=
  if (s.input i).caps.isEmpty then s
  else s.updInput i fun y => { y with
    caps := (y.caps.filter fun c => c.engine.isSome || c.isOpen || decide (c.start < x)).map fun c =>
      if !c.isOpen then (if c.start < x ∧ x < c.until_ then { c with cutAt := some x } else c)
      else if x < c.stop ∧ ¬ c.ended then { c with cut := true, trunc := false, stop := max c.start x }
      else c }

/-- The captures of CAPT that start at or after x are withdrawn (R100). -/
def dropCaptures (i x : Nat) (s : Device) : Device :=
  if (s.input i).caps.isEmpty then s
  else s.updInput i fun y => { y with caps := y.caps.filter fun c => c.engine.isSome || c.isOpen || decide (c.start < x) }

/-- 12-bit clamp (R185). -/
def sat12 (z : Int) : Int := clampI (-2048) 2047 z

/-- Stored sample m of a capture of input i (R185); those of a late CAPT before the first sample it reaches are free (R77). -/
def Device.storedValue (s : Device) (i : Nat) (c : Capture) (m : Nat) : Int :=
  let d := capDec c.code
  let x (j : Nat) : Int := s.sampleAt i (c.start + d * m + j)
  if m < c.early then toSigned 12 (Config.free (c.freeAt + m))
  else if d = 1 then x 0 else sat12 (rnd ((List.range d).map x).sum c.code)

/-- The half bytes of a stored sample, low first: samples are packed two to three bytes (R189). -/
def halfBytes (v : Int) : List Nat := (List.range 3).map fun j => ofSigned 12 v / 16 ^ j % 16

/-- Bytes of pairs of half bytes. -/
def joinHalves : List Nat → List Byte
  | [] => []
  | [a] => leBytes 1 a
  | a :: b :: t => leBytes 1 (a + 16 * b) ++ joinHalves t

/-- The header line of a capture (R188). -/
def Capture.header (c : Capture) (i lost : Nat) : List Byte :=
  leBytes 8 c.start ++ leBytes 4 c.len ++ leBytes 1 i ++ leBytes 1 c.code
    ++ leBytes 2 (b2n (decide (0 < lost)) + 2 * b2n c.clip + 4 * b2n c.trunc + 8 * b2n c.cut)
    ++ leBytes 4 lost ++ leBytes 4 c.serial ++ leBytes 4 c.capser ++ leBytes 4 c.stored

/-- Stored samples that the 16 KiB capture buffer of an input holds (R190). -/
def capRoom : Nat := 16384 * 8 / 12

/-- Line j of a capture of input i: 0 is its header (R187). -/
def Device.capLine (s : Device) (i : Nat) (c : Capture) (j : Nat) : Nat :=
  (s.reg .ipCapBase i).toNat + (c.offset + j) % max (s.reg .ipCapSize i).toNat 1

/-- The stored samples in the buffer that leave it with data line j: those whose last half byte stands there. -/
def Capture.frees (c : Capture) (j : Nat) : Nat :=
  ((List.range (64 * (j + 1) / 3 - 64 * j / 3)).filter fun n =>
    decide (64 * j / 3 + n < c.taken) && !(c.lost.contains (64 * j / 3 + n))).length

/-- The write queue of a line's bank takes another request, and DRAM is not frozen (R378, R388). -/
def Device.writeRoom (s : Device) (line : Nat) : Bool :=
  let r : DReq := { seq := 0, write := true, line := line, req := 1, id := 0 }
  !(s.flag F.memStatusFrozen) && decide (((s.mc.q ++ s.mc.wait).filter r.sameQueue).length < 8)

/-- Lines enter the capture buffer of input i: each takes the next of its 512 words (R190, R374). -/
def captureHold (i : Nat) (ls : List (Nat × List Byte × Nat)) (s : Device) : Device :=
  let x := s.input i
  (forAllDo (List.range ls.length) (fun j t => sramWritten 6 i ((x.drained + x.held.length + j) % 512) 1 t) s).putInput i
    { x with held := x.held ++ ls }

/-- Lines leave the capture buffer of input i in order, as long as DRAM takes them (R190); a parity error leaves the data as read
(R391). -/
def drainLines (i : Nat) : List (Nat × List Byte × Nat) → Device → Device
  | [], s => s
  | (line, data, n) :: t, s =>
    if s.writeRoom line then
      let s1 := (sramAccess 6 i (s.input i).drained s).2
      drainLines i t (dramWrite 1 i line data
        (s1.updInput i fun x => { x with held := t, fill := x.fill - n, drained := (x.drained + 1) % 512 }))
    else s

/-- The capture buffers give DRAM what it takes (R190). -/
def drainCaptures (s : Device) : Device :=
  forAllDo ((s.inputs.filter fun (_, x) => !x.held.isEmpty).map Prod.fst) (fun i t => drainLines i (t.input i).held t) s

/-- A stored sample that found the buffer full (R190): it is counted, with an event at its first input sample. -/
def loseSample (i : Nat) (c : Capture) (m : Nat) (s : Device) : Device :=
  ((s.addFld F.ipCapLost 1 i).setFlag F.ipStatusCapLost i).present (ipEvent i 2) (c.start + capDec c.code * m)

/-- The stored samples of the open capture of input i that are complete before sample n enter its buffer, or are lost where it is
full; whole data lines wait for DRAM (R187, R190). -/
def captureTake (i n : Nat) (s : Device) : Device :=
  match (s.input i).current with
  | none => s
  | some c =>
    let upto := min c.stored ((n - c.start) / capDec c.code)
    let ms := (List.range (upto - c.taken)).map (c.taken + ·)
    let room := capRoom - (s.input i).fill
    let halves := c.odd ++ (ms.take room).flatMap (fun m => halfBytes (s.storedValue i c m)) ++ List.replicate (3 * (ms.drop room).length) 0
    let first := 3 * c.taken / 64
    let k := halves.length / 64
    let c1 := { c with taken := max upto c.taken, lost := c.lost ++ ms.drop room, odd := halves.drop (64 * k) }
    let lines := (List.range k).map fun j =>
      (s.capLine i c (1 + first + j), joinHalves ((halves.drop (64 * j)).take 64), c1.frees (first + j))
    forAllDo (ms.drop room) (loseSample i c) (captureHold i lines (s.updInput i fun x => { x with
      caps := x.caps.map fun d => if d.isOpen && !d.ended then c1 else d
      fill := x.fill + (ms.take room).length }))

/-- The open captures take the samples of the current word (R185, R190). -/
def capturesTake (s : Device) : Device :=
  drainCaptures (forAllDo ((s.inputs.filter fun x => x.2.current.isSome).map Prod.fst) (fun i t => captureTake i (s.ssi + 32) t) s)

/-- A capture of input i ends (R187 to R191): what is left of its data is padded to a line, and its header line follows. -/
def endCapture (i : Nat) (s0 : Device) : Device :=
  match (s0.input i).current with
  | none => s0
  | some c0 =>
    let s := captureTake i c0.stop s0
    let c := ((s.input i).current).getD c0
    let n := 3 * c.taken / 64
    let rest := if c.odd.isEmpty then [] else [(s.capLine i c (1 + n), sliceB (joinHalves c.odd) 0 32, c.frees n)]
    let s1 := captureHold i (rest ++ [(s.capLine i c 0, c.header i c.lost.length, 0)]) (s.updInput i fun x => { x with
      caps := x.caps.map fun d => if d.isOpen && !d.ended then { c with ended := true } else d
      full := x.full || c.trunc })
    let s2 := (s1.setFld F.ipStatusCapActive (b2n ((s1.input i).current.isSome)) i).islandReg .ipCapWr (BitVec.ofNat 32 (s.capNext i c)) i
    drainCaptures (if c.trunc then s2.setFlag F.ipStatusTrunc i else s2)

/-! ### Register writes (R183) -/

/-- A write of IP_CTRL by session t (R183). -/
def ipCtrlOp (t i v : Nat) (s : Device) : CmdOut :=
  if !(s.seqWritable (512 + i) t) then refuse s stNotOwner
  else if 3 < bitsOf v 6 4 then refuse s stBadArg
  else if bitsOf v 1 0 ≠ s.fld F.ipCtrlRange i ∧ s.inputOpen i s.ssi then refuse s stBusy
  else done (s.putReg .ipCtrl (BitVec.ofNat 32 v &&& 0x73) i)

/-! ### Discrimination and records (R209 to R215) -/

/-- 32-bit clamp. -/
def sat32 (z : Int) : Int := clampI (-(2 ^ 31)) (2 ^ 31 - 1) z

/-- h0 to h2 as one number (R210). -/
def discriminate (t : LaneSet) (i q : Int) : Nat :=
  ((List.range (min (bitsOf t.disc 17 16) 3)).map fun j =>
    let (a, b, c) := t.bounds.getD j (0, 0, 0)
    if 0 ≤ a * i + b * q + c then 2 ^ j else 0).sum

/-- The result of a window: I, Q, the flags so far, h and the state (R209 to R211). -/
def Win.outcome (w : Win) (t : LaneSet) : Int × Int × Nat × Nat × Nat :=
  let (ai, aq, sat) := w.result
  let sh := bitsOf t.ctrl 23 20
  let i := sat32 (ai / 2 ^ sh)
  let q := sat32 (aq / 2 ^ sh)
  let rclip := decide (i ≠ ai / 2 ^ sh) || decide (q ≠ aq / 2 ^ sh)
  let f1 := if sat then orBit w.flags rfSat else w.flags
  let f2 := if rclip then orBit f1 rfRclip else f1
  let h := discriminate t i q
  let force := bitOf f2 rfSat || bitOf f2 rfRclip || bitOf f2 rfLag || bitOf f2 rfCut
    || (bitOf t.ctrl 13 && (bitOf f2 rfClip || bitOf f2 rfDdcSat))
  (i, q, f2, h, if force then undecided else bitsOf (bitsOf t.disc 15 0) (2 * h + 1) (2 * h))

/-- Flags that the sequencers give a record: LATE, TAINTED, CAL_EXTRAP (R213, R240, R245). -/
def Device.depFlags (s : Device) (i : Nat) (w : Win) : Nat :=
  let q := s.seq (512 + i)
  let late := match sfind q.late w.uid with | some tc => decide (tc ≤ w.w) | none => false
  2 ^ rfLate * b2n late + 2 ^ rfTainted * b2n (q.affected.contains w.uid) + 2 ^ rfCalExtrap * b2n (s.input i).extrap

/-- The folio range of a block on a tone grows to hold a folio (R245). -/
def noteFolio (i tone : Nat) (w : Win) (folio : Nat) (s : Device) : Device :=
  s.updSeq (512 + i) fun q =>
    let key := 16 * w.uid + tone
    let range := match sfind q.folios key with
      | some (ser, a, _) => (ser, a, (folio + 1) % 2 ^ 32)
      | none => (w.serial, folio, (folio + 1) % 2 ^ 32)
    { q with folios := sput q.folios key range }

/-- The end of the discrimination stage of a window of lane l (R208 to R219, R226): the record is written or dropped, and the
decision word is placed. -/
def writeResult (l : Nat) (w : Win) (s : Device) : Device :=
  match w.set with
  | none => s
  | some t =>
    let i := l / 16
    let tone := l % 16
    let (vi, vq, f0, h, state) := w.outcome t
    let flags := f0 + s.depFlags i w
    let folio := (s.reg .dlFolio i tone).toNat
    let full := decide (1024 ≤ (s.input i).ring.length)
    let stored := if (s.lane l).gap && !full then orBit flags rfGap else flags
    let rec_ : Record :=
      { folio := folio, start := w.w, i := vi, q := vq, lane := l, state := state, h := h
        scale := t.dec + 16 * bitsOf t.ctrl 23 20, flags := stored, len := w.len, serial := w.serial, uid := w.uid }
    let s1 := (s.updLane l fun x => { x with wins := x.wins.filter fun v => v.w != w.w, gap := full }).addFld F.dlResults 1 i tone
    let s2 := (s1.putReg .dlFolio (BitVec.ofNat 32 (folio + 1)) i tone).putReg .dlLastI (BitVec.ofInt 32 vi) i tone
    let s3 := (s2.putReg .dlLastQ (BitVec.ofInt 32 vq) i tone).putReg .dlLastState (BitVec.ofNat 32 (stored * 65536 + state)) i tone
    let s4 := noteFolio i tone w folio s3
    let s5 := if bitOf flags rfLag then (s4.setFlag F.ipStatusLag i).present (ipEvent i 4) w.w else s4
    let s6 := if bitOf flags rfSat then (s5.setFlag F.ipStatusSat i).present (ipEvent i 5) w.w else s5
    let s7 :=
      if full then
        (((s6.addFld F.ipRecDrop 1 i).setFlag F.ipStatusRecDrop i).present (ipEvent i 3) w.w).monitor 272 1
      else
        let x := s6.input i
        chainRecord l rec_ ((sramWritten 5 i ((x.gone + x.ring.length) % 1024) 1 s6).putInput i { x with ring := x.ring ++ [rec_] })
    placeLocal l w.last state (bitOf flags rfLate) s7

/-- The windows whose discrimination stage has ended (R220), by finish step and lane (R216). -/
def Device.resultsDue (s : Device) : List (Nat × Nat × Win) :=
  let l := s.lanes.flatMap fun (l, x) =>
    (x.wins.filter fun w => w.handed && decide (w.last + 673 ≤ s.ssi)).map fun w => (w.finish, l, w)
  sortBy (fun a b => decide (a.1 < b.1) || (a.1 == b.1 && decide (a.2.1 ≤ b.2.1))) l

/-- Results of the current word. -/
def writeResults (s : Device) : Device :=
  forAllDo s.resultsDue (fun (_, l, w) t => writeResult l w t) s

/-- Cut windows that delivered nothing are closed at x_s (R197). -/
def closeCut (s : Device) : Device :=
  { s with lanes := s.lanes.map fun (l, x) => (l, { x with wins := x.wins.filter fun w =>
      !(w.set.isSome && w.n == 0 && (match w.cutAt with | some c => decide (c < s.ssi + 32) | none => false)) }) }

/-- A COLOPHON block of input i ends: each lane that has windows or records of it owes a colophon once they are all
chained (R501). -/
def colophonBlock (i uid serial : Nat) (s : Device) : Device :=
  forAllDo (List.range 16) (fun t s =>
    let l := 16 * i + t
    let has := (s.lane l).wins.any (fun w => w.uid == uid) || (s.lane l).wrote.contains uid
    if has then s.updLane l fun x => { x with colBlocks := x.colBlocks ++ [(uid, serial)] } else s) s

/-- Colophons of ended blocks whose last record is chained (R501). -/
def colophonsDue (s : Device) : Device :=
  forAllDo ((s.lanes.filter fun (_, x) => !x.colBlocks.isEmpty).map Prod.fst) (fun l t =>
    let x := t.lane l
    let ready := x.colBlocks.filter fun b => !(x.wins.any fun w => w.uid == b.1)
    let t1 := t.putLane l { x with colBlocks := x.colBlocks.filter fun b => x.wins.any fun w => w.uid == b.1 }
    forAllDo ready (fun b t => if (t.lane l).wrote.contains b.1 then colophonDue l 1 b.2 t else t) t1) s

/-! ### The record mover (R216 to R219) -/

/-- The record session of an input (R218). -/
def Device.recSession (s : Device) (i : Nat) : Nat :=
  let o := s.seqOwner (512 + i)
  if o = firmware then s.fld F.ipRecCtrlSess i else o

/-- The spool of an input is full (R217). -/
def Device.spoolFull (s : Device) (i : Nat) : Bool :=
  let size := (s.reg .ipSpoolSize i).toNat
  decide (size ≤ 1) || ((s.reg .ipSpoolWr i).toNat + 1) % size == (s.reg .ipSpoolRd i).toNat % size

/-- The record packet of input i under way (R431): its port. -/
def Device.packetPort (s : Device) (i : Nat) : Option Nat :=
  (List.range 8).find? fun p => match (s.link p).packet with | some k => k.input == i | none => false

/-- The oldest record r leaves the ring of input i; one whose word is uncorrectable is moved as read, with a notice (R374). -/
def leaveRing (i : Nat) (r : Record) (rest : List Record) (s : Device) : Device :=
  let (bad, s1) := sramAccess 5 i (s.input i).gone s
  (if bad then dataUe 5 i (r.lane % 16) r.folio s1 else s1).updInput i fun y => { y with ring := rest, gone := (y.gone + 1) % 1024 }

/-- The record mover of input i sends a record on link port p for its record session, or waits (R217, R218); a packet begins with
every record that the ring holds, up to 64 (R431). -/
def linkMove (i p : Nat) (r : Record) (rest : List Record) (s : Device) : Device :=
  let t := s.recSession i
  let ses := s.session t
  let x := s.link p
  if !(ses.isOpen && ses.via == p) then s.setFlag F.ipStatusNosess i
  else if s.flag F.lkPctlRole p || s.fld F.lkPstatLstate p != 3 then s
  else if x.cred.getD 2 0 ≤ (x.out.filter fun f => f.vc == 3).length then s
  else match x.packet with
    | some k => if k.input = i then sendRecord p r.read (leaveRing i r rest s) else s
    | none => sendRecord p r.read (beginRecords p t i (min 64 (rest.length + 1)) (leaveRing i r rest s))

/-- The record mover of input i moves one record, to the spool or to its session, or waits (R217, R218); a packet that has begun
is finished first. -/
def recordMoveOp (i : Nat) (s : Device) : Device :=
  let x := s.input i
  match x.ring with
  | [] => s
  | r :: rest =>
    match s.packetPort i with
    | some p => linkMove i p r rest s
    | none =>
      if !(s.flag F.ipRecCtrlDest i) then linkMove i (s.fld F.ipRecCtrlPort i) r rest s
      else if s.spoolFull i then s.setFlag F.ipStatusSpoolFull i
      else if s.flag F.memStatusFrozen then s
      else
        let size := (s.reg .ipSpoolSize i).toNat
        let wr := (s.reg .ipSpoolWr i).toNat
        let line := (s.reg .ipSpoolBase i).toNat + wr
        let s1 := dramWrite 2 i line r.read (leaveRing i r rest s)
        (s1.updInput i fun y => { y with spool := sput y.spool line r }).putReg .ipSpoolWr (BitVec.ofNat 32 ((wr + 1) % size)) i

/-! ### Loads (R208, R221, R222) -/

/-- KERN_LOAD by session t: taps of 4 bytes, I first (R221, R222). -/
def kernLoadOp (t i first : Nat) (taps : List (Int × Int)) (s : Device) : CmdOut :=
  let n := taps.length
  if 64 ≤ i then refuse s stBadArg 0
  else if n = 0 ∨ 32768 < n then refuse s stBadArg 8
  else if 32768 < first + n then refuse s stBadArg 4
  else if !(s.seqWritable (512 + i) t) then refuse s stNotOwner
  else if (List.range 16).any fun l => (s.openWins (16 * i + l)).any fun w =>
      let x := w.set.getD (s.laneSet (16 * i + l))
      meets first n x.kbase x.klen then
    refuse s stBusy
  else
    let ks := (List.range n).foldl (fun m j =>
      let (a, b) := taps.getD j (0, 0)
      sput m (32768 * i + first + j) (BitVec.ofNat 32 (ofSigned 16 a + 65536 * ofSigned 16 b))) s.kernels
    done { sramStored 3 i first n 8 s with kernels := ks }

/-- A demodulation program word as the store would hold it with words placed from an address on. -/
def dprogWith (s : Device) (i first : Nat) (ws : List Nat) (a : Nat) : Nat :=
  if first ≤ a ∧ a < first + ws.length then ws.getD (a - first) 0 % 2 ^ 32 else (s.reg .ipDprog i a).toNat

/-- Write demodulation program words by session t (R204, R208, R221): DETAIL is the place of the word at fault among those
written, 0 for a repeat before them. -/
def dprogWriteOp (t i first : Nat) (ws : List Nat) (s : Device) : CmdOut :=
  if !(s.seqWritable (512 + i) t) then refuse s stNotOwner
  else if (List.range 16).any fun l => !(s.openWins (16 * i + l)).isEmpty then refuse s stBusy
  else match dprogFault (dprogWith s i first ws) with
  | some a => refuse s stBadArg (a - first)
  | none => done ((List.range ws.length).foldl (fun u j => u.putReg .ipDprog (BitVec.ofNat 32 (ws.getD j 0)) i (first + j))
      (sramStored 4 i first ws.length 8 s))

/-- DPROG_LOAD by session t (R208, R221). -/
def dprogLoadOp (t i first : Nat) (ws : List Nat) (s : Device) : CmdOut :=
  if 64 ≤ i then refuse s stBadArg 0
  else if ws.length = 0 ∨ 256 < ws.length then refuse s stBadArg 2
  else if 256 < first + ws.length then refuse s stBadArg 1
  else
    let o := dprogWriteOp t i first ws s
    if o.status = stBadArg then { o with detail := 8 + 4 * o.detail } else o

/-- KERN_READ by session t (R466). -/
def kernReadOp (t i first n : Nat) (s : Device) : CmdOut :=
  if 64 ≤ i then refuse s stBadArg 0
  else if n = 0 ∨ 32768 < n then refuse s stBadArg 8
  else if 32768 < first + n then refuse s stBadArg 4
  else if !(s.seqReadable (512 + i) t) then refuse s stNotOwner
  else done s ((List.range n).flatMap fun j => leBytes 4 (sget (0 : Word) s.kernels (32768 * i + first + j)).toNat)

end Sys2Proof.Machine
end

