-- ==== Sys2Proof/Machine/Sequencer.lean ====
section
/-! DEFINITION. The pulse sequencers (spec/03_pulse_programs.md): issue, blocks and their presentation, the scheduler's
answers (spec/10_budget_scheduler.md R309 to R314), jumps, stops and faults, and what each instruction does when it
issues. -/

namespace Sys2Proof.Machine

/-! ### Reading a block -/

/-- The fields of the BLOCK at an address of sequencer k's store: CLASS, ESSENTIAL, COLOPHON, UPOL, EVENT, START_EC and
BLOCK_ID. -/
structure BlockFields where
  cls : Nat := 0
  ess : Bool := false
  colo : Bool := false
  upol : Bool := false
  event : Bool := false
  ec : Nat := 0
  id : Nat := 0
  deriving DecidableEq, Repr

/-- The BLOCK at an address. -/
def Device.blockFields (s : Device) (k a : Nat) : BlockFields :=
  match s.instrAt (storeOf k) a with
  | some (.block cls ess colo upol event ec id) => ⟨cls, ess, colo, upol, event, ec, id⟩
  | _ => {}

/-- The address lies in sequencer k's span (R72). -/
def Device.inSpan (s : Device) (k a : Nat) : Bool := decide (s.fld F.csSpanLo k ≤ a) && decide (a < s.fld F.csSpanHi k)

/-- The segments that the block at an address names, each with whether a CPLAY names it, in program order. -/
def Device.namedSegs (s : Device) (k a : Nat) : List (Nat × Bool) :=
  if k < 512 then
    (s.blockBody (storeOf k) a).flatMap fun x =>
      match x.2 with
      | .play _ _ sg _ => [(sg, false)]
      | .cplay _ _ x y _ => [(x, true), (y, true)]
      | _ => []
  else []

/-- The segments that a block pins (R140). -/
def Device.segsOf (s : Device) (k a : Nat) : List Nat := ((s.namedSegs k a).map Prod.fst).eraseDups

/-- Pin segments for sequencer k (R140). -/
def pinSegs (k : Nat) (segs : List Nat) (s : Device) : Device :=
  if segs.isEmpty then s else s.updForme (k / 8) fun x => { x with pins := x.pins ++ segs.map fun n => (n, k) }

/-- Undo one pinning (R140). -/
def unpinSegs (k : Nat) (segs : List Nat) (s : Device) : Device :=
  if segs.isEmpty then s else s.updForme (k / 8) fun x => { x with pins := segs.foldl (fun ps n => ps.erase (n, k)) x.pins }

/-! ### States -/

/-- STATE of a sequencer. -/
def Device.seqState (s : Device) (k : Nat) : Nat := s.fld F.csStatusState k

/-- PENDING, RUNNING or LEADING. -/
def Device.seqActive (s : Device) (k : Nat) : Bool := let st := s.seqState k; st == 1 || st == 2 || st == 3

/-- The monitors LEADING and LEAD_CYC (R287). -/
def monLeading : Nat := 266
def monLeadCyc : Nat := 267

/-- Withdraw everything of sequencer k from index x on (R100): its actions, plays, marker intervals, windows and captures
that start at x or later, its admitted blocks that start there (R549), and what it presents; its block that runs past x
ends at x. -/
def withdrawFrom (k x : Nat) (s : Device) : Device :=
  let q := s.seq k
  let all := q.ending ++ q.blk.toList
  let gone := all.filter fun b => decide (x ≤ b.start)
  let kept := (all.filter fun b => decide (b.start < x)).map fun b =>
    { b with stop := some (match b.stop with | some e => min e x | none => x) }
  let s1 := { s with acts := s.acts.filter fun a => a.owner != k || decide (a.index < x) }
  let s2 := if k < 512 then s1.updPort k fun p => { p with
      voices := p.voices.filter fun v => decide (v.start < x)
      marks := p.marks.filter fun m => decide (m.2.1 < x) }
    else dropCaptures (k - 512) x (dropWindows (k - 512) x s1)
  let s3 := forAllDo gone (fun b t => unpinSegs k b.pins (if b.started then t else reserveVec false b.vec t)) s2
  let held := (q.pres.map Pres.addr).toList ++ q.represent.toList ++ q.altOf.toList
  let s4 := forAllDo held (fun a t => unpinSegs k (t.segsOf k a) t) s3
  s4.updSeq k fun y => { y with
    blk := none, ending := kept, pres := none, represent := none, altOf := none, cond := none
    old := y.old ++ y.cond.toList, bounds := y.bounds.filter fun b => decide (b ≤ x) }

/-- Sequencer k enters a final state at index x: it issues nothing more, and what it issued from x on is withdrawn. Where it enters
another one before x, a STOP still takes it to STOPPED at x (R115). -/
def haltSeq (k x newState : Nat) (s : Device) : Device :=
  (withdrawFrom k x (leaveSlots k x s)).updSeq k fun q =>
    let q1 := { q with issuing := false, jump := none, bounds := [] }
    match q.final with
    | some (y, st) =>
      if y < x then { q1 with final := some (y, st), stopAt := if newState = 4 then some x else q.stopAt }
      else { q1 with final := some (x, newState) }
    | none => { q1 with final := some (x, newState) }

/-- The part of sequencer k in its port falls silent at x (R72, R115): voices and markers, or windows and captures. -/
def silence (k x : Nat) (s : Device) : Device :=
  if k < 512 then stopPort k x s else cutCapture (k - 512) x (cutWindows (k - 512) x s)

/-- STOP of sequencer k at the first sample it can reach (R115). -/
def stopSeq (k : Nat) (s : Device) : Device := silence k s.reach (haltSeq k s.reach 4 s)

/-- FAULT of sequencer k at the first sample it can reach (R72). -/
def faultSeq (k : Nat) (s : Device) : Device := silence k s.reach (haltSeq k s.reach 6 s)

/-- FAULT at a boundary (R86, R110): segments already started play to their end (R82), marker intervals are cleared (R153), and open
windows and captures end (R191, R197). -/
def faultAt (k x : Nat) (s : Device) : Device :=
  let e := max x s.reach
  let s1 := haltSeq k e 6 s
  if k < 512 then s1.updPort k (cutMarks e) else cutCapture (k - 512) e (cutWindows (k - 512) e s1)

/-- A BLOCK_FAULT notice (R86, R110, R143, R468). -/
def blockFault (k addr t0 status seg : Nat) (s : Device) : Device :=
  s.notice 0x8002 status (some (s.seqOwner k, s.seqSealed k))
    (leBytes 2 k ++ leBytes 2 (s.blockFields k addr).id ++ leBytes 4 (s.reg .csBlockser k).toNat ++ leBytes 8 t0
      ++ leBytes 2 seg)

/-! ### Presentation (R80, R81, R110, R140, R143) -/

/-- The first segment of a block that is not resident as R110 and R143 ask at its presentation. -/
def Device.missingSeg (s : Device) (k a : Nat) : Option Nat :=
  ((s.namedSegs k a).find? fun (n, c) =>
    let st := (s.seg (k / 8) n).state
    if c then st != 3 else st == 0).map Prod.fst

/-- The alternates that are enabled and name a BLOCK in the span: address and vector (R84, R304). Their
segments are not asked to be resident (DEDUCED, log entry 103). -/
def Device.alternates (s : Device) (k : Nat) : List (Nat × List Nat) :=
  (List.range 4).filterMap fun n =>
    let a := s.fld F.csAltAddr k n
    if s.flag F.csAltEn k n && s.isBlockAt (storeOf k) a && s.inSpan k a then some (a, s.blockVector k a) else none

/-- Present the block at address a with candidate t0 (R80); ec is the channel it waits on, none for FOLLOW. pinned says that
its segments are pinned already. -/
def presentBlock (k a t0 : Nat) (ec : Option Nat) (again pinned : Bool) (rx : List Nat) (s : Device) : Device :=
  if !(s.inSpan k a) then faultSeq k (if pinned then unpinSegs k (s.segsOf k a) s else s)
  else
    let s0 := if pinned then s else pinSegs k (s.segsOf k a) s
    match s0.missingSeg k a with
    | some n =>
      faultAt k t0 (blockFault k a t0 stNotResident n ((unpinSegs k (s0.segsOf k a) s0).setFlag F.csStatusNotRes k))
    | none =>
      let known := ((s0.namedSegs k a).filter fun (n, c) => !c && (s0.seg (k / 8) n).state == 1).map Prod.fst
      let s1 := forAllDo known.eraseDups (fun n t => queueFetch (k / 8) n t) s0
      let p : Pres :=
        { addr := a, t0 := t0, ec := ec, cycle := s.cycle, vec := s1.blockVector k a, again := again
          alts := if again then [] else s1.alternates k, rx := rx }
      (s1.updSeq k fun q => { q with t := t0, pres := some p, issuing := true }).setFld F.csStatusState
        (if ec.isSome then 1 else 3) k

/-- The mark of a START_EC selection that sealing cut (R285). -/
def startKey (k a : Nat) : Nat := 2 ^ 32 + 32768 * k + a

/-- A BLOCK reached in the program is presented at T, in its own START mode; a START_EC that sealing cut hears no channel
(R285). -/
def presentOwn (k a t : Nat) (s : Device) : Device :=
  let b := s.blockFields k a
  let ec := if s.ev.cut.contains (startKey k a) then 256 else b.ec
  presentBlock k a t (if b.event then some ec else none) false false [] s

/-- An event stamped e on channel n reaches the sequencers that wait for it (R81). -/
def eventStart (n e : Nat) (rx : List Nat) (s : Device) : Device :=
  forAllDo (s.seqs.map Prod.fst) (fun k t =>
    match (t.seq k).pres with
    | some p =>
      if p.ec = some n ∧ p.cycle < t.cycleOf e then
        (t.updSeq k fun q => { q with
          t := e + 1536, pres := some { p with ec := none, t0 := e + 1536, cycle := t.cycle, rx := p.rx ++ rx } }).setFld
            F.csStatusState 3 k
      else t
    | none => t) s

/-! ### Jumps (R98 to R102) -/

/-- A jump request reaches sequencer k (R99, R102). One PENDING on an event waits on for that event (DESIGN CHOICE, log entry 102). -/
def jumpRequest (k r tgt : Nat) (rx : List Nat) (s : Device) : Device :=
  let q := s.seq k
  if !(s.seqActive k) then s
  else
    match q.pres, q.represent, q.blk with
    | some p, _, _ =>
      let s1 := unpinSegs k (s.segsOf k p.addr) ((endSlots k (max r s.ssi) s).updSeq k fun q => { q with pres := none })
      presentBlock k tgt p.t0 p.ec false false (p.rx ++ rx) s1
    | none, some a, _ =>
      let s1 := pinSegs k (s.segsOf k tgt) (unpinSegs k (s.segsOf k a) (endSlots k (max r s.ssi) s))
      s1.updSeq k fun q => { q with represent := some tgt }
    | none, none, some b =>
      if s.seqState k = 3 ∧ b.started = false ∧ b.t0 < b.start then
        presentBlock k tgt b.t0 none false false rx (withdrawFrom k b.start (leaveSlots k (max r s.ssi) s))
      else s.updSeq k fun q => { q with jump := some (r, tgt, rx) }
    | none, none, none =>
      if s.seqState k = 1 then s.updSeq k fun q => { q with npc := tgt }
      else s.updSeq k fun q => { q with jump := some (r, tgt, rx) }

/-- An event stamped e on channel n is a jump request of the sequencers that select it (R99); a target that is no BLOCK
makes none (R101). -/
def eventJumps (n e : Nat) (rx : List Nat) (s : Device) : Device :=
  forAllDo (s.seqs.map Prod.fst) (fun k t =>
    let tgt := t.fldF F.csJtgt k
    if t.fldF F.csCtrlJevEn k != 0 && t.fldF F.csCtrlJevSel k == n && !(t.ev.cut.contains (RegName.addr .csCtrl k))
        && t.isBlockAt (storeOf k) tgt then jumpRequest k (e + 768) tgt rx t
    else t) s

/-- The boundary at which a pending jump takes effect (R98, R100), once issue may reach it (R76): until then another request
still replaces the jump (R102). -/
def Device.jumpAt (s : Device) (k : Nat) : Option (Nat × Nat × List Nat) :=
  let q := s.seq k
  match q.jump with
  | some (r, tgt, rx) => ((q.bounds.find? fun b => decide (r + 64 < b) && decide (s.reach ≤ b)).filter fun b =>
      decide (b ≤ s.issueIndex + 8192)).map fun b => (b, tgt, rx)
  | none => none

/-- A block that an UNDERRUN ends the run after (R88). -/
def Blk.aborts (b : Blk) : Bool := b.underrun && b.upol && b.stop.isSome

/-- A pending jump takes effect (R88, R100). -/
def jumpTakeOp (k : Nat) (s : Device) : Device :=
  match s.jumpAt k with
  | none => s
  | some (b, tgt, rx) =>
    let s1 := (withdrawFrom k b (leaveSlots k b s)).updSeq k fun q => { q with t := b, jump := none, final := none, issuing := false }
    if (s1.seq k).ending.any fun x => x.aborts && x.stop == some b then s1
    else presentBlock k tgt b none false false rx s1

/-! ### The scheduler's answers (R80, R83 to R86, R302, R309 to R314) -/

/-- The members of gang g (R83): PENDING, RUNNING or LEADING. -/
def Device.gangMembers (s : Device) (g : Nat) : List Nat :=
  ((s.seqs.map Prod.fst).filter fun k => s.gang k == g && s.seqActive k)

/-- The presentation of k waits for the scheduler, made in an earlier cycle and with its candidate set. -/
def Device.presReady (s : Device) (k : Nat) : Bool :=
  match (s.seq k).pres with
  | some p => p.ec.isNone && decide (p.cycle < s.cycle)
  | none => false

/-- The presentations to decide in this cycle: a sequencer without a gang alone, a gang once every member has presented. -/
def Device.toDecide (s : Device) : List (List Nat) :=
  ((s.seqs.map Prod.fst).filter s.presReady).filterMap fun k =>
    if s.gang k = 0 then some [k]
    else
      let ms := s.gangMembers (s.gang k)
      if ms.head? = some k && ms.all s.presReady then some ms else none

/-- The class of a presentation: the lowest of its members (R302). -/
def Device.presClass (s : Device) (ms : List Nat) : Nat :=
  (ms.map fun k => match (s.seq k).pres with | some p => (s.blockFields k p.addr).cls | none => 0).foldl min 3

/-- An event and flag of the scheduler, stamped T0 (R320). -/
def budNote (f : Fld) (evt t0 : Nat) (s : Device) : Device := (s.setFlag f).present (budEvent evt) t0

/-- The end index of the last segment still playing on a port. -/
def Device.lastEnd (s : Device) (p : Nat) : Nat := ((withEnds (s.port p).voices).map Prod.snd).foldl max 0

/-- Leading or a deferral of n cycles from t0 on member k (R313, R314). -/
def leadMember (k t0 n : Nat) (s : Device) : Device :=
  if n = 0 then s
  else
    let s1 := s.put64 .csLeadLo .csLeadHi (s.reg64 .csLeadLo .csLeadHi k + 32 * n) k
    if k < 512 then offerIdle k (max t0 (s1.lastEnd k)) (t0 + 32 * n) s1 else s1

/-- Admit the block at address a on sequencer k at start (R80, R110, R140). -/
def admitMember (k a t0 start : Nat) (vec : List Nat) (altOf : Option Nat) (rx : List Nat) (s : Device) : Device :=
  let q := s.seq k
  let f := s.blockFields k a
  let serial := ((s.reg .csBlockser k).toNat + 1) % 2 ^ 32
  let uid := q.uid + 1
  let b : Blk :=
    { uid := uid, addr := a, t0 := t0, start := start, vec := vec, colo := f.colo, upol := f.upol, id := f.id
      serial := serial, pins := s.segsOf k a }
  let s1 := if altOf.isSome then pinSegs k (s.segsOf k a) s else s
  let s2 := s1.updSeq k fun q => { q with
    t := start, npc := a + 1, pres := none, cond := none, old := q.old ++ q.cond.toList, blk := some b, uid := uid, altOf := altOf }
  let s3 := ((s2.setFld F.csStatusState (if start = t0 then 2 else 3) k).putReg .csBlockser (BitVec.ofNat 32 serial) k).putReg
    .csBlock (BitVec.ofNat 32 (f.cls * 2 ^ 30 + b2n f.ess * 2 ^ 29 + f.id)) k
  useRx rx [(k, uid)] (reserveVec true vec (s3.put64 .csEnergyLo .csEnergyHi (s3.blockEnergy k a) k))

/-- Refuse the block that k presents (R86). -/
def refuseMember (k t0 : Nat) (s : Device) : Device :=
  match (s.seq k).pres with
  | some p => faultAt k t0 (blockFault k p.addr t0 stInfeasible 0xFFFF (s.setFlag F.csStatusInfeasible k))
  | none => s

/-- Defer the block that k presents by n cycles (R312). -/
def deferMember (k t0 n : Nat) (s : Device) : Device :=
  match (s.seq k).pres with
  | some p => leadMember k t0 n (s.updSeq k fun q => { q with pres := none, represent := some p.addr, t := t0 + 32 * n })
  | none => s

/-- The scheduler's answer to one presentation (R310). -/
def decide1 (ms : List Nat) (s : Device) : Device :=
  let ps := ms.filterMap fun k => (s.seq k).pres.map fun p => (k, p)
  let t0 := (ps.map fun x => x.2.t0).foldl max 0
  let vec := (List.range 18).map fun j => (ps.map fun x => x.2.vec.getD j 0).foldl satAdd 0
  let cls := s.presClass ms
  let ess := ps.all fun x => (s.blockFields x.1 x.2.addr).ess
  let hot := s.flag F.budStatusHot
  let alone := match ms with | [k] => s.gang k == 0 | _ => false
  if ps.length ≠ ms.length then s
  else if s.infeasible vec cls ess then
    forAllDo ms (fun k t => refuseMember k t0 t) (budNote F.budStatusInfeas 3 t0 (s.addFld F.budRefusals 1))
  else
    let n := if hot && !ess then none else s.leadingOf vec cls ess t0 ((s.reg .budLeadmax).toNat + 1) 0
    let alts := if alone then ps.flatMap fun x => x.2.alts.map fun a => (x.1, x.2, a.1, a.2) else []
    let alt := if n = some 0 then none else alts.find? fun (k, _, a, v) =>
      let f := s.blockFields k a
      !(s.infeasible v f.cls f.ess) && decide (cls ≤ f.cls) && (f.ess || !hot) && s.fits v f.cls f.ess t0
    let enter (n : Nat) (s : Device) : Device :=
      forAllDo ps (fun (k, p) t =>
        leadMember k t0 n (admitMember k p.addr t0 (t0 + 32 * n) p.vec none p.rx
          (if p.t0 < t0 then t.setFlag F.csStatusGangskew k else t))) (s.addFld F.budAdmits 1)
    match alt, n with
    | some (k, p, a, v), _ =>
      admitMember k a t0 t0 v (some p.addr) p.rx (budNote F.budStatusAlt 1 t0 ((s.addFld F.budAdmits 1).addFld F.budAlts 1))
    | none, some n =>
      if n = 0 then enter 0 s
      else
        let cs := ms.filter (· < 512)
        let g := (cs.map fun k => max t0 (s.lastEnd k)).foldl max t0
        forAllDo (if cs.isEmpty then [] else ms.filter (512 ≤ ·)) (fun k t => offerIdle k g (t0 + 32 * n) t)
          (enter n (((budNote F.budStatusLead 0 t0 s).monitor monLeading 1).monitor monLeadCyc n))
    | none, none =>
      let l := (if hot && !ess then s.reg .budHotlead else s.reg .budLeadmax).toNat
      forAllDo ms (fun k t => deferMember k t0 l t)
        ((budNote F.budStatusDefer 2 t0 (s.addFld F.budDefers 1)).monitor monLeadCyc l)

/-- The scheduler answers the presentations of earlier cycles in the order of R309. -/
def schedulerAnswers (s : Device) : Device :=
  let key (a b : Nat × List Nat) : Bool :=
    decide (b.1 < a.1) || (a.1 == b.1 && decide (a.2.headD 0 ≤ b.2.headD 0))
  forAllDo (sortBy key (s.toDecide.map fun ms => (s.presClass ms, ms))) (fun x t => decide1 x.2 t) s

/-- A deferred block is due to be presented again (R312). -/
def Device.representDue (s : Device) (k : Nat) : Bool :=
  let q := s.seq k
  q.represent.isSome && q.final.isNone && decide (q.t ≤ s.issueIndex + 8192)

/-- Present a deferred block again (R312). -/
def representOp (k : Nat) (s : Device) : Device :=
  let q := s.seq k
  match q.represent with
  | some a => if s.representDue k then presentBlock k a q.t none false true [] (s.updSeq k fun q => { q with represent := none }) else s
  | none => s

/-! ### What comes due by itself -/

/-- The blocks of sequencer k whose start lies in the current word start: each is charged (R305, R116). -/
def blockStartOp (k : Nat) (s : Device) : Device :=
  let q := s.seq k
  let due := (q.ending ++ q.blk.toList).filter fun b => !b.started && decide (b.start < s.ssi + 32)
  let mark (b : Blk) : Blk := if b.start < s.ssi + 32 then { b with started := true } else b
  let s1 := forAllDo due (fun b t => (chargeVec b.vec t).present (seqEvent k 4) b.start) s
  let s2 := s1.updSeq k fun q => { q with blk := q.blk.map mark, ending := q.ending.map mark }
  if due.isEmpty ∨ s2.seqState k ≠ 3 ∨ (s2.seq k).pres.isSome ∨ (s2.seq k).represent.isSome
      ∨ (s2.seq k).blk.any (fun b => !b.started) then s2
  else s2.setFld F.csStatusState 2 k

/-- BLOCK_START is due. -/
def Device.blockStartDue (s : Device) (k : Nat) : Bool :=
  let q := s.seq k
  (q.ending ++ q.blk.toList).any fun b => !b.started && decide (b.start < s.ssi + 32)

/-- The abort of R88 is due. -/
def Device.abortAt (s : Device) (k : Nat) : Option Nat :=
  match (s.seq k).final with
  | some (_, 5) => none
  | _ => ((s.seq k).ending.find? Blk.aborts).bind Blk.stop

/-- The sequencer and the active members of its gang enter ABORTED at the block's end (R88). -/
def underrunAbortOp (k : Nat) (s : Device) : Device :=
  match s.abortAt k with
  | none => s
  | some e =>
    forAllDo (k :: (s.gangMates k).filter s.seqActive) (fun m t => haltSeq m e 5 t) s

/-- A block that has started and whose end index lies in the current word or before ends (R79, R116, R140, R501). -/
def blockEnd (k : Nat) (b : Blk) (s : Device) : Device :=
  let s1 := unpinSegs k b.pins (s.present (seqEvent k 5) (b.stop.getD 0))
  if b.colo ∧ 512 ≤ k then colophonBlock (k - 512) b.uid b.serial s1 else s1

/-- A STOP that came behind another final state is reached (R115). -/
def stopLand (k : Nat) (s : Device) : Device :=
  match (s.seq k).stopAt with
  | some x => if x < s.ssi + 32 then (s.updSeq k fun q => { q with stopAt := none }).setFld F.csStatusState 4 k else s
  | none => s

/-- The blocks that end in this cycle, then the final states that are reached. -/
def seqLand (s : Device) : Device :=
  forAllDo (s.seqs.map Prod.fst) (fun k t =>
    let gone (b : Blk) : Bool := b.started && (match b.stop with | some e => decide (e < t.ssi + 32) | none => false)
    let ended := (t.seq k).ending.filter gone
    let t1 := if ended.isEmpty then t
      else forAllDo ended (blockEnd k) (t.updSeq k fun q => { q with ending := q.ending.filter fun b => !(gone b) })
    stopLand k <| match (t1.seq k).final with
    | some (x, st) =>
      if x < t1.ssi + 32 then
        let t2 := (t1.updSeq k fun q => { q with final := none, issuing := false, jump := none, bounds := [] }).setFld
          F.csStatusState st k
        if st = 6 then t2.present (seqEvent k 9) x
        else if st = 5 then t2.setFlag F.csStatusAborted k
        else t2
      else t1
    | none => t1) s

/-! ### Conditions and CPLAY (R105 to R111) -/

/-- Plays of port p that wait for condition ser take their segment (R109). -/
def choose (p ser : Nat) (v : Bool) (s : Device) : Device :=
  s.updPort p fun q => { q with voices := q.voices.map fun x =>
    match x.choice with
    | some (n, a, b) =>
      if n = ser then
        let sg := if v then a else b
        { x with seg := sg, len := (s.seg (p / 8) sg).len, choice := none }
      else x
    | none => x }

/-- Form the verdict of one condition of sequencer k where its resolving CPLAY has issued and V is known. -/
def formOne (k : Nat) (c : Cond) (s : Device) : Device :=
  match c.tc, c.v with
  | some tc, none =>
    if s.known c tc then
      let (c1, s1) := formVerdict k c tc s
      let s2 := s1.updSeq k fun q => { q with
        cond := q.cond.map fun d => if d.ser = c.ser then c1 else d
        old := q.old.map fun d => if d.ser = c.ser then c1 else d }
      choose k c.ser (c1.v.getD false) s2
    else s
  | _, _ => s

/-- The verdicts formed in this cycle; conditions no play needs any more are forgotten. -/
def verdictStage (s : Device) : Device :=
  forAllDo ((s.seqs.filter fun (_, q) => q.cond.isSome || !q.old.isEmpty).map Prod.fst) (fun k t =>
    let q := t.seq k
    let t1 := forAllDo (q.old ++ q.cond.toList) (formOne k) t
    t1.updSeq k fun q => { q with old := q.old.filter fun c =>
      c.v.isNone && ((t1.port k).voices.any fun v => match v.choice with | some (n, _, _) => n == c.ser | none => false) }) s

/-! ### Issue (R74 to R78) -/

/-- Sequencer k may issue in this cycle (R75, R76, R78). -/
def Device.canIssue (s : Device) (k : Nat) : Bool :=
  let q := s.seq k
  q.issuing && q.final.isNone && q.pres.isNone && q.represent.isNone && q.lastIssue != some s.cycle
    && decide (q.t ≤ s.issueIndex + 8192)

/-- The instruction that sequencer k fetches at an address, where its span and store hold one (R72, R90). -/
def Device.fetchAt (s : Device) (k a : Nat) : Option SeqInstr :=
  if s.inSpan k a && !(s.sramBadAt 2 (storeOf k) (a / 4)) then
    match s.instrAt (storeOf k) a with
    | some i => if i.validFor (if k < 512 then 0 else 1) then some i else none
    | none => none
  else none

/-- The instruction at sequencer k's next address. -/
def Device.fetched (s : Device) (k : Nat) : Option SeqInstr := s.fetchAt k (s.seq k).npc

/-- The addresses that sequencer k fetches in this cycle: its next one, and at a JCOND whose V is not known yet both ways on
(R111). -/
def Device.fetches (s : Device) (k : Nat) : List Nat :=
  let a := (s.seq k).npc
  match s.fetched k, (s.seq k).cond with
  | some (.jcond _ t), some c => if c.v.isNone then [a, t, a + 1] else [a]
  | _, _ => [a]

/-- The instruction that sequencer k issues in this cycle. -/
def Device.nextInstr (s : Device) (k : Nat) : Option SeqInstr := if s.canIssue k then s.fetched k else none

/-- Sequencer k's fetches read its program store (R386, R392). -/
def fetchReads (k : Nat) (s : Device) : Device :=
  forAllDo ((s.fetches k).filter (s.inSpan k)) (fun a t => (sramAccess 2 (storeOf k) (a / 4) t).2) s

/-- The fetches of this cycle: one outside a span (R72) or of an uncorrectable word (R374) faults. -/
def fetchFaults (s : Device) : Device :=
  let ks := (s.seqs.map Prod.fst).filter s.canIssue
  let bad := ks.filter fun k => (s.fetches k).any fun a => (s.fetchAt k a).isNone
  forAllDo bad faultSeq (if s.sramErrs.isEmpty then s else forAllDo ks fetchReads s)

/-- The read-out sequencers of inputs whose engines met an uncorrectable word enter FAULT (R374). -/
def brokenInputs (s : Device) : Device :=
  forAllDo ((s.inputs.filter fun x => x.2.broken).map Prod.fst)
    (fun i t => (faultSeq (512 + i) t).updInput i fun x => { x with broken := false }) s

/-- The instruction at address a issues: PC shows it, and the next address follows. -/
def stepPast (k a next : Nat) (s : Device) : Device :=
  (s.updSeq k fun q => { q with lastIssue := some s.cycle, npc := next }).putReg .csPc (BitVec.ofNat 32 a) k

/-- T moves on by n samples, which makes a boundary (R74, R98). -/
def advanceT (k : Nat) (adv : Bool) (n : Nat) (s : Device) : Device :=
  if adv then s.updSeq k fun q => { q with t := q.t + n, bounds := (q.bounds.filter fun b => decide (s.ssi < b)) ++ [q.t + n] }
  else s

/-- An action at x does not issue on time (R77). -/
def Device.tooLate (s : Device) (x : Nat) : Bool := decide (x < s.reach)

/-- The first sample an action at x takes effect from (R77). -/
def Device.effectAt (s : Device) (x : Nat) : Nat := max x s.reach

/-- ISSUE_LATE for an action at x that is not on time, or that R97 refuses (R77). -/
def issueLate (k x : Nat) (s : Device) : Device := (s.setFlag F.csStatusIssueLate k).present (seqEvent k 7) x

/-- ISSUE_LATE where an action at x is not on time. -/
def markLate (k x : Nat) (s : Device) : Device := if s.tooLate x then issueLate k x s else s

/-- An action of sequencer k at its T (R92, R77). -/
def addAct (k : Nat) (kind : ActKind) (s : Device) : Device :=
  let x := (s.seq k).t
  let s1 := markLate k x s
  { s1 with acts := s1.acts ++ [⟨s1.effectAt x, x, k, kind⟩] }

/-- A voice of port p starts. -/
def addVoice (p : Nat) (v : Voice) (s : Device) : Device := s.updPort p fun q => { q with voices := q.voices ++ [v] }

/-- Close the open block at T (R79). -/
def closeBlock (k : Nat) (s : Device) : Device :=
  s.updSeq k fun q => { q with
    blk := none, cond := none, old := q.old ++ q.cond.toList
    ending := q.ending ++ (q.blk.map fun b => { b with stop := some q.t }).toList }

/-- The open block ends the run when it closes (R88). -/
def Device.closingAborts (s : Device) (k : Nat) : Bool :=
  match (s.seq k).blk with
  | some b => b.underrun && b.upol
  | none => false

/-- The deferred block of an alternate that ends without YIELD is dropped (R85). -/
def dropDeferred (k : Nat) (s : Device) : Device :=
  match (s.seq k).altOf with
  | some a => (unpinSegs k (s.segsOf k a) s).updSeq k fun q => { q with altOf := none }
  | none => s

/-! ### The instructions (R90 to R97, R106 to R112, R550) -/

def seqNop (k a : Nat) (s : Device) : Device := stepPast k a (a + 1) s

/-- BLOCK (R79, R80, R88). -/
def seqBlock (k a : Nat) (s : Device) : Device :=
  let ab := s.closingAborts k
  let s1 := closeBlock k (dropDeferred k (stepPast k a (a + 1) s))
  if ab then s1.updSeq k fun q => { q with issuing := false } else presentOwn k a (s1.seq k).t s1

/-- END (R79, R92): STOPPED at T. -/
def seqEnd (k a : Nat) (s : Device) : Device :=
  let s1 := closeBlock k (dropDeferred k (stepPast k a (a + 1) s))
  s1.updSeq k fun q => { q with final := some (q.t, 4) }

/-- YIELD (R84, R85, R88): the deferred block again with T0 = T; else as END. -/
def seqYield (k a : Nat) (s : Device) : Device :=
  match (s.seq k).altOf with
  | none => seqEnd k a s
  | some d =>
    let ab := s.closingAborts k
    let s1 := closeBlock k (stepPast k a (a + 1) s)
    if ab then s1.updSeq k fun q => { q with issuing := false }
    else presentBlock k d (s1.seq k).t none true true [] (s1.updSeq k fun q => { q with altOf := none })

def seqGoto (k a t : Nat) (s : Device) : Device := stepPast k a t s

def seqLoop (k a c n : Nat) (s : Device) : Device := (stepPast k a (a + 1) s).putReg .csLoop (BitVec.ofNat 32 n) k c

/-- ENDL (R550). -/
def seqEndl (k a c t : Nat) (s : Device) : Device :=
  let r := s.fld F.csLoopRemain k c
  if 1 < r then (stepPast k a t s).putReg .csLoop (BitVec.ofNat 32 (r - 1)) k c
  else (stepPast k a (a + 1) s).putReg .csLoop 0 k c

/-- V of the armed condition as sequencer k's next CPLAY or JCOND uses it, where it is known (R107, R111). -/
def Device.verdictKnown (s : Device) (k : Nat) : Bool :=
  match (s.seq k).cond with
  | none => true
  | some c => c.v.isSome || s.known c (c.tc.getD (s.seq k).t)

/-- Resolve the armed condition of k at its cursor, where V is known: V, and the state with it formed (R107). -/
def resolveCond (k : Nat) (s : Device) : Bool × Device :=
  let q := s.seq k
  match q.cond with
  | none => (false, s.setFld F.csStatusCond 0 k)
  | some c =>
    match c.v with
    | some v => (v, s)
    | none =>
      let c0 := if c.tc.isSome then c else { c with tc := some q.t, uid := (q.blk.map Blk.uid).getD 0 }
      let s1 := formOne k c0 (s.updSeq k fun q => { q with cond := some c0 })
      (((s1.seq k).cond.bind Cond.v).getD false, s1)

/-- A JCOND of k would be the one that resolves the armed condition. -/
def Device.resolves (s : Device) (k : Nat) : Bool :=
  match (s.seq k).cond with
  | some c => c.tc.isNone && c.v.isNone
  | none => false

/-- JCOND, once V is known (R111). -/
def seqJcond (k a : Nat) (pol : Bool) (t : Nat) (s : Device) : Device :=
  let (v, s1) := resolveCond k s
  stepPast k a (if v == pol then t else a + 1) s1

/-- ARMD of a lane or a gate at T (R106). -/
def seqArmd (k a : Nat) (c : Device → Cond) (s : Device) : Device :=
  let s1 := stepPast k a (a + 1) s
  let d := c s1
  s1.updSeq k fun q => { q with cond := some d, old := q.old ++ q.cond.toList, condSer := d.ser }

/-- WAIT (R92, R96). -/
def seqWait (k a : Nat) (announce : Bool) (n : Nat) (s : Device) : Device :=
  let t := (s.seq k).t
  let s1 := advanceT k true n (stepPast k a (a + 1) s)
  let i := k - 512
  let busy := decide (512 ≤ k) && (((s.input i).caps.any fun c => decide (t < c.until_))
    || (List.range 16).any fun tone => (s.lane (16 * i + tone)).wins.any fun w => decide (t < w.w + w.span))
  if announce && !busy then offerIdle k t (t + n) s1 else s1

/-- PLAY of a galley segment (R92, R94). -/
def seqPlay (k a : Nat) (adv : Bool) (voice sg gain : Nat) (s : Device) : Device :=
  let x := (s.seq k).t
  let len := (s.seg (k / 8) sg).len
  let v : Voice := { voice := voice, stream := false, seg := sg, start := x, len := len, reach := s.effectAt x, gain := toSigned 16 gain }
  advanceT k adv len (addVoice k v (markLate k x (stepPast k a (a + 1) s)))

/-- PLAY of a stream ring (R92, R149). -/
def seqStream (k a : Nat) (adv : Bool) (voice ring gain n : Nat) (s : Device) : Device :=
  let x := (s.seq k).t
  let v : Voice := { voice := voice, stream := true, seg := ring, start := x, len := 32 * n, reach := s.effectAt x, gain := toSigned 16 gain }
  advanceT k adv (32 * n) (addVoice k v (markLate k x (stepPast k a (a + 1) s)))

/-- CPLAY (R107, R109): the play waits for V where V is not known yet. -/
def seqCplay (k a : Nat) (adv : Bool) (voice segA segB gain : Nat) (s : Device) : Device :=
  let q := s.seq k
  let x := q.t
  let s1 := markLate k x (stepPast k a (a + 1) s)
  let lenA := (s.seg (k / 8) segA).len
  let v : Voice := { voice := voice, stream := false, seg := segA, start := x, len := lenA, reach := s.effectAt x, gain := toSigned 16 gain }
  let s2 :=
    match q.cond with
    | none => addVoice k { v with seg := segB, len := (s.seg (k / 8) segB).len } (s1.setFld F.csStatusCond 0 k)
    | some c =>
      let c0 := if c.tc.isSome then c else { c with tc := some x, uid := (q.blk.map Blk.uid).getD 0 }
      let s3 := addVoice k { v with choice := some (c.ser, segA, segB) } (s1.updSeq k fun q => { q with cond := some c0 })
      match c0.v with
      | some b => choose k c.ser b s3
      | none => formOne k c0 s3
  advanceT k adv lenA s2

def seqSetf (k a car freq : Nat) (s : Device) : Device := addAct k (.setf car freq) (stepPast k a (a + 1) s)
def seqSetp (k a car : Nat) (add : Bool) (ph : Nat) (s : Device) : Device := addAct k (.setp car add ph) (stepPast k a (a + 1) s)
def seqSetport (k a kind v : Nat) (s : Device) : Device := addAct k (.setport kind v) (stepPast k a (a + 1) s)
def seqStrobe (k a : Nat) (s : Device) : Device := addAct k .strobe (stepPast k a (a + 1) s)

/-- MARK (R92, R153). -/
def seqMark (k a bit ofs n : Nat) (s : Device) : Device :=
  let x := (s.seq k).t + ofs
  let lo := s.effectAt x
  let s1 := markLate k x (stepPast k a (a + 1) s)
  if lo < x + n then s1.updPort k fun p => { p with marks := p.marks ++ [(bit, lo, x + n, x)] } else s1

/-- EMIT (R77, R92): at once with LATE set where it is not on time. -/
def seqEmit (k a out : Nat) (s : Device) : Device :=
  let x := (s.seq k).t
  let s1 := stepPast k a (a + 1) s
  if s.tooLate x then (issueLate k x s1).presentRaw (seqEvent k out) x true
  else addAct k (.emit out) s1

/-- WIN (R92, R97, R196). -/
def seqWin (k a : Nat) (adv : Bool) (tones n : Nat) (s : Device) : Device :=
  let x := (s.seq k).t
  let i := k - 512
  let b := (s.seq k).blk
  let s1 := stepPast k a (a + 1) s
  let s2 := if s.windowClash i tones x n then issueLate k x s1
    else openWindow i tones x n (s.effectAt x) ((b.map Blk.serial).getD 0) ((b.map Blk.uid).getD 0) (markLate k x s1)
  advanceT k adv (64 * n) s2

/-- CAPT (R92, R97, R186). -/
def seqCapt (k a : Nat) (adv : Bool) (n : Nat) (s : Device) : Device :=
  let x := (s.seq k).t
  let i := k - 512
  let s1 := stepPast k a (a + 1) s
  let s2 := if s.captureClash i x n then issueLate k x s1
    else addCapture i x n (s.effectAt x) (((s.seq k).blk.map Blk.serial).getD 0) (!(s.flag F.ipCapCtrlEn i)) none (markLate k x s1)
  advanceT k adv (32 * n) s2

/-- Any instruction but a JCOND that stalls, issued at address a. -/
def seqAny (k a : Nat) (i : SeqInstr) (s : Device) : Device :=
  match i with
  | .nop => seqNop k a s
  | .block .. => seqBlock k a s
  | .endB => seqEnd k a s
  | .yieldB => seqYield k a s
  | .goto t => seqGoto k a t s
  | .loop c n => seqLoop k a c n s
  | .endl c t => seqEndl k a c t s
  | .jcond p t => seqJcond k a p t s
  | .armdLane l m d => seqArmd k a (fun s => armLane k l m d (s.seq k).t s) s
  | .armdGate g => seqArmd k a (fun s => armGate k g (s.seq k).t s) s
  | .wait an n => seqWait k a an n s
  | .play ad v sg g => seqPlay k a ad v sg g s
  | .stream ad v r g n => seqStream k a ad v r g n s
  | .cplay ad v x y g => seqCplay k a ad v x y g s
  | .setf c f => seqSetf k a c f s
  | .setp c ad p => seqSetp k a c ad p s
  | .setport kd v => seqSetport k a kd v s
  | .strobe => seqStrobe k a s
  | .mark b o n => seqMark k a b o n s
  | .emit o => seqEmit k a o s
  | .win ad t n => seqWin k a ad t n s
  | .capt ad n => seqCapt k a ad n s

/-- A JCOND of sequencer k issues: a resolving one together with the first instruction of the path it chooses (R75,
R111). -/
def jcondOp (k a : Nat) (pol : Bool) (t : Nat) (s : Device) : Device :=
  if !(s.verdictKnown k) then s
  else
    let pair := s.resolves k
    let s1 := seqJcond k a pol t s
    if pair then
      match s1.fetched k with
      | some i => seqAny k (s1.seq k).npc i s1
      | none => s1
    else s1

/-! ### Runs (R113, R114) -/

/-- The entry reaches a BLOCK through LOOP, GOTO and NOP alone, inside the span (R113, R114). -/
def Device.entryOk (s : Device) (k : Nat) : Nat → Nat → Bool
  | 0, _ => false
  | fuel + 1, a =>
    if s.inSpan k a then
      match s.instrAt (storeOf k) a with
      | some (.block ..) => true
      | some (.goto t) => s.entryOk k fuel t
      | some (.loop ..) => s.entryOk k fuel (a + 1)
      | some .nop => s.entryOk k fuel (a + 1)
      | _ => false
    else false

/-- A run of sequencer k starts at an entry with T = x (R114). -/
def startSeq (k entry x : Nat) (s0 : Device) : Device :=
  let s := endIdleSlot k s0
  let s1 := s.updSeq k fun q => { q with
    npc := entry, t := x, issuing := true, lastIssue := none, cond := none, old := [], blk := none, pres := none
    altOf := none, represent := none, jump := none, bounds := [], final := none, stopAt := none }
  let s2 := ((s1.setFld F.csStatusState 1 k).putReg .csBlockser 0 k).put64 .csLeadLo .csLeadHi 0 k
  s2.setFld F.csStatusCond 0 k

end Sys2Proof.Machine
end

