-- ==== Sys2Proof/Machine/DramCtl.lean ====
section
/-! DEFINITION. The memory system's errors, freeze and thaw, scrub, and commands (R376, R382 to R400). -/

namespace Sys2Proof.Machine

/-! ### Answers of commands that wait for DRAM -/

/-- The final reply of a command whose routine waited, and the end of that routine. -/
def replyLater (c : Ctx) (opcode : Nat) (o : CmdOut) : Device :=
  let o1 := { o with later := false }
  match o1.st.eng.running with
  | some r =>
    if r.ctx = c ∧ r.opcode = opcode then
      let s1 := r.reply o1
      { s1 with eng := { s1.eng with running := none } }
    else o1.finish c opcode
  | none => o1.finish c opcode

/-- A waiting command has all its lines (R399, R139). -/
def finishHost (op : HostOp) (s : Device) : Device :=
  let s1 := s.updMc fun m => { m with host := m.host.filter fun x => x.id != op.id }
  let data := op.lines.zipIdx.flatMap fun x => sget (zeros 32) op.got x.2
  match op.bind with
  | some (f, n, home, line) => replyLater op.ctx op.opcode (segBindWith op.ctx.sess f n home line data s1)
  | none => replyLater op.ctx op.opcode (done s1 data)

/-- A line of a waiting command has come. -/
def hostLine (id line : Nat) (data : List Byte) (s : Device) : Device :=
  match s.mc.host.find? fun x => x.id == id with
  | none => s
  | some op =>
    let j := line - op.lines.headD 0
    let op1 := { op with got := sput op.got j data }
    if op1.got.length = op1.lines.length then finishHost op1 s
    else s.updMc fun m => { m with host := m.host.map fun x => if x.id = id then op1 else x }

/-- A waiting command is answered with a status and no data. -/
def hostFail (id status : Nat) (s : Device) : Device :=
  match s.mc.host.find? fun x => x.id == id with
  | none => s
  | some op =>
    replyLater op.ctx op.opcode (refuse (dropReqs 3 id (s.updMc fun m => { m with host := m.host.filter fun x => x.id != id })) status)

/-! ### Freeze (R387 to R389) -/

/-- The reads held behind a line's merge entry are queued (R383). -/
def releaseBehind (line : Nat) (s : Device) : Device :=
  let rs := s.mc.behind.filter fun r => r.line == line
  forAllDo rs addReq (s.updMc fun m => { m with behind := m.behind.filter fun r => r.line != line })

/-- The fetch of forme f that runs is abandoned (R389). -/
def abandonFetch (f : Nat) (s : Device) : Device :=
  match (s.forme f).fetchq with
  | n :: rest =>
    let e := s.seg f n
    ((dropReqs 0 f s).putSeg f n { e with state := 1, sq := maxSquares e.len e.kind }).updForme f fun x => { x with fetchq := rest, busy := false }
  | [] => s

/-- A failing read-modify-write (R389, and the worked example): its entry is discarded, the host's reads held behind it are
answered MEM_FROZEN, and the others are queued. -/
def failRmw (r : DReq) (s : Device) : Device :=
  let hosts := (s.mc.behind.filter fun x => x.line == r.line && x.req == 3).map DReq.id
  releaseBehind r.line (forAllDo hosts.eraseDups (fun i t => hostFail i stFrozen t)
    (s.updMc fun m => { m with merge := m.merge.filter fun e => e.num != r.id }))

/-- A request goes back to the head of its queue. -/
def requeue (r : DReq) (s : Device) : Device := s.updMc fun m => { m with q := r :: m.q.filter fun x => x.seq != r.seq }

/-- The fate of the failing request (R389): a write is repeated after the thaw, but for scrub's, whose line stays as it was stored,
and a read-modify-write's, which is discarded. -/
def failRequest (r : DReq) (s : Device) : Device :=
  if r.write then (if r.req = 4 ∨ r.req = 5 then unwrite r s else requeue { r with old := none } (unwrite r s))
  else match r.req with
    | 0 => abandonFetch r.id s
    | 3 => hostFail r.id stFrozen s
    | 5 => failRmw r s
    | _ => s

/-- The controller freezes (R388): the record, the event and the notice; every row closes. A read that fails while it is frozen is
held, as every request is that did not cause the freeze. -/
def freeze (cause pc : Nat) (r : Option DReq) (synd : Nat) (s : Device) : Device :=
  if s.flag F.memStatusFrozen then (match r with | some x => requeue x s | none => s)
  else
    let line := match r with | some x => x.line | none => 0
    let req := match r with | some x => x.req | none => 0
    let w := cause + 256 * (pc % 2) + 512 * bitsOf pc 4 1 + 8192 * (pc / 32) + 16384 * bitsOf line 14 11 + 262144 * bitsOf line 16 15
      + 1048576 * req
    let s1 := ((s.setFld F.memStatusFrozen 1).addFld F.memFreezes 1).putReg .memFrzCause (BitVec.ofNat 32 w)
    let s2 := ((s1.putReg .memFrzLine (BitVec.ofNat 32 line)).putReg .memFrzSynd (BitVec.ofNat 32 synd)).put64 .memFrzSsiLo .memFrzSsiHi s.ssi
    let s3 := s2.updMc fun m => { m with chans := m.chans.map fun x => (x.1, { x.2 with rows := [] }) }
    let s4 := (s3.presentNow (memEvent 0)).notice 0x8008 stFrozen none (leBytes 4 w ++ leBytes 4 line ++ leBytes 8 s.ssi)
    match r with | some x => failRequest x s4 | none => s4

/-! ### Read data (R383, R386, R394) -/

/-- A read-modify-write has its line: the valid bytes are merged and the line is written (R382, R383). -/
def rmwLine (num line : Nat) (data : List Byte) (s : Device) : Device :=
  match s.mc.merge.find? fun e => e.num == num with
  | none => s
  | some e =>
    let s1 := s.updMc fun m => { m with merge := m.merge.filter fun x => x.num != num }
    let body := e.bytes.foldl (fun b x => listSet b x.1 x.2) (sliceB data 0 32)
    releaseBehind line (dramWrite 5 num line body (((s1.addFld F.memRmw 1).setFlag F.memStatusRmw).presentNow (memEvent 6)))

/-- Scrub's corrected line is queued for write-back, unless that is cancelled (R394). -/
def scrubLine (r : DReq) (fixed : Bool) (data : List Byte) (s : Device) : Device :=
  let newer := (s.mc.q ++ s.mc.wait).any fun w => w.write && w.line == r.line && decide (r.seq < w.seq)
  if fixed && !r.spoiled && !newer && !(s.mc.merge.any fun e => e.line == r.line) then
    addReq { seq := 0, write := true, line := r.line, req := 4, id := 0, data := data } s
  else s

/-- Read data go to their requestor. -/
def giveLine (r : DReq) (fixed : Bool) (data : List Byte) (s : Device) : Device :=
  match r.req with
  | 0 => fetchLine r.id r.line data s
  | 3 => hostLine r.id r.line data s
  | 4 => scrubLine r fixed data s
  | 5 => rmwLine r.id r.line data s
  | _ => s

/-- Bit errors that a line's cells have taken since its read are stored with it, unless the line was written since. -/
def keepErrors (r : DReq) (errs : List (Nat × Nat)) (s : Device) : Device :=
  if r.stale || errs.isEmpty then s
  else s.updMc fun m => { m with flips := sput m.flips r.line (sget [] m.flips r.line ++ errs) }

/-- DRAM_READ_RETURN on pseudo-channel p: the oldest read's word comes back as its command took it, with bit errors that the
stack's cells have taken since (byte number, bits), and is decoded (R386, R387, R391). -/
def readReturnOp (p : Nat) (errs : List (Nat × Nat)) (s : Device) : Device :=
  let c := s.chan p
  match c.flight with
  | [] => s
  | r :: rest =>
    let s1 := keepErrors r errs (s.putChan p { c with flight := rest })
    let d := decodeLine r.cls (withErrors (byteNats r.data) errs)
    if d.bad && decide (r.cls < 2) then freeze (1 + r.cls) p (some { r with data := [] }) d.synd (s1.monitor 265 1)
    else
      let s2 := if d.bad then parityError s1 else if d.fixed then dramCorrected s1 else s1
      giveLine r d.fixed (natBytes d.data) s2

/-- CA_PARITY_ERROR on a channel of a stack (R387): the failing request is the last that took a column command there. -/
def caParityOp (st ch : Nat) (s : Device) : Device :=
  if s.flag F.memStatusFrozen then s
  else
    let p0 := st + 2 * ch
    let newest (a b : Option DReq) : Option DReq := match a, b with
      | some x, some y => if x.seq < y.seq then some y else some x
      | some x, none => some x
      | none, y => y
    match newest (s.chan p0).last (s.chan (p0 + 32)).last with
    | none => freeze 3 p0 none 0 s
    | some r =>
      let p := dPc r.line
      let c := s.chan p
      let held := r.write || c.flight.any fun x => x.seq == r.seq
      let s1 := s.putChan p { c with last := none, flight := c.flight.filter fun x => x.seq != r.seq }
      if held then freeze 3 p (some r) 0 s1 else freeze 3 p none 0 s1

/-- DRAM_NO_RESPONSE: the oldest read of pseudo-channel p has had no data for 256 controller cycles (R387). -/
def noResponseOp (p : Nat) (s : Device) : Device :=
  let c := s.chan p
  match c.flight with
  | [] => s
  | r :: rest => if s.flag F.memStatusFrozen then s else freeze 4 p (some r) 0 (s.putChan p { c with flight := rest })

/-! ### DRAM scrub (R393) -/

/-- Sequencers in LEADING (R314). -/
def Device.leadNow (s : Device) : Nat := (s.seqs.filter fun x => s.fld F.csStatusState x.1 == 3).length

/-- The first granule from g on (n tried) that scrub reads. -/
def Device.scrubGran (s : Device) : Nat → Nat → Option Nat
  | 0, _ => none
  | n + 1, g => if g < 48 then (if s.granClass g < 2 && !(s.rewriting (2 ^ 25 * g) 1) then some g else s.scrubGran n (g + 1)) else none

/-- The first line from x on that scrub reads, below stop. -/
def Device.scrubNext (s : Device) (x stop : Nat) : Option Nat :=
  match s.scrubGran 48 (x / 2 ^ 25) with
  | some g => let l := max x (2 ^ 25 * g); if l < stop then some l else none
  | none => none

/-- A scrub read may take the next slot of its pseudo-channel (R393): one that the pass leaves idle, or one in 16 while sequencers
lead; granules asked for by MEM_SCRUB_NOW take idle slots only (R399). -/
def Device.scrubSlot (s : Device) (line : Nat) : Bool :=
  let c := s.chan (dPc line)
  let idle := !c.wr && !(s.mc.q.any fun r => dPc r.line == dPc line && dBank r.line == dBank line)
  let share := s.mc.ranges.isEmpty && decide (0 < s.leadNow) && s.flag F.memCtrlScrubLead
    && (match c.lead with | some x => decide (x + 16 ≤ s.mc.slots) | none => true)
  !c.forced && c.skip != some (s.cycle, s.mc.slots) && (idle || share)

/-- The scrub pass goes on behind line x, or wraps (R393). -/
def scrubAdvance (x : Nat) (s : Device) : Device :=
  let put (l : Nat) (t : Device) : Device := t.putReg .memScrubLine (BitVec.ofNat 32 l)
  match s.mc.ranges with
  | (_, stop) :: rest =>
    match s.scrubNext (x + 1) stop with
    | some l => put l s
    | none =>
      let s1 := s.updMc fun m => { m with ranges := rest }
      match rest with
      | (a, _) :: _ => put a s1
      | [] => put (s.mc.resume.getD 0) (s1.updMc fun m => { m with resume := none })
  | [] =>
    match s.scrubNext (x + 1) dramLines with
    | some l => put l s
    | none =>
      let late := decide ((s.reg .memScrubPer).toNat * 3600 * 500000000 < s.cycle - s.mc.passFrom)
      let s1 := (((s.updMc fun m => { m with passFrom := s.cycle }).addFld F.memScrubPasses 1).presentNow (memEvent 8))
      put ((s.scrubNext 0 dramLines).getD 0) (if late then s1.setFlag F.memStatusScrubBehind else s1)

/-- SCRUB_READ: the next line, where its slot is free. -/
def scrubReadOp (s : Device) : Device :=
  let stop := match s.mc.ranges with | (_, e) :: _ => e | [] => dramLines
  if s.flag F.memStatusFrozen || !(s.flag F.memCtrlScrubEn || !s.mc.ranges.isEmpty) then s
  else
    match s.scrubNext (s.reg .memScrubLine).toNat stop with
    | none => scrubAdvance stop s
    | some l =>
      if !(s.scrubSlot l) then s
      else
        let p := dPc l
        let c := s.chan p
        let r : DReq := { seq := s.mc.seq, write := false, line := l, req := 4, id := 0 }
        let s1 := (s.updMc fun m => { m with seq := m.seq + 1 }).putChan p { c with
          flight := c.flight ++ [s.withWord r], last := some r, skip := some (s.cycle, s.mc.slots)
          lead := if 0 < s.leadNow then some s.mc.slots else c.lead }
        scrubAdvance l s1

/-! ### Commands (R376, R382, R390, R397, R399, R400) -/

/-- Lines [a, a + n) touch the capture area or the spool of an input whose sequencer is SEALED to another session
(R400). -/
def Device.linesAway (s : Device) (t a n : Nat) : Bool :=
  (List.range 64).any fun i => s.seqAway (512 + i) t
    && (overlap a n (s.reg .ipCapBase i).toNat (s.reg .ipCapSize i).toNat || overlap a n (s.reg .ipSpoolBase i).toNat (s.reg .ipSpoolSize i).toNat)

/-- MEM_READ. -/
def memReadOp (c : Ctx) (first n : Nat) (s : Device) : CmdOut :=
  if n = 0 ∨ 4096 < n then refuse s stBadArg 4
  else if dramLines < first + n then refuse s stBadArg 0
  else if s.linesAway c.sess first n then refuse s stNotOwner
  else if s.flag F.memStatusFrozen then refuse s stFrozen
  else if s.rewriting first n then refuse s stBusy
  else hostRead c 0x0A01 ((List.range n).map (first + ·)) none s

/-- Every piece of a host write has entered a queue or the merge buffer (R399). -/
def Device.writeIn (s : Device) (w : HostWrite) : Bool :=
  w.data.isEmpty && !(s.mc.wait.any fun r => r.write && r.req == 3 && r.id == w.id)

/-- Host writes under way enter what has found room, and those that have entered whole are answered (R382, R399). -/
def resumeWrites (s : Device) : Device :=
  if s.flag F.memStatusFrozen then s
  else
    forAllDo s.mc.hostw (fun w t =>
      let ((a, d), t1) := writePieces w.id 4097 w.addr w.data t
      let w1 := { w with addr := a, data := d }
      if t1.writeIn w1 then
        replyLater w.ctx 0x0A02 (done (t1.updMc fun m => { m with hostw := m.hostw.filter fun x => x.id != w.id }))
      else t1.updMc fun m => { m with hostw := m.hostw.map fun x => if x.id = w.id then w1 else x }) s

/-- DRAM_COMMAND_SLOT: the slots are taken (R379), and host writes that wait go on. -/
def memSlotOp (s : Device) : Device := if s.mc.hostw.isEmpty then commandSlotOp s else resumeWrites (commandSlotOp s)

/-- DRAM_READ_RETURN, and host writes that wait for a merge entry go on. -/
def memReturnOp (p : Nat) (errs : List (Nat × Nat)) (s : Device) : Device :=
  if s.mc.hostw.isEmpty then readReturnOp p errs s else resumeWrites (readReturnOp p errs s)

/-- MEM_WRITE (R382): answered once every piece is queued or merged (R399). -/
def memWriteOp (c : Ctx) (addr : Nat) (data : List Byte) (s : Device) : CmdOut :=
  let n := data.length
  let a := addr / 32
  let k := (addr + n + 31) / 32 - a
  if n = 0 ∨ 131072 < n then refuse s stBadArg 8
  else if 32 * dramLines < addr + n then refuse s stBadArg 0
  else if s.linesAway c.sess a k then refuse s stNotOwner
  else if s.flag F.memStatusFrozen then refuse s stFrozen
  else if s.rewriting a k then refuse s stBusy
  else
    let id := s.mc.nextId
    let ((ad, d), s1) := writePieces id (k + 1) addr data (s.updMc fun m => { m with nextId := id + 1 })
    let w : HostWrite := ⟨id, c, ad, d⟩
    if s1.writeIn w then done s1 else { done (s1.updMc fun m => { m with hostw := m.hostw ++ [w] }) with later := true }

/-- A granule range holds what MEM_SETCLASS may not overwrite (R376). -/
def Device.granulesUsed (s : Device) (a n : Nat) : Bool :=
  ((List.range 64).any fun i =>
    (s.flag F.ipCapCtrlEn i && overlap a n (s.reg .ipCapBase i).toNat (s.reg .ipCapSize i).toNat)
      || overlap a n (s.reg .ipSpoolBase i).toNat (s.reg .ipSpoolSize i).toNat)
  || s.segs.any fun x => x.2.state != 0 && (match x.2.lib with | some l => decide (a ≤ l) && decide (l < a + n) | none => false)

/-- The merge entries of lines [a, a + n) are lost, as what they would have gone into is; reads held behind them go on (R376). -/
def dropMerge (a n : Nat) (s : Device) : Device :=
  let gone := s.mc.merge.filter fun e => decide (a ≤ e.line) && decide (e.line < a + n)
  forAllDo gone (fun e t => releaseBehind e.line (dropReqs 5 e.num t))
    (s.updMc fun m => { m with merge := m.merge.filter fun e => !(gone.contains e) })

/-- MEM_SETCLASS starts the rewrite; its reply follows completion (R376). -/
def memSetclassOp (c : Ctx) (first n cls : Nat) (s : Device) : CmdOut :=
  if 48 ≤ first then refuse s stBadArg 0
  else if n = 0 ∨ 48 < first + n then refuse s stBadArg 1
  else if 2 < cls then refuse s stBadArg 2
  else if s.flag F.memStatusFrozen then refuse s stFrozen
  else if s.mc.setclass.isSome || s.granulesUsed (2 ^ 25 * first) (2 ^ 25 * n) then refuse s stBusy
  else
    let s1 := dropMerge (2 ^ 25 * first) (2 ^ 25 * n) s
    { done ((s1.updMc fun m => { m with setclass := some ⟨some c, first, n, cls, 2 ^ 25 * first, []⟩ }).setFld F.memStatusSetclassBusy 1) with
        later := true }

/-- A class rewrite has rewritten its last line (R376). -/
def Device.classDone (s : Device) : Bool :=
  match s.mc.setclass with
  | some j => decide (j.stop ≤ j.fed) && j.left.isEmpty
  | none => false

/-- SETCLASS_DONE: the class rewrite completes, with what is left of it, and is answered (R376): every line of the granules holds zeros
under the new class. -/
def setclassDoneOp (s : Device) : Device :=
  if s.flag F.memStatusFrozen then s
  else
    match s.mc.setclass with
    | none => s
    | some j =>
      let inside (l : Nat) : Bool := decide (2 ^ 25 * j.first ≤ l) && decide (l < j.stop) && !(j.holds l)
      let s1 := { s with dram := s.dram.filter fun x => !(inside (x.1 / 32)) }.updMc fun m => { m with
        setclass := none, flips := m.flips.filter fun x => !(inside x.1), q := m.q.filter fun r => r.req != 6
        wait := m.wait.filter fun r => r.req != 6 }
      let s2 := forAllDo ((List.range j.count).map (j.first + ·)) (fun k t =>
        t.putReg .memGran (putField (t.reg .memGran 0 (k / 16)) (2 * (k % 16) + 1) (2 * (k % 16)) j.cls) 0 (k / 16)) s1
      let s3 := s2.setFld F.memStatusSetclassBusy 0
      match j.ctx with
      | some c => replyLater c 0x0A03 (done s3)
      | none => s3

/-- MEM_THAW (R390). -/
def memThawOp (action : Nat) (s : Device) : CmdOut :=
  if 2 ≤ action then refuse s stBadArg 0
  else if !(s.flag F.memStatusFrozen) then done s
  else if action = 1 ∧ 3 ≤ s.fld F.memFrzCauseCause then refuse s stBadArg 0
  else
    let line := (s.reg .memFrzLine).toNat
    let s1 := if action = 1 then { s with dram := cellPuts s.dram (32 * line) (zeros 32), mc := { s.mc with flips := sdel s.mc.flips line } } else s
    done (resumeWrites (drainCaptures (admitReqs ((s1.setFld F.memStatusFrozen 0).presentNow (memEvent 1)))))

/-- MEM_DIAG: a line as stored, its check bytes, class and syndrome (R399). -/
def memDiagOp (t line : Nat) (s : Device) : CmdOut :=
  if dramLines ≤ line then refuse s stBadArg 0
  else if s.linesAway t line 1 then refuse s stNotOwner
  else if s.rewriting line 1 then refuse s stBusy
  else
    let w := s.storedWord line
    let cls := s.lineClass line
    done s (natBytes w ++ leBytes 1 cls ++ zeros 3 ++ leBytes 4 (decodeLine cls w).synd)

/-- MEM_REPAIR_ADD (R397). -/
def memRepairOp (kind stack ch pc bg bank row : Nat) (s : Device) : CmdOut :=
  if 1 < kind then refuse s stBadArg 0
  else if 1 < stack then refuse s stBadArg 1
  else if 15 < ch then refuse s stBadArg 2
  else if 1 < pc then refuse s stBadArg 3
  else if 15 < bg then refuse s stBadArg 4
  else if 3 < bank then refuse s stBadArg 5
  else if kind = 0 ∧ 12288 ≤ row then refuse s stBadArg 8
  else if kind = 0 && s.repairs.any fun e => e.take 6 == [0, stack, ch, pc, bg, bank] then refuse s stBadArg 5
  else if s.fld F.memRepairFree = 0 then refuse s stBusy
  else if !(s.flag F.thStatusFuseOk) then refuse s stThermal
  else
    done ({ s with repairs := s.repairs ++ [[kind, stack, ch, pc, bg, bank, row]] }.putReg .memRepairFree
      (BitVec.ofNat 32 (s.fld F.memRepairFree - 1)))

/-- MEM_SCRUB_NOW (R399). -/
def memScrubNowOp (first n : Nat) (s : Device) : CmdOut :=
  if 48 ≤ first then refuse s stBadArg 0
  else if n = 0 ∨ 48 < first + n then refuse s stBadArg 1
  else if s.flag F.memStatusFrozen then refuse s stFrozen
  else if s.rewriting (2 ^ 25 * first) (2 ^ 25 * n) then refuse s stBusy
  else
    let s1 := s.updMc fun m => { m with
      ranges := m.ranges ++ [(2 ^ 25 * first, 2 ^ 25 * (first + n))]
      resume := if m.ranges.isEmpty then some (s.reg .memScrubLine).toNat else m.resume }
    done (if s.mc.ranges.isEmpty then s1.putReg .memScrubLine (BitVec.ofNat 32 (2 ^ 25 * first)) else s1)

/-- A write of MEM_MERGE_TMO or MEM_SCRUB_PER. -/
def memSettingOp (r : RegName) (least v : Nat) (s : Device) : CmdOut :=
  if v % 2 ^ 16 < least then refuse s stBadArg else done (s.putReg r (BitVec.ofNat 32 (v % 2 ^ 16)))

end Sys2Proof.Machine
end

