-- ==== Sys2Proof/Machine/Slots.lean ====
section
/-! DEFINITION. The blocks and slots of a port's transmit side (spec/14_lane_physical_layer.md, R404 to R407, R420; R426, R428, R433): the
scrambler, the slots of the port stream, the ALIGN blocks and what each lane pair sends. -/

namespace Sys2Proof.Machine

def Device.slane (s : Device) (n : Nat) : SLane := sget {} s.slanes n
def Device.updSlane (s : Device) (n : Nat) (f : SLane → SLane) : Device := { s with slanes := sput s.slanes n (f (s.slane n)) }
def Device.sport (s : Device) (p : Nat) : SPort := sget {} s.sports p
def Device.updSport (s : Device) (p : Nat) (f : SPort → SPort) : Device := { s with sports := sput s.sports p (f (s.sport p)) }

/-- A happening for the next cycle. -/
def Device.mail (i : Instr) (s : Device) : Device := { s with inbox := s.inbox ++ [i] }

/-! ### The scrambler (R404) -/

/-- The low w bits of a number in the opposite order. -/
def flipBits (w n : Nat) : Nat := (List.range w).foldl (fun r i => 2 * r + b2n (bitOf n i)) 0

/-- The last 58 bits of a stream after n more of them. -/
def lastBits (n r bits : Nat) : Nat := (r + bits * 2 ^ 58) / 2 ^ n % 2 ^ 58

/-- Scramble n bits, at most 39, after the 58 bits r: each is the sum of its own, the 39th and the 58th before it. -/
def scramblePart (n r bits : Nat) : Nat := (bits ^^^ r ^^^ (r / 2 ^ 19)) % 2 ^ n

/-- Scramble a payload, position 0 first. -/
def scramble (r body : Nat) : Nat :=
  let a := scramblePart 39 r body
  a + scramblePart 25 (lastBits 39 r a) (body / 2 ^ 39) * 2 ^ 39

/-- Descramble a payload after the 58 bits r received before it. -/
def descramble (r body : Nat) : Nat :=
  let stream := r + body * 2 ^ 58
  (body ^^^ stream ^^^ (stream / 2 ^ 19)) % 2 ^ 64

/-- The scrambler of lane pair m at the enable of its transmitter. -/
def scramblerSeed (m : Nat) : Nat := flipBits 58 (0x2AAAAAAAAAAAAAA ^^^ m)

/-- The next n bits of PRBS31 after the last 31 (R420): the bits, the first at bit 0, and the last 31. -/
def prbsBits : Nat → Nat → Nat × Nat
  | 0, h => (0, h)
  | n + 1, h =>
    let b := b2n (bitOf h 30 != bitOf h 27)
    let (r, g) := prbsBits n ((2 * h + b) % 2 ^ 31)
    (b + 2 * r, g)

/-! ### Slots (R407, R426, R433) -/

/-- Slot n is a reserved slot: slot 16v + (v mod 8) for some v (R426). -/
def isReserved (n : Nat) : Bool := n % 16 == n / 16 % 8

/-- The slot number of reserved slot v (R426). -/
def reservedSlot (v : Nat) : Nat := 16 * v + v % 8

/-- The reserved slots below slot n. -/
def reservedBelow (n : Nat) : Nat := n / 16 + b2n (decide (n / 16 % 8 < n % 16))

/-- The first slot that is not sent yet: alignment times carry none (R407). -/
def SPort.slotNow (x : SPort) : Nat := 8 * (x.time - ceilDiv x.time 16384)

/-- The reserved slot that the next VC1 block takes: none that has passed. -/
def Device.slotV (s : Device) (p : Nat) : Nat :=
  let n := (s.sport p).slotNow
  max (s.link p).slot (n / 16 + b2n (decide (reservedSlot (n / 16) < n)))

/-- A frame block or a control block may take slot n of port p: it is not reserved, and its lane is not skipped (R426, R442). -/
def Device.mayTake (s : Device) (p n : Nat) : Bool :=
  !(s.flag F.lkPctlRole p && isReserved n) && !(s.flag F.lkPstatSkip p && s.fld F.lkPstatSkiplane p == n % 8)

/-- The next k slots that blocks of port p may take. -/
def Device.freeSlots (s : Device) (p k : Nat) : List Nat :=
  let x := s.sport p
  ((((List.range (4 * k + 8)).map (max x.next x.slotNow + ·)).filter (s.mayTake p)).take k)

/-- Give blocks, as header and payload, the next slots of port p (R428, R433); a port that is not enabled sends none. -/
def putSlots (p : Nat) (blocks : List (Nat × Nat)) (s : Device) : Device :=
  if s.flag F.lnPctlEn p then
    let ns := s.freeSlots p blocks.length
    s.updSport p fun x => { x with
      tx := (ns.zip blocks).foldl (fun m e => sput m e.1 e.2) x.tx, next := ns.getLastD x.next + 1 }
  else s

/-- A control block with its CHECK (R432). -/
def sealControl (b : Nat) : Nat := b + crc16 48 (b % 2 ^ 48) 0xFFFF * 2 ^ 48

/-- Slots that are not reserved which have passed since the last LINK block (R433). -/
def Device.slotsSinceLink (s : Device) (p : Nat) : Nat :=
  let x := s.sport p
  let all := x.slotNow - x.linked
  if s.flag F.lkPctlRole p then all - (reservedBelow x.slotNow - reservedBelow x.linked) else all

/-! ### What the pairs send (R406, R407, R419 to R421) -/

/-- The logical lane that lane pair k of a port carries: the spare, pair 8, has one once a lane has moved to it (R407, R442). -/
def Link.carries (x : Link) (k : Nat) : Option Nat :=
  match x.onSpare with
  | some j => if k = 8 then some j else if k = j then none else some k
  | none => if k < 8 then some k else none

/-- The payload of the ALIGN block of lane pair k of port p at alignment time seq (R406). -/
def Device.alignBody (s : Device) (p k seq : Nat) : Nat :=
  sealControl (0x78 + ((s.link p).carries k).getD 15 * 2 ^ 8 + p % 8 * 2 ^ 12 + s.fld F.lkDevidDevid * 2 ^ 16 + seq % 65536 * 2 ^ 32)

/-- The block of lane pair k of port p in block time t, before the scrambler: its header and payload, none for a test pattern. -/
def Device.laneBlock (s : Device) (p k t : Nat) : Option (Nat × Nat) :=
  if t % 16384 = 0 then some (2, s.alignBody p k (t / 16384))
  else if s.fld F.lnCtlTestpat (9 * p + k) = 1 then none
  else match (s.link p).carries k with
    | some j =>
      if s.flag F.lkPstatSkip p && s.fld F.lkPstatSkiplane p == j then some (2, 0x4B)
      else some ((sfind (s.sport p).tx ((s.sport p).slotNow + j)).getD (2, 0x4B))
    | none => some (2, 0x4B)

/-- One lane pair sends one block time: what its encoder gives, as it stands after the scrambler, its scrambler and its generator. A pair in
the far-end loop sends what it received. -/
def Device.sendPair (s : Device) (p k : Nat) : (Nat × Nat) × Nat × Nat :=
  let x := s.sport p
  let r := x.scr.getD k 0
  let h := x.prbs.getD k 0
  if s.fld F.lnCtlLoop (9 * p + k) = 3 then ((s.slane (9 * p + k)).came, r, h)
  else match s.laneBlock p k x.time with
    | some (hdr, body) => let b := scramble r body; ((hdr, b), lastBits 64 r b, h)
    | none => let (b, g) := prbsBits 64 h; ((1, b), lastBits 64 r b, g)

/-- The land of a lane pair is electrically idle: TXOFF, and the two near-end loops (R419, R421). -/
def Device.landIdle (s : Device) (n : Nat) : Bool := s.flag F.lnCtlTxoff n || s.fld F.lnCtlLoop n == 1 || s.fld F.lnCtlLoop n == 2

/-- A block whose levels are inverted (R403, R418): of each pair of bits the first changes; the header's first bit is its upper one. -/
def invertBlock (b : Nat × Nat) : Nat × Nat := (b.1 ^^^ 2, b.2 ^^^ 0x5555555555555555)

/-- Port p sends one block time on its nine pairs. -/
def sendBlockTime (p : Nat) (s : Device) : Device :=
  let gone := (List.range 9).map (s.sendPair p)
  let land (k : Nat) (e : (Nat × Nat) × Nat × Nat) : Option (Nat × Nat) := 
    if s.landIdle (9 * p + k) then none else some (if s.flag F.lnCtlTxinv (9 * p + k) then invertBlock e.1 else e.1)
  s.updSport p fun x =>
    let y : SPort := { x with
      time := x.time + 1, scr := gone.map fun e => e.2.1, prbs := gone.map fun e => e.2.2, line := gone.zipIdx.map fun e => land e.2 e.1 }
    { y with tx := y.tx.filter fun e => decide (y.slotNow ≤ e.1) }

/-- The block times that port p has begun by the end of this cycle (R407): 25 in 16 fabric cycles. -/
def Device.blockTimes (s : Device) (p : Nat) : Nat := ceilDiv (25 * (s.cycle + 1 - (s.sport p).from_)) 16

end Sys2Proof.Machine
end

