-- ==== Sys2Proof/Machine/Trigger.lean ====
section
/-! DEFINITION. The trigger and acquisition engines (spec/08_trigger_acquisition.md): condition sources, the state
machine, captures and measurements, and event frames. -/

namespace Sys2Proof.Machine

def Device.tg (s : Device) (n : Nat) : TrigEng := sget {} s.trig.eng n
def Device.putTg (s : Device) (n : Nat) (e : TrigEng) : Device := { s with trig := { s.trig with eng := sput s.trig.eng n e } }
def Device.updTg (s : Device) (n : Nat) (f : TrigEng → TrigEng) : Device := s.putTg n (f (s.tg n))

/-- An event of the trigger block (R270). -/
def tgEvent (inst evt : Nat) : Nat := evCode 7 inst evt

/-- Engine n is ARMED. -/
def Device.tgArmed (s : Device) (n : Nat) : Bool := s.fld F.tgStatusEstate n == 1

/-! ### Trigger inputs (R249, R250) -/

/-- An edge event of input t is presented in this cycle. -/
def presentEdge (t stamp : Nat) (s : Device) : Device :=
  let x := s.trig.now
  let st := match sfind x.edges t with | some y => min y stamp | none => stamp
  { s with trig := { s.trig with now := { x with edges := sput x.edges t st } } }.present (tgEvent (16 + t) 0) stamp

/-- An edge at a trigger input, stamped at the land (R249, R250). -/
def triggerEdgeOp (t : Nat) (rising : Bool) (stamp : Nat) (s : Device) : Device :=
  let lv := s.trig.levels
  let s1 := { s with trig := { s.trig with
    levels := if rising then orBit lv t else if bitOf lv t then lv - 2 ^ t else lv } }
  let sel := s.fld F.tiCfgEdge t
  if !(if rising then bitOf sel 0 else bitOf sel 1) then s1
  else if sfind s.trig.edgeAt t = some s.cycle then s1.addFld F.tiCfgOver 1 t
  else
    let x := ((stamp : Int) + toSigned 12 (s.fld F.tiCfgTrim t)).toNat
    let s2 := { s1 with trig := { s1.trig with edgeAt := sput s1.trig.edgeAt t s.cycle } }
    if s.ssi + 32 ≤ x then { s2 with trig := { s2.trig with held := s2.trig.held ++ [(t, x)] } } else presentEdge t x s2

/-- The held edge events of input t whose stamp lies in this cycle are presented (R249). -/
def heldEdgeOp (t : Nat) (s : Device) : Device :=
  let due := s.trig.held.filter fun x => x.1 == t && decide (x.2 < s.ssi + 32)
  let s1 := { s with trig := { s.trig with held := s.trig.held.filter fun x => !(x.1 == t && decide (x.2 < s.ssi + 32)) } }
  forAllDo due (fun x t => presentEdge x.1 x.2 t) s1

/-! ### Decision threshold units (R251) -/

/-- A write of DTu: its settings, and its history cleared (R103, R251). -/
def dtWriteOp (u v : Nat) (s : Device) : CmdOut :=
  if !(validLane (bitsOf v 10 0)) then refuse s stBadArg
  else
    let s1 := s.putReg .dt (BitVec.ofNat 32 v &&& 0xFFFF07FF) u
    done { s1 with trig := { s1.trig with hist := sput s1.trig.hist u [] } }

/-- A word of a state reaches unit u. -/
def dtWord (u st : Nat) (s : Device) : Device :=
  let h := (st :: sget [] s.trig.hist u).take (s.fld F.dtK u + 1)
  let s1 := { s with trig := { s.trig with hist := sput s.trig.hist u h } }
  let hits := (h.filter fun x => bitOf (s.fld F.dtMask u) x).length
  if s.fld F.dtThr u + 1 ≤ hits then
    let s2 := s1.addFld F.dtFires 1 u
    { s2 with trig := { s2.trig with now := { s2.trig.now with dts := sput s2.trig.now.dts u s.ssi } } }.present
      (tgEvent (32 + u) 0) s.ssi
  else s1

/-- The words placed in this cycle go to the units that watch their positions. -/
def dtCycle (s : Device) : Device :=
  forAllDo s.placed (fun (pos, st) t =>
    forAllDo ((List.range 16).filter fun u => t.fld F.dtLane u == pos) (fun u t => dtWord u st t) t) s

/-! ### Conditions and transitions (R248, R252, R253, R257 to R259) -/

/-- A condition that holds: its stamp, LATE, provenance, and whether it is a level. -/
structure CondNow where
  stamp : Nat
  late : Bool := false
  rx : List Nat := []
  level : Bool := false
  deriving DecidableEq, Repr

/-- The mark of a pattern-vector input that sealing cut (R285). -/
def patternKey (n b : Nat) : Nat := 2 ^ 34 + 32 * n + b

/-- The pattern vector of engine n for this cycle (R257), under the PBASE from before the cycle's writes (R279). -/
def Device.patternVec (s : Device) (n : Nat) : Nat :=
  let base := 32 * s.fldF F.tgCtrlPbase n
  let dt := (s.trig.now.dts.map fun x => 2 ^ (16 + x.1)).sum
  let ev := ((s.ev.act.filter fun x => decide (base ≤ x.1) && decide (x.1 < base + 32)
    && !(s.ev.cut.contains (patternKey n (x.1 - base)))).map fun x => 2 ^ (32 + (x.1 - base))).sum
  s.trig.levels + dt + ev

/-- The vector matches (R257). -/
def Device.patternMatch (s : Device) (n : Nat) : Bool :=
  let v := s.patternVec n
  let pat := (s.reg .tgPat n).toNat + 2 ^ 32 * (s.reg .tgPat n 1).toNat
  let dc := (s.reg .tgDc n).toNat + 2 ^ 32 * (s.reg .tgDc n 1).toNat
  (List.range 64).all fun b => bitOf dc b || bitOf v b == bitOf pat b

/-- The event frames that the activations in the matched pattern depend on (R269). -/
def Device.patternRx (s : Device) (n : Nat) : List Nat :=
  let base := 32 * s.fld F.tgCtrlPbase n
  let dc := (s.reg .tgDc n 1).toNat
  (s.trig.last.acts.filter fun x => decide (base ≤ x.1) && decide (x.1 < base + 32) && !(bitOf dc (x.1 - base))
    && !(s.ev.cut.contains (patternKey n (x.1 - base)))).flatMap fun x => x.2.rx

/-- Condition code c of engine n in the cycle that has just ended, whose first sample is x; key is the selection's mark
(R285). -/
def Device.condition (s : Device) (n c key x : Nat) : Option CondNow :=
  let e := s.tg n
  let i := s.trig.last
  if c < 256 then
    if s.ev.cut.contains key then none else (sfind i.acts c).map fun a => { stamp := a.stamp, late := a.late, rx := a.rx }
  else if c < 272 then (sfind i.edges (c - 256)).map fun t => { stamp := t }
  else if c < 288 then (sfind i.dts (c - 272)).map fun t => { stamp := t }
  else if c < 292 then
    if s.fld F.tgLimit n (c - 288) ≤ s.fld F.tgCount n (c - 288) then
      some { stamp := max e.entered ((e.since.getD (c - 288) none).getD e.entered), level := true, rx := e.countRx.getD (c - 288) [] }
    else none
  else if c < 296 then
    match e.timers.getD (c - 292) none with
    | some (t, true) => some { stamp := max t e.entered, level := true, rx := e.timerRx.getD (c - 292) [] }
    | _ => none
  else if c < 300 then (sfind i.meas (4 * n + (c - 296))).map fun t => { stamp := t }
  else if c = 300 then if e.matched && !e.before then some { stamp := x, rx := s.patternRx n } else none
  else if c = 301 then some { stamp := max x e.entered, level := true }
  else none

/-- A condition that is also eligible (R253, R259). -/
def Device.eligible (s : Device) (n : Nat) (c : Option CondNow) : Option CondNow :=
  let e := s.tg n
  match c with
  | some a => if a.level || (decide (e.entered ≤ a.stamp) && decide (e.thr ≤ a.stamp)) then some a else none
  | none => none

/-- A state of engine n as its registers give it: OP, CA, CB, ACT_T, NEXT_T, CE, ACT_E, NEXT_E and the marks of its three
selections (R252, R258). -/
structure TgState where
  op : Nat
  ca : Nat
  cb : Nat
  actT : Nat
  nextT : Nat
  ce : Nat
  actE : Nat
  nextE : Nat
  key : Nat
  keyE : Nat
  deriving DecidableEq, Repr

def Device.tgState (s : Device) (n : Nat) : TgState :=
  if s.fld F.tgCtrlMode n = 1 then ⟨0, 300, 511, 1, 0, 511, 0, 0, 0, 0⟩
  else
    let c := s.fld F.tgStatusCur n
    ⟨s.fld F.tgSOp n c, s.fld F.tgSCa n c, s.fld F.tgSCb n c, s.fld F.tgSTActT n c, s.fld F.tgSTNextT n c,
     s.fld F.tgSECe n c, s.fld F.tgSEActE n c, s.fld F.tgSENextE n c, RegName.addr .tgS n c, RegName.addr .tgSE n c⟩

/-- The main condition of a state (R252, R255): its stamp, LATE and provenance. -/
def mainCond (op : Nat) (a b : Option CondNow) : Option CondNow :=
  match op, a, b with
  | 0, some a, _ => some { a with late := a.late && !a.level }
  | 1, some a, some b => some ⟨max a.stamp b.stamp, a.late || b.late, a.rx ++ b.rx, false⟩
  | 2, some a, some b => some ⟨min a.stamp b.stamp, a.late || b.late, a.rx ++ b.rx, false⟩
  | 2, some a, none => some a
  | 2, none, some b => some b
  | 3, some a, none => some a
  | _, _, _ => none

/-- The transition that engine n took in the cycle that has just ended (R252, R253, R259): its condition, action field and
next state; at most one in a cycle. -/
def Device.transition (s : Device) (n : Nat) : Option (CondNow × Nat × Nat) :=
  let e := s.tg n
  if !(s.tgArmed n) || decide (s.cycle < e.from_ + 1) || e.hold.isSome || e.moved == some s.cycle then none
  else
    let t := s.tgState n
    let x := s.ssi - 32
    let a := s.eligible n (s.condition n t.ca t.key x)
    let b := s.eligible n (s.condition n t.cb (t.key + 1) x)
    match mainCond t.op a b with
    | some c => some (c, t.actT, t.nextT)
    | none => (s.eligible n (s.condition n t.ce t.keyE x)).map fun c => (c, t.actE, t.nextE)

/-- The hold-off that a FIRE at f starts, and the stamp from which pulses are eligible where it ends at once (R259). -/
def Device.holdFor (s : Device) (n f : Nat) : Option HoldOff × Nat :=
  let h := s.fld F.tgHold n
  match s.fld F.tgCtrlHoldmode n with
  | 0 => if f + h < s.ssi + 32 then (none, f + h) else (some ⟨f, some (f + h), 0⟩, f + h)
  | 1 =>
    let past := (s.tg n).heard.filter fun e => decide (f < e)
    if h = 0 then (none, 0)
    else if h ≤ past.length then (none, past.getD (h - 1) 0 + 1)
    else (some ⟨f, none, h - past.length⟩, 0)
  | _ => (none, 0)

/-- FIRE (R255, R259, R260); it depends on the frames of its condition and of the transitions that led to it (R269). -/
def fire (n : Nat) (c0 : CondNow) (s : Device) : Device :=
  let c := { c0 with rx := (c0.rx ++ (s.tg n).path).eraseDups }
  let f := c.stamp
  let s1 := ((s.present (tgEvent n 0) f c.late c.rx).addFld F.tgFirecnt 1 n).put64 .tgLastfireLo .tgLastfireHi f n
  let (h, thr) := s.holdFor n f
  let cap := if s.flag F.tgCapCapen n then
    [(f + 768 + s.fld F.tgCapdly n, s.fld F.tgCapCapIn n, s.fld F.tgCaplen n, c.rx)] else []
  let s2 := s1.updTg n fun e => { e with fires := e.fires + 1, hold := h, thr := max e.thr thr, caps := e.caps ++ cap, path := [] }
  let s3 := if h.isSome then s2.setFld F.tgStatusHoldoff 1 n else s2
  if s.fld F.tgCtrlNfire n ≠ 0 ∧ s.fld F.tgCtrlNfire n ≤ (s3.tg n).fires then s3.setFld F.tgStatusEstate 2 n else s3

/-- Counter k of engine n after a transition's clears and increments (R254). -/
def countAfter (act k c : Nat) : Nat :=
  let c0 := if bitOf act (6 + k) then 0 else c
  if bitOf act (2 + k) then min (2 ^ 32 - 1) (c0 + 1) else c0

/-- Arming (at an index) or a change to IDLE reaches engine n; it takes effect when the cycle ends (R256). -/
def tgChange (n : Nat) (c : Option Nat) (s : Device) : Device := s.updTg n fun e => { e with chg := some c }

/-- What a transition with an action field does to the frames on which state, counts and timers depend (R269). -/
def TrigEng.depend (e : TrigEng) (act : Nat) (rx : List Nat) : TrigEng :=
  let now := (e.path ++ rx).eraseDups
  { e with
    path := now
    countRx := (List.range 4).map fun k =>
      let c := if bitOf act (6 + k) then [] else e.countRx.getD k []
      if bitOf act (2 + k) then (c ++ now).eraseDups else c
    timerRx := (List.range 4).map fun k => if bitOf act (10 + k) then now else e.timerRx.getD k [] }

/-- The transition of engine n taken in the cycle that has just ended: the new state, and its actions produced in this
cycle (R253 to R255). -/
def triggerTransitionOp (n : Nat) (s : Device) : Device :=
  match s.transition n with
  | none => s
  | some (c, act, next) =>
    let f := c.stamp
    let s1 := (s.setFld F.tgStatusCur next n).updTg n fun e => { e.depend act c.rx with
      entered := f, moved := some s.cycle, heard := e.heard.filter fun x => decide (f < x)
      timers := (List.range 4).map fun k =>
        if bitOf act (10 + k) then some (f + s.fld F.tgTperiod n k, false) else e.timers.getD k none }
    let s2 := forAllDo (List.range 4) (fun k t =>
      let x := countAfter act k (t.fld F.tgCount n k)
      let was := (t.tg n).since.getD k none
      let is := decide (t.fld F.tgLimit n k ≤ x)
      (t.setFld F.tgCount x n k).updTg n fun e => { e with
        since := listSet e.since k (if is then (match was with | some y => some y | none => some f) else none) }) s1
    let s3 := if bitOf act 0 then fire n c s2 else s2
    if bitOf act 14 then tgChange n none s3 else s3

/-- A started timer of engine n has reached its expiry index (R248, R254). -/
def Device.timerDue (s : Device) (n m : Nat) : Bool :=
  match (s.tg n).timers.getD m none with
  | some (t, false) => decide (t < s.ssi + 32)
  | _ => false

def timerExpireOp (n m : Nat) (s : Device) : Device :=
  if s.timerDue n m then
    s.updTg n fun e => { e with timers := listSet e.timers m ((e.timers.getD m none).map fun x => (x.1, true)) }
  else s

/-- The hold-off of engine n ends (R259): its TIME is over, or its last event has come. -/
def holdoffEndOp (n : Nat) (s : Device) : Device :=
  match (s.tg n).hold with
  | some h =>
    let isOver := match h.stop with | some x => decide (x < s.ssi + 32) | none => h.left == 0
    if isOver then (s.updTg n fun e => { e with hold := none }).setFld F.tgStatusHoldoff 0 n else s
  | none => s

/-- The hold-off of engine n may end in this cycle. -/
def Device.holdoffDue (s : Device) (n : Nat) (active : Nat → Bool) : Bool :=
  match (s.tg n).hold with
  | some h => match h.stop with | some x => decide (x < s.ssi + 32) | none => active (s.fldF F.tgHoldecEc n)
  | none => false

/-- An activation of channel c stamped e counts against the EVENTS hold-offs that await it (R259), and stands for one that a FIRE with
an earlier stamp may start. -/
def holdCount (c e : Nat) (s : Device) : Device :=
  forAllDo (List.range 16) (fun n t =>
    if t.fld F.tgCtrlHoldmode n == 1 && t.tgArmed n && t.fldF F.tgHoldecEc n == c && !(t.ev.cut.contains (RegName.addr .tgHoldec n)) then
      let t1 := if (t.tg n).entered < e then t.updTg n fun x => { x with heard := x.heard ++ [e] } else t
      match (t.tg n).hold with
      | some h =>
        if h.stop.isNone && decide (0 < h.left) && decide (h.f < e) then
          t1.updTg n fun x => { x with hold := some { h with left := h.left - 1 }, thr := if h.left = 1 then max x.thr (e + 1) else x.thr }
        else t1
      | none => t1
    else t) s

/-! ### Arming (R256) -/

/-- An activation of channel c stamped e arms the engines that select it. -/
def armEvent (c e : Nat) (s : Device) : Device :=
  forAllDo (List.range 16) (fun n t =>
    if t.fldF F.tgCtrlArmEn n != 0 && t.fldF F.tgCtrlArmEc n == c && !(t.ev.cut.contains (RegName.addr .tgCtrl n)) then
      tgChange n (some e) t
    else t) s

/-- Engine n is armed at an index: counters cleared, timers stopped, hold-off ended, state S0. -/
def armEngine (n idx : Nat) (s : Device) : Device :=
  let s1 := s.updTg n fun e => { e with
    from_ := max s.cycle (s.cycleOf idx) + 1, entered := idx, fires := 0
    since := (List.range 4).map fun k => if s.fld F.tgLimit n k = 0 then some idx else none
    timers := [none, none, none, none], hold := none, thr := 0, heard := [], path := [], countRx := [[], [], [], []]
    timerRx := [[], [], [], []] }
  let s2 := forAllDo (List.range 4) (fun k t => t.setFld F.tgCount 0 n k) s1
  ((s2.setFld F.tgStatusCur 0 n).setFld F.tgStatusHoldoff 0 n).setFld F.tgStatusEstate 1 n

/-- The changes of a cycle take effect at its end. -/
def tgLand (s : Device) : Device :=
  forAllDo (List.range 16) (fun n t =>
    match (t.tg n).chg with
    | none => t
    | some c =>
      let t1 := t.updTg n fun e => { e with chg := none }
      match c with
      | some idx => armEngine n idx t1
      | none => (t1.updTg n fun e => { e with hold := none }).setFld F.tgStatusEstate 0 n |>.setFld F.tgStatusHoldoff 0 n) s

/-- The end of a fabric cycle in the trigger block: threshold units, pattern vectors and changes; what the cycle brought is
evaluated in the next. -/
def trigEnd (s : Device) : Device :=
  let s1 := dtCycle s
  let s2 := forAllDo (List.range 16) (fun n t =>
    let m := t.patternMatch n
    if m == (t.tg n).matched && m == (t.tg n).before then t
    else t.updTg n fun e => { e with before := e.matched, matched := m }) s1
  let s3 := tgLand s2
  { s3 with trig := { s3.trig with last := { s3.trig.now with acts := s3.ev.act }, now := {} } }

/-- A condition code that R248 does not reserve. -/
def validCode (c : Nat) : Bool := decide (c ≤ 301) || c == 511

/-- The channel that a condition code selects is SEALED to a session other than t (R284). -/
def Device.codeAway (s : Device) (c t : Nat) : Bool := decide (c < 256) && s.ecAway c t

/-- A write of TG_CTRL by session t (R252, R256, R284): configuration only while IDLE or DONE; ARM set arms, ARM clear takes
the engine to IDLE. -/
def tgCtrlWriteOp (t n v : Nat) (s : Device) : CmdOut :=
  let old := s.reg .tgCtrl n
  let nw : Word := BitVec.ofNat 32 v
  let ns := bitsOf v 15 12
  let base := 32 * bitsOf v 22 20
  let away := (List.range 32).any fun b => s.ecAway (base + b) t
  if 1 < bitsOf v 17 16 ∨ bitsOf v 19 18 = 3 then refuse s stBadArg
  else if (nw &&& 0xFFFFFFFE) ≠ (old &&& 0xFFFFFFFE) ∧ s.tgArmed n then refuse s stBusy
  else if (List.range (ns + 1)).any fun x => decide (ns < s.fld F.tgSTNextT n x) || decide (ns < s.fld F.tgSENextE n x) then
    refuse s stBadArg
  else if s.ecAway (bitsOf v 31 24) t || away then refuse s stNotOwner
  else
    let s1 := s.putReg .tgCtrl nw n
    let s2 := liftCuts (RegName.addr .tgCtrl n :: (List.range 32).map (patternKey n)) s1
    done (tgChange n (if bitOf v 0 then some s.ssi else none) s2)

/-- A write of one word of a state of engine n by session t: w 0 the conditions, 1 ACT_T and NEXT_T, 2 CE, ACT_E and NEXT_E
(R248, R252, R254, R256, R284). -/
def tgStateWriteOp (t n x w v : Nat) (s : Device) : CmdOut :=
  let ns := s.fld F.tgCtrlNstates n
  if s.tgArmed n then refuse s stBusy
  else if w = 0 then
    let ca := bitsOf v 8 0
    let cb := bitsOf v 24 16
    if 3 < bitsOf v 31 29 || !(validCode ca) || !(validCode cb) then refuse s stBadArg
    else if s.codeAway ca t || s.codeAway cb t then refuse s stNotOwner
    else
      let a := RegName.addr .tgS n x
      done (liftCuts [a, a + 1] (s.putReg .tgS (BitVec.ofNat 32 v &&& 0xE1FF01FF) n x))
  else if bitOf v 15 || bitOf v 1 then refuse s stBadArg
  else if ns < bitsOf v 19 16 then refuse s stBadArg
  else if w = 1 then done (s.putReg .tgST (BitVec.ofNat 32 v &&& 0x000FFFFF) n x)
  else if !(validCode (bitsOf v 28 20)) then refuse s stBadArg
  else if s.codeAway (bitsOf v 28 20) t then refuse s stNotOwner
  else done (liftCuts [RegName.addr .tgSE n x] (s.putReg .tgSE (BitVec.ofNat 32 v &&& 0x1FFFFFFF) n x))

/-! ### Engine captures (R260) -/

/-- A capture of engine n is due to start. -/
def Device.tgCaptureDue (s : Device) (n : Nat) : Bool := (s.tg n).caps.any fun c => decide (c.1 < s.ssi + 32)

/-- The due captures of engine n start, after the captures of CAPT that start up to them, or set CAPREF (R186, R260, R269). -/
def tgCaptureStartOp (n : Nat) (s : Device) : Device :=
  let due := (s.tg n).caps.filter fun c => decide (c.1 < s.ssi + 32)
  let s1 := s.updTg n fun e => { e with caps := e.caps.filter fun c => !(decide (c.1 < s.ssi + 32)) }
  forAllDo due (fun (x, i, len, rx) u =>
    let t := captureStarts (x + 1) u
    if (t.input i).caps.any fun c => c.openAt x then t.setFlag F.tgStatusCapref n
    else
      let c : Capture := { start := x, len := len, serial := 0xFFFFFF00 + n, refused := !(t.flag F.ipCapCtrlEn i), engine := some n }
      let before := t.reg .ipCapser i
      let t1 := startCapture i c (t.updInput i fun y => { y with caps := y.caps ++ [c] })
      let cs := (t1.reg .ipCapser i).toNat
      if t1.reg .ipCapser i = before || rx.isEmpty then t1
      else
        let t2 := { t1 with rx := t1.rx.map fun (r : RxWord) => if rx.contains r.id then { r with caps := r.caps ++ [(i, cs)] } else r }
        if t1.rx.any fun r => rx.contains r.id && r.tainted then affect [] [(i, cs)] t2 else t2) s1

/-! ### Measurements (R262 to R264) -/

/-- Floor of the square root, bit by bit from bit n down. -/
def isqrtFrom (x : Nat) : Nat → Nat → Nat
  | 0, r => r
  | n + 1, r => isqrtFrom x n (if (r + 2 ^ n) ^ 2 ≤ x then r + 2 ^ n else r)

/-- Floor of the square root of a number below 2^96. -/
def isqrt (x : Nat) : Nat := isqrtFrom x 48 0

/-- round(256 * sum / n), halves away from zero. -/
def mean256 (sum : Int) (n : Nat) : Int :=
  let m : Int := ((512 * sum.natAbs + n) / (2 * n) : Nat)
  if sum < 0 then -m else m

/-- round(256 * sqrt(sumsq / n)), halves away from zero. -/
def rms256 (sumsq n : Nat) : Nat := (1 + isqrt (262144 * sumsq / n)) / 2

/-- The crossing detector after a stored sample (R263): the sample before it, if any, armed, and the crossings found. -/
def crossStep (lvl hys : Int) (st : Option Int × Bool × List Nat × Nat) (v : Int) : Option Int × Bool × List Nat × Nat :=
  let (prev, armed, ps, m) := st
  match prev with
  | none => (some v, decide (v ≤ lvl - hys), ps, m + 1)
  | some u =>
    if armed && decide (u < lvl) && decide (lvl ≤ v) then
      (some v, decide (v ≤ lvl - hys), ps ++ [256 * (m - 1) + (256 * (lvl - u) / (v - u)).toNat], m + 1)
    else (some v, armed || decide (v ≤ lvl - hys), ps, m + 1)

/-- The crossings of a capture, in 1/256 stored sample (R263). -/
def crossings (lvl hys : Int) (vs : List Int) : List Nat := (vs.foldl (crossStep lvl hys) (none, false, [], 0)).2.2.1

/-- PERIOD of crossings at capture decimation c; none where NOPER (R263). -/
def periodOf (c : Nat) (ps : List Nat) : Option Nat :=
  if ps.length < 2 then none
  else some (min (2 ^ 32 - 1) (c * (ps.getLast?.getD 0 - ps.headD 0) / (ps.length - 1)))

/-- Comparator k of engine n on its selected measurement (R264). -/
def Device.comparator (s : Device) (n k : Nat) : Bool :=
  let x : Int := match s.fld F.tgMcSel n k with
    | 0 => toSigned 12 (s.fld F.tgMinmaxMin n)
    | 1 => toSigned 12 (s.fld F.tgMinmaxMax n)
    | 2 => toSigned 24 (s.fld F.tgMean n)
    | 3 => s.fld F.tgRms n
    | 4 => s.fld F.tgAmpl n
    | 5 => s.fld F.tgPeriod n
    | _ => s.fld F.tgNcross n
  let th := toSigned 32 (s.fld F.tgMcThresh n k)
  s.flag F.tgMcEn n k && (if s.fld F.tgMcOp n k = 0 then decide (x < th) else decide (th ≤ x))

/-- Engine n latches the measurement of a capture that ends (R262 to R264). A capture cut before its first stored sample has
no stated MIN, MAX, MEAN, RMS and AMPL: free values. -/
def measureCapture (n : Nat) (c : Capture) (vs : List Int) (lost : Bool) (s : Device) : Device :=
  let k := vs.length
  let mx := vs.foldl max (-2048)
  let mn := vs.foldl min 2047
  let sumsq := (vs.map fun v => v.natAbs ^ 2).sum
  let (a, s1) := s.draw
  let vals := if k = 0 then [a, a / 2 ^ 12, a / 2 ^ 24, a / 2 ^ 48, a / 2 ^ 72]
    else [ofSigned 12 mn, ofSigned 12 mx, ofSigned 24 (mean256 vs.sum k), rms256 sumsq k, (128 * (mx - mn)).toNat]
  let s0 := if k = 0 then s1 else s
  let ps := crossings (toSigned 12 (s.fld F.tgLevelLvl n)) (s.fld F.tgLevelHys n) vs
  let per := periodOf (capDec c.code) ps
  let s2 := (((((s0.setFld F.tgMinmaxMin (vals.getD 0 0) n).setFld F.tgMinmaxMax (vals.getD 1 0) n).setFld F.tgMean
    (vals.getD 2 0) n).setFld F.tgRms (vals.getD 3 0) n).setFld F.tgAmpl (vals.getD 4 0) n).setFld F.tgPeriod (per.getD 0) n
  let flags := b2n c.clip + 2 * b2n lost + 4 * b2n c.trunc + 8 * b2n c.cut + 16 * b2n per.isNone
  let s3 := (((s2.setFld F.tgNcross ps.length n).put64 .tgMendLo .tgMendHi c.stop n).setFld F.tgMflags flags n).present
    (tgEvent n 1) c.stop
  let held := (List.range 4).filter fun m => s3.comparator n m
  { s3 with trig := { s3.trig with now := { s3.trig.now with
    meas := held.foldl (fun x m => sput x (4 * n + m) c.stop) s3.trig.now.meas } } }

/-- The open capture of input i reaches its end or cut index in this cycle (R187 to R191, R262). -/
def captureEndOp (i : Nat) (s0 : Device) : Device :=
  match (s0.input i).current with
  | none => s0
  | some c =>
    if s0.ssi + 32 ≤ c.stop then s0
    else
      let s := recordWord i [] s0
      let vs := (List.range c.stored).map (s.storedValue i c)
      let s1 := endCapture i s
      let c1 := ((s1.input i).caps.find? fun d => d.ended && d.start == c.start).getD c
      forAllDo c.meas (fun n t => measureCapture n c1 vs (!c1.lost.isEmpty) t) s1

/-- At the end of a cycle every capture that ends in it has ended: at most 16 follow each other on an input. -/
def capturesDone (s : Device) : Device :=
  forAllDo (s.inputs.map Prod.fst) (fun i t => captureEndOp i (captureEndOp i t)) s

/-! ### Triggers across devices (R265 to R269) -/

/-- An event frame (R265). -/
def eventFrame (hops : Nat) (late : Bool) (sev lead origin : Nat) : Nat :=
  sealBlock (0x2 * 2 ^ 44 + hops % 4 * 2 ^ 42 + b2n late * 2 ^ 41 + sev % 256 * 2 ^ 33 + lead % 512 * 2 ^ 24 + origin % 2 ^ 24)

/-- An activation of channel c is published (R266), under the entries from before the cycle's writes (R279). -/
def tgPublish (c : Nat) (a : Ev) (s : Device) : Device :=
  forAllDo ((List.range 16).filter fun n => s.fldF F.tgPubEn n != 0 && s.fldF F.tgPubSrc n == c
      && !(s.ev.cut.contains (RegName.addr .tgPub n))) (fun n t =>
    forAllDo ((bitsSet 8 (t.fldF F.tgPubPorts n)).filter t.portUp) (fun p t =>
      let lead := ceilDiv (1280 + ceilDiv (t.reg .tbLdly p).toNat 256 + t.fldF F.tgPubExtra n) 32
      let t1 := if 511 < lead then t.setFlag F.tgStatusLeadclamp n else t
      queueVc1 p (eventFrame 0 a.late (t.fldF F.tgPubSev n) (min lead 511) a.stamp) t1) t) s

/-- A remote event of producer j is produced in this cycle. -/
def presentRemote (j stamp : Nat) (late : Bool) (rx : List Nat) (s : Device) : Device :=
  s.present (tgEvent (48 + j) 0) stamp late rx

/-- The remote events of XEj whose due index lies in this cycle (R268). -/
def remoteDeliverOp (j : Nat) (s : Device) : Device :=
  let due := s.trig.remote.filter fun x => x.1 == j && decide (x.2.1 < s.ssi + 32)
  let s1 := { s with trig := { s.trig with remote := s.trig.remote.filter fun x => !(x.1 == j && decide (x.2.1 < s.ssi + 32)) } }
  forAllDo due (fun (j, d, late, rx) t => presentRemote j d late rx t) s1

/-- An event for XEj with due index d (R268): produced at once when it is due or late, else held, four at most. -/
def remoteAccept (j d : Nat) (late : Bool) (id : Nat) (s : Device) : Device :=
  if d < s.ssi then
    ((presentRemote j s.ssi true [id] s).setFlag F.tgXstatusXlate).presentNow (tgEvent 64 0)
  else if d < s.ssi + 32 then presentRemote j d late [id] s
  else if 4 ≤ (s.trig.remote.filter fun x => x.1 == j).length then s.setFlag F.tgXstatusXdrop
  else { s with trig := { s.trig with remote := s.trig.remote ++ [(j, d, late, [id])] } }

/-- An event frame with a valid CHECK received on port q (R267, R269). -/
def eventFrameRx (q : Nat) (b : Vc1Block) (s : Device) : Device :=
  let hops := bitsOf b.bits 59 58
  let late := bitOf b.bits 57
  let sev := bitsOf b.bits 56 49
  let lead := bitsOf b.bits 48 40
  let o := nearIndex (bitsOf b.bits 39 16) s.ssi 24
  let d := o + 32 * lead
  if d < (s.ssi : Int) - 1048576 then
    actOn q b 0 (s.setFlag F.tgXstatusXstale)
  else
    let id := s.rxNext
    let es := (List.range 16).filter fun m => s.flag F.tgFwdEn m && decide (s.fld F.tgFwdSevLo m ≤ sev)
      && decide (sev ≤ s.fld F.tgFwdSevHi m) && bitOf (s.fld F.tgFwdIoIn m) q
    let out := (List.range 8).filter fun r => r != q && s.portUp r && es.any fun m => bitOf (s.fld F.tgFwdIoOut m) r
    let s1 := if hops = 3 then s.setFlag F.tgXstatusXhoplimit
      else forAllDo out (fun r t => queueVc1 r (eventFrame (hops + 1) late sev lead (bitsOf b.bits 39 16)) t) s
    let s2 := { s1 with
      rxNext := id + 1
      rx := s1.rx ++ [({ id := id, ch := 256 + sev, port := q, d := d.toNat, fwd := [], suspect := true, uses := [] } : RxWord)] }
    let s3 := actOn q b id s2
    forAllDo ((List.range 16).filter fun j => s.flag F.tgXinEn 0 j && s.fld F.tgXinPort 0 j == q && s.fld F.tgXinSev 0 j == sev)
      (fun j t => remoteAccept j d.toNat late id t) s3

/-! ### Channel activations (R275, R276, R278) -/

/-- The activation of channel n in this cycle, delivered to its consumer inputs. -/
def channelActivationOp (n : Nat) (s : Device) : Device :=
  match activate n s with
  | (s1, none) => s1
  | (s1, some a) =>
    tgPublish n a (holdCount n a.stamp (armEvent n a.stamp (eventStart n a.stamp a.rx (eventJumps n a.stamp a.rx s1))))

end Sys2Proof.Machine
end

