-- ==== Sys2Proof/Machine/Links.lean ====
section
/-! DEFINITION. The link layer of the eight ports (spec/15_links_flow_control.md), its attestation (R491, R492), the tags
of VC1 blocks (R494, R495) and the link check (R58 to R61, R443). -/

namespace Sys2Proof.Machine

/-- The events of the links (R447). -/
def lkEvent (evt : Nat) : Nat := evCode 0 7 evt

/-- LSTATE (R434): 0 DOWN, 1 INIT, 2 ATTEST, 3 UP, 4 HALT. -/
def Device.lstate (s : Device) (p : Nat) : Nat := s.fld F.lkPstatLstate p

/-- The physical layer of the port works (R413): UP or DEGRADED. -/
def Device.physOk (s : Device) (p : Nat) : Bool := s.fld F.lnPstatPstate p == 3 || s.fld F.lnPstatPstate p == 4

/-- The port is in the peer role (R425). -/
def Device.isPeer (s : Device) (p : Nat) : Bool := s.flag F.lkPctlRole p

/-- Frames move in UP, and in ATTEST (R425, R434). -/
def Device.linkOpen (s : Device) (p : Nat) : Bool := s.lstate p == 2 || s.lstate p == 3

/-- A link control block (R432), without its CHECK. -/
def ctrlBlock (type field : Nat) : Nat := type + field * 256

/-- Send a link control block, with its CHECK, in the first slot that it may take (R432, R433); in HALT the port sends none (R434). -/
def sendCtrl (p b : Nat) (s : Device) : Device := if s.lstate p = 4 then s else putSlots p [(2, sealControl b)] s

/-! ### States (R434, R435, R445) -/

/-- The link enters INIT: credits, sequence and replay start anew (R435, R437, R438). -/
def enterInit (p : Nat) (s : Device) : Device :=
  (s.updLink p fun x => { x with
    cred := [0, 0, 0], fseq := 0, replay := [], resend := [], expect := 0, fail := none, part := [], back := [0, 0, 0],
    seen := [0, 0, 0], owe := [0, 0, 0], farAcked := false, got := false, sentAcked := false, heard := s.cycle, linitAt := s.cycle,
    hello := none }).setFld F.lkPstatLstate 1 p

/-- The link leaves its state for DOWN or HALT (R445): where it was UP or ATTEST, the frames held are lost and counted, the VC1
queue is discarded (R234), CAUSE and an event say so, and the synthetic words of R242 begin. -/
def linkExit (p cause dest : Nat) (s : Device) : Device :=
  let x := s.link p
  let halt (t : Device) : Device :=
    if dest = 4 then ((t.updSport p fun y => { y with tx := [] }).addFld F.lkHaltcnt 1 p).presentNow (lkEvent 8) else t.presentNow (lkEvent 7)
  if s.linkOpen p then
    let s0 := packReplies p s
    let x := s0.link p
    let lost := x.replay.length + x.out.length + x.after.length + (x.part.map fun v => v.2.length).sum
    let s1 := portLost p (s0.putLink p { x with
      replay := [], resend := [], kept := [], out := [], part := [], owed := [], tq := [], answers := [], fail := none, sparing := none, hello := none, packet := none, after := [] })
    syntheticOp p (halt (((s1.addFld F.lkLostfr lost p).setFld F.lkPstatCause cause p).setFld F.lkPstatLstate dest p))
  else if dest = 4 ∧ s.lstate p ≠ 4 then halt ((s.putLink p { x with fail := none }).setFld F.lkPstatLstate 4 p)
  else if s.lstate p = 1 then s.setFld F.lkPstatLstate dest p
  else s

/-- What follows PSTATE (R434): DOWN goes dest INIT when the port works, other states but HALT go dest DOWN when it does
not. -/
def linkFollow (p : Nat) (s : Device) : Device :=
  if s.physOk p then (if s.lstate p = 0 then enterInit p s else s)
  else if s.lstate p = 0 ∨ s.lstate p = 4 then s
  else linkExit p (if s.flag F.lnPctlEn p then 1 else 2) 0 s

/-- The link enters UP (R431, R434, R489). -/
def enterUp (p : Nat) (s : Device) : Device :=
  let s1 := ((s.updLink p fun x => { x with heard := s.cycle }).setFld F.lkPstatLstate 3 p).addFld F.lkUpcnt 1 p
  nextEpoch p (s1.presentNow (lkEvent 6))

/-- The HELLO that this end sends under an ephemeral key and a nonce (R491). -/
def Device.helloBytes (s : Device) (p d : Nat) (nonce : List Byte) : List Byte :=
  let certs := Config.cert 0 ++ Config.cert 1
  leBytes 2 (s.fld F.lkDevidDevid) ++ leBytes 1 p ++ zeros 1 ++ publicKey d ++ nonce
    ++ ((List.range 12).flatMap fun w => leBytes 4 (s.reg .secOwnerdig 0 w).toNat) ++ idKey
    ++ leBytes 4 (s.reg .revision).toNat ++ leBytes 4 certs.length ++ certs

/-- The header frame of an attestation message (R449, R491). -/
def attestHeader (opcode len : Nat) : List Byte := leBytes 2 opcode ++ leBytes 2 0x3FFF ++ zeros 8 ++ leBytes 4 len ++ zeros 16

/-- The link enters ATTEST and sends its HELLO, with zeros for its tag (R434, R491). -/
def enterAttest (p : Nat) (s : Device) : Device :=
  let (d, s1) := drawKey s
  let (nonce, s2) := drawBytes 32 s1
  let b := s2.helloBytes p d nonce
  (s2.updLink p fun x => { x with
    heard := s.cycle, attestAt := s.cycle, hello := none, eph := d, nonce := nonce, mine := b, far := [], txKeys := [], rxKeys := []
    out := x.out ++ packetFrames 0 (attestHeader 0x7F01 b.length) b (zeros 16) }).setFld F.lkPstatLstate 2 p

/-- INIT completes, or the far end does not fit (R435). -/
def initDone (p : Nat) (s : Device) : Device :=
  let x := s.link p
  let buf (f : Fld) : Nat := s.fld f p
  let fits := (if s.isPeer p then x.farKind == 2 else x.farKind == 0) && buf F.lkPeerbufBuf0 != 0 && buf F.lkPeerbufBuf3 != 0
  if fits then
    let s1 := s.putLink p { x with cred := [8 * buf F.lkPeerbufBuf0, 8 * buf F.lkPeerbufBuf2, 8 * buf F.lkPeerbufBuf3] }
    if s.isPeer p then enterAttest p s1 else enterUp p s1
  else (s.setFlag F.lkPstatRolemis p).presentNow (lkEvent 11)

/-- A LINIT is due (R435): every 1 µs in INIT. -/
def Device.linitDue (s : Device) (p : Nat) : Bool := s.lstate p == 1 && decide ((s.link p).linitAt ≤ s.cycle)

/-- The LINIT block that the port sends (R432, R435). -/
def Device.linitBlock (s : Device) (p : Nat) : Nat :=
  ctrlBlock 0x83 ((if s.isPeer p then 2 else 1) + b2n (s.link p).got * 4 + 16 * 16 + 128 * 2 ^ 12 + 128 * 2 ^ 20)

/-- LINIT_SEND (R435). -/
def linitSendOp (p : Nat) (s : Device) : Device :=
  if s.linitDue p then
    let x := s.link p
    let s1 := sendCtrl p (s.linitBlock p) (s.putLink p { x with
      linitAt := s.cycle + 500, sentAcked := x.sentAcked || x.got, sent := s.linitBlock p })
    if x.got && !x.sentAcked && x.farAcked then initDone p s1 else s1
  else s

/-- LINIT_RX (R434, R435). -/
def linitRxOp (p : Nat) (b : LinitBlock) (s : Device) : Device :=
  if s.lstate p = 1 then
    let x := s.link p
    let w := b.buf3 % 256 * 65536 + b.buf2 % 256 * 256 + b.buf0 % 256
    let s1 := (s.putLink p { x with got := true, farKind := b.kind, farAcked := x.farAcked || b.acked, heard := s.cycle }).putReg
      .lkPeerbuf (BitVec.ofNat 32 w) p
    if (x.farAcked || b.acked) && x.sentAcked then initDone p s1 else s1
  else if s.linkOpen p then s.updLink p fun x => { x with heard := s.cycle }
  else s

/-- No valid LINK or LINIT block has come for 8 µs (R434). -/
def Device.linkLate (s : Device) (p : Nat) : Bool :=
  (s.lstate p == 1 || s.linkOpen p) && decide ((s.link p).heard + 4000 ≤ s.cycle)

/-- LINK_TIMEOUT (R434, R445). -/
def linkTimeoutOp (p : Nat) (s : Device) : Device := if s.linkLate p then linkExit p 5 0 s else s

/-- RESET_BLOCK_RX (R434, R445). -/
def resetBlockOp (p : Nat) (s : Device) : Device :=
  if s.lstate p = 1 ∨ s.linkOpen p then linkExit p 4 0 s else s

/-! ### Attestation (R491, R492) -/

/-- Attestation fails (R444, R492). -/
def attestFail (p : Nat) (s : Device) : Device := linkExit p 7 4 (s.presentNow (ceEvent 11))

/-- The link keys that the two HELLOs give (R492): the ends are ordered by their identity keys, and so are the nonces of the salt. -/
def deriveLink (p : Nat) (far : List Byte) (s : Device) : Device :=
  let x := s.link p
  let (z, s1) := agree x.eph (sliceB far 4 96) s
  let lower := decide (beNat idKey < beNat (sliceB far 180 96))
  let theirs := sliceB far 100 32
  let (a, b) := if lower then linkKeys z x.nonce theirs else linkKeys z theirs x.nonce
  s1.putLink p { x with far := far, txKeys := if lower then a else b, rxKeys := if lower then b else a }

/-- HELLO_RX: the tests that a HELLO allows, the link keys, and this end's FINISH, whose tag is under the new K_mac
(R491, R492). -/
def helloRxOp (p : Nat) (h : Hello) (s : Device) : Device :=
  if s.lstate p = 2 ∧ (s.link p).hello = none then
    let own := (List.range 12).flatMap fun w => leBytes 4 (s.reg .secOwnerdig 0 w).toNat
    let ok := h.certOk && h.leafOk && sliceB h.payload 132 48 == own && fieldB h.payload 0 2 == s.fld F.lnPeerDevid p
    if ok then
      let (sig, s1) := identitySign ((s.link p).mine ++ h.payload) (deriveLink p h.payload s)
      s1.updLink p fun x => { x with
        hello := some true
        out := x.out ++ packetFrames 0 (attestHeader 0x7F02 96) sig (finishTag x.txKeys (attestHeader 0x7F02 96) sig) }
    else attestFail p s
  else s

/-- A tag failure on port p (R244, R444, R495): the link halts, its suspect words become tainted. -/
def tagFailure (p : Nat) (s : Device) : Device :=
  let s1 := (s.addFld F.secTagfail 1 0 p).presentNow (ceEvent 10)
  let s2 := taintPort p (linkExit p 6 4 s1)
  s2.updLink p fun x => { x with acted := [] }

/-- The tag of a FINISH that came verifies under the K_mac of its direction (R491). -/
def Device.finishOk (s : Device) (p : Nat) (f : Finish) : Bool :=
  finishTag (s.link p).rxKeys (attestHeader 0x7F02 96) f.payload == f.tag

/-- FINISH_RX (R492): the signature and the GMAC of the FINISH; before the HELLO there is no key for it. -/
def finishRxOp (p : Nat) (f : Finish) (sigOk : Bool) (s : Device) : Device :=
  if s.lstate p = 2 then
    if (s.link p).hello != some true then attestFail p s
    else if !(s.finishOk p f) then tagFailure p s
    else if sigOk then enterUp p s else attestFail p s
  else s

/-- Attestation has not succeeded within 100 ms (R492). -/
def Device.attestLate (s : Device) (p : Nat) : Bool := s.lstate p == 2 && decide ((s.link p).attestAt + 50000000 ≤ s.cycle)

/-- ATTEST_TIMEOUT (R492). -/
def attestTimeoutOp (p : Nat) (s : Device) : Device := if s.attestLate p then attestFail p s else s

/-! ### Frames (R428 to R431, R437, R438) -/

/-- Room in the command queue for one more packet (R450). -/
def Device.queueRoom (s : Device) : Bool :=
  decide (s.eng.queue.length < 64) && decide ((s.eng.queue.map fun q => q.payload.length).sum < 2 ^ 20)

/-- Return n credits of a channel to the far end, or keep them while the command queue is full (R437, R450). -/
def returnCredit (p vc n : Nat) (s : Device) : Device :=
  let i := vcSlot vc
  let hold := !(s.isPeer p) && vc != 2 && (!s.queueRoom || !(s.link p).waitp.isEmpty)
  s.updLink p fun x =>
    if hold then { x with owe := listSet x.owe i (x.owe.getD i 0 + n) } else { x with back := listSet x.back i (x.back.getD i 0 + n) }

/-- One bit more of the CRC-32 (R429). -/
def crcBit (r : Nat) (b : Bool) : Nat := if bitOf r 31 != b then (2 * r % 2 ^ 32) ^^^ 0x04C11DB7 else 2 * r % 2 ^ 32

/-- The CRC-32 of a frame (R429): positions 0 to 31 of its head, then the payload positions of its data blocks. -/
def frameCrc (head : Nat) (blocks : List Nat) : Nat :=
  let bits (n v : Nat) : List Bool := (List.range n).map (bitOf v)
  (bits 32 head ++ blocks.flatMap (bits 64)).foldl crcBit 0xFFFFFFFF ^^^ 0xFFFFFFFF

/-- The fields of a received frame's head (R428) and its 32 payload bytes. -/
def frameVc (f : Frame) : Nat := bitsOf f.head 9 8
def frameFirst (f : Frame) : Bool := bitOf f.head 10
def frameLast (f : Frame) : Bool := bitOf f.head 11
def frameSeq (f : Frame) : Nat := bitsOf f.head 23 12
def frameData (f : Frame) : List Byte := f.blocks.flatMap fun b => leBytes 8 b.2

/-- A received frame is good: its four data blocks have valid headers and its CRC holds (R429). -/
def frameGood (f : Frame) : Bool :=
  f.head % 256 == 0x80 && f.blocks.length == 4 && f.blocks.all Prod.fst
    && frameCrc (f.head % 2 ^ 32) (f.blocks.map Prod.snd) == bitsOf f.head 63 32

/-- The tags of a VC1 tag frame (R494); 0xFFFF_FFFF stands for none. -/
def frameTags (f : Frame) : List (Nat × Nat) :=
  let d := frameData f
  [(fieldB d 0 4, beNat (sliceB d 4 12)), (fieldB d 16 4, beNat (sliceB d 20 12))].filter fun t => t.1 != 0xFFFFFFFF

/-- The data blocks of a frame to be sent (R428). -/
def LFrame.blocks (f : LFrame) : List Nat := (List.range 4).map fun i => fieldB f.data (8 * i) 8

/-- The head block of a frame to be sent, with its CRC (R428, R429). -/
def LFrame.head (f : LFrame) : Nat :=
  let low := 0x80 + f.vc % 4 * 2 ^ 8 + b2n f.first * 2 ^ 10 + b2n f.tag * 2 ^ 11 + f.fseq % 4096 * 2 ^ 12
  low + frameCrc low f.blocks * 2 ^ 32

/-- Take a good frame E into the sequence: it is delivered to its channel (R425, R438), and the payloads of a packet that it
completes are answered. -/
def deliverFrame (p : Nat) (f : Frame) (s : Device) : Device × Option (List (List Byte)) :=
  let x := s.link p
  let vc := frameVc f
  let s0 := s.putLink p { x with expect := (x.expect + 1) % 4096, fail := none }
  let s1 := s0.addFld F.lkFrx 1 p
  if vc = 1 then (s1, none)
  else if s.isPeer p ∧ vc ≠ 0 then (returnCredit p vc 1 (s0.addFld F.lkMisvc 1 p), none)
  else
    let had := if frameFirst f then [] else sget [] x.part vc
    let s2 := returnCredit p vc 1 s1
    if frameLast f then (s2.updLink p fun y => { y with part := sdel y.part vc }, some (had ++ [frameData f]))
    else (s2.updLink p fun y => { y with part := sput y.part vc (had ++ [frameData f]) }, none)

/-- Send RETRY(E) (R439, R440). -/
def sendRetry (p : Nat) (s : Device) : Device :=
  (sendCtrl p (ctrlBlock 0x82 (s.link p).expect) s).setFlag F.lkPstatRetry p

/-- The logical lane with the most errors, the lower one on a tie; none where no lane shows any (R439). -/
def worstLane (errs : List Nat) : Option Nat :=
  ((List.range 8).foldl (fun (best : Option (Nat × Nat)) j =>
    let e := errs.getD j 0
    match best with
    | some (_, b) => if b < e then some (j, e) else best
    | none => if e = 0 then none else some (j, e)) none).map Prod.fst

/-- Send SPARE(j) and repeat it (R442). -/
def startSpare (p j : Nat) (s : Device) : Device :=
  let at_ := if bitOf (s.fld F.lnPstatPlaced p) j then some (bitsOf (s.reg .lnPmap p).toNat (4 * j + 3) (4 * j)) else none
  sendCtrl p (ctrlBlock 0x84 j) (s.updLink p fun x => { x with sparing := some (j, at_, s.cycle + 500) })

/-- The receiver gives up (R439): SPARE for the lane to blame, else RESET and DOWN. -/
def giveUp (p : Nat) (errs : List Nat) (s : Device) : Device :=
  let s1 := ((s.addFld F.lkGiveup 1 p).setFlag F.lkPstatGiveup p).presentNow (lkEvent 9)
  let s2 := s1.updLink p fun x => { x with fail := none }
  match worstLane errs with
  | some j => startSpare p j s2
  | none => linkExit p 3 0 (sendCtrl p (ctrlBlock 0x85 0) s2)

/-- A failure of frame E (R439): the first sends RETRY(E); later ones resend it, or give up after the eighth. -/
def frameFailure (p : Nat) (good : Bool) (s : Device) : Device :=
  let now := s.sampleCount
  match (s.link p).fail with
  | none => sendRetry p (s.updLink p fun x => { x with fail := some { first := now, last := now, tries := 1, errs := List.replicate 8 0 } })
  | some e =>
    if !good && decide (e.last + s.fld F.lkRtwait p ≤ now) then
      if 8 ≤ e.tries then giveUp p e.errs s
      else sendRetry p (s.updLink p fun x => { x with fail := some { e with last := now, tries := e.tries + 1 } })
    else s

/-- A RETRY is due again: 1 µs in PENDING without the expected frame (R439). -/
def Device.retryDue (s : Device) (p : Nat) : Bool :=
  match (s.link p).fail with
  | some e => s.linkOpen p && decide (e.tries < 8) && decide (e.last + 16000 ≤ s.sampleCount)
  | none => false

/-- RETRY_RESEND (R439). -/
def retryResendOp (p : Nat) (s : Device) : Device :=
  match (s.link p).fail with
  | some e => if s.retryDue p then
      sendRetry p (s.updLink p fun x => { x with fail := some { e with last := s.sampleCount, tries := e.tries + 1 } }) else s
  | none => s

/-- 4 µs have passed since the first RETRY (R439). -/
def Device.giveupDue (s : Device) (p : Nat) : Bool :=
  match (s.link p).fail with
  | some e => s.linkOpen p && decide (e.first + 64000 ≤ s.sampleCount)
  | none => false

/-- GIVEUP (R439). -/
def giveupOp (p : Nat) (s : Device) : Device :=
  match (s.link p).fail with
  | some e => if s.giveupDue p then giveUp p e.errs s else s
  | none => s

/-- Errors of a logical lane since the first RETRY count toward the choice of R439. -/
def blameLane (p j : Nat) (s : Device) : Device :=
  s.updLink p fun x => { x with fail := x.fail.map fun e => { e with errs := listSet e.errs j (e.errs.getD j 0 + 1) } }

/-- An uncorrectable word of a link's replay buffer (R374, region 8): as a retry that has given up. -/
def replayLost (p : Nat) (s : Device) : Device :=
  if s.linkOpen p ∧ (s.link p).replay ≠ [] then giveUp p (List.replicate 8 0) s else s

/-- The payload of the next VC1 tag frame: two tags at most (R494). -/
def tagPayload (owed : List (Nat × Nat)) : List Byte :=
  let part (a : Nat × Nat) : List Byte := leBytes 4 a.1 ++ beBytes 12 a.2
  match owed with
  | a :: b :: _ => part a ++ part b
  | [a] => part a ++ part (0xFFFFFFFF, 0)
  | [] => []

/-- A frame goes out in the next five slots that it may take (R428), and counts. -/
def sendFrame (p : Nat) (f : LFrame) (s : Device) : Device :=
  (putSlots p ((2, f.head) :: f.blocks.map fun b => (1, b)) s).addFld F.lkFtx 1 p

/-- Put a new frame on the link (R437, R438). -/
def sendNew (p : Nat) (f : LFrame) (s : Device) : Device :=
  let g := { f with fseq := (s.link p).fseq }
  sendFrame p g ((sramWritten 8 p (g.fseq % 2048) 1 s).updLink p fun x => { x with
    fseq := (x.fseq + 1) % 4096, replay := x.replay ++ [g] })

/-- Take the first frame of a channel out of a list. -/
def takeVc (vc : Nat) : List LFrame → Option (LFrame × List LFrame)
  | [] => none
  | f :: t => if f.vc = vc then some (f, t) else (takeVc vc t).map fun (g, r) => (g, f :: r)

/-- The channels with a frame ready and a credit (R437). -/
def Link.ready (x : Link) : List Nat :=
  [0, 2, 3].filter fun vc => (x.out.any fun f => f.vc == vc) && decide (0 < x.cred.getD (vcSlot vc) 0)

/-- FRAME_SEND (R430, R437, R438, R440): a frame to resend, else a VC1 tag frame, else a new frame with a credit; the order
of the channels is free. -/
def frameSendOp (p : Nat) (s : Device) : Device :=
  if !(s.linkOpen p) then s
  else
    let s0 := if s.isPeer p then s else packReplies p s
    let s1 := if !(s.isPeer p) && !((s0.link p).out.any fun f => f.vc == 0) then packNotice p s0 else s0
    let x := s1.link p
    match x.resend with
    | f :: t =>
      let (bad, s2) := sramAccess 8 p (f.fseq % 2048) s1
      if bad then replayLost p s2 else sendFrame p f (s2.putLink p { x with resend := t })
    | [] =>
      if 2048 ≤ x.replay.length then s1
      else if !x.owed.isEmpty then
        sendNew p (mkFrame 1 true true (tagPayload x.owed)) (s1.putLink p { x with owed := x.owed.drop 2 })
      else match chooseOne x.ready s1 with
        | (some vc, s2) => match takeVc vc x.out with
          | some (f, rest) =>
            let i := vcSlot vc
            sendNew p f (s2.putLink p { x with out := rest, cred := listSet x.cred i (x.cred.getD i 0 - 1) })
          | none => s2
        | (none, s2) => s2

/-- The LINK block that the port sends: ACKSEQ and the credits returned (R432, R437, R438). -/
def Link.linkBlock (x : Link) : Nat :=
  ctrlBlock 0x81 (x.expect + x.back.getD 0 0 % 512 * 2 ^ 12 + x.back.getD 1 0 % 512 * 2 ^ 21 + x.back.getD 2 0 % 512 * 2 ^ 30)

/-- LINK_BLOCK_SEND (R433, R437, R438): a LINK block goes in the next slot that it may take. -/
def linkBlockSendOp (p : Nat) (s : Device) : Device :=
  if s.lstate p = 0 ∨ s.lstate p = 4 then s
  else
    let b := (s.link p).linkBlock
    (sendCtrl p b (s.updLink p fun x => { x with sent := b })).updSport p fun x => { x with linked := max x.next x.slotNow }

/-- A LINK block is due (R433): 64 slots that are not reserved have passed since the last one. -/
def Device.linkBlockDue (s : Device) (p : Nat) : Bool := s.linkOpen p && decide (64 ≤ s.slotsSinceLink p)

/-- A frame waits at port p: one to resend, tags, or a frame with a credit, a reply or a notice of its channels (R437, R440). -/
def Device.frameWaits (s : Device) (p : Nat) : Bool :=
  let x := s.link p
  s.linkOpen p && (!x.resend.isEmpty || (decide (x.replay.length < 2048) &&
    (!x.owed.isEmpty || !x.ready.isEmpty || (!(s.isPeer p) && decide (0 < x.cred.getD 0 0) &&
      ((s.eng.out.any fun r => r.via == p) || !(s.noticesOn p).isEmpty)))))

/-- The frames that may begin in this cycle, which has 13 slots at most: none while earlier blocks still take its slots. -/
def Device.framesDue (s : Device) (p : Nat) : Nat :=
  let x := s.sport p
  if s.frameWaits p then (x.slotNow + 17 - max x.next x.slotNow) / 5 else 0

/-- LINK_BLOCK_RX (R434, R437, R438). -/
def linkBlockRxOp (p : Nat) (b : LinkBlock) (s : Device) : Device :=
  if s.linkOpen p then
    s.updLink p fun x =>
      let now := [b.cr0 % 512, b.cr2 % 512, b.cr3 % 512]
      let more (i : Nat) : Nat := x.cred.getD i 0 + (now.getD i 0 + 512 - x.seen.getD i 0) % 512
      let held (f : LFrame) : Bool := decide ((f.fseq + 4096 - b.ackseq % 4096) % 4096 < 2048)
      { x with heard := s.cycle, seen := now, cred := [more 0, more 1, more 2], replay := x.replay.filter held, resend := x.resend.filter held }
  else if s.lstate p = 1 then s.updLink p fun x => { x with heard := s.cycle }
  else s

/-- Resend every held frame from frame n on (R440). -/
def rewind (p : Nat) (from_ : List LFrame) (s : Device) : Device :=
  ((s.updLink p fun x => { x with resend := from_ }).addFld F.lkRetrycnt 1 p).monitor 261 1

/-- RETRY_RX (R440). -/
def retryRxOp (p n : Nat) (s : Device) : Device :=
  let from_ := (s.link p).replay.dropWhile fun f => f.fseq != n
  if s.linkOpen p ∧ from_ ≠ [] then rewind p from_ s else s

/-! ### Sparing (R442) -/

/-- SPARE_RX (R442): the lane is skipped and the frames not acknowledged are resent. -/
def spareRxOp (p lane : Nat) (s : Device) : Device :=
  if (s.lstate p = 1 ∨ s.linkOpen p) ∧ lane < 8 ∧ !(s.flag F.lkPstatSkip p) then
    rewind p (s.link p).replay ((s.setFld F.lkPstatSkip 1 p).setFld F.lkPstatSkiplane lane p)
  else s

/-- The lane skipped moves to the spare at an alignment time, if the spare carries none (R442). -/
def spareMove (p : Nat) (s : Device) : Device :=
  if s.flag F.lkPstatSkip p && (s.link p).onSpare.isNone then
    let j := s.fld F.lkPstatSkiplane p
    let s1 := ((s.updLink p fun x => { x with onSpare := some j }).setFld F.lkPstatSkip 0 p).addFld F.lkSparecnt 1 p
    (((s1.monitor 262 1).setFlag F.lkPstatSpared p).presentNow (lkEvent 10))
  else s

/-- SPARE is due again (R442): every 1 µs. -/
def Device.spareDue (s : Device) (p : Nat) : Bool :=
  match (s.link p).sparing with
  | some (_, _, at_) => (s.lstate p == 1 || s.linkOpen p) && decide (at_ ≤ s.cycle)
  | none => false

/-- SPARE_RESEND (R442). -/
def spareResendOp (p : Nat) (s : Device) : Device :=
  match (s.link p).sparing with
  | some (j, o, _) => if s.spareDue p then
      sendCtrl p (ctrlBlock 0x84 j) (s.updLink p fun x => { x with sparing := some (j, o, s.cycle + 500) }) else s
  | none => s

/-! ### VC1 blocks (R426, R427, R441, R443) -/

/-- The instant of a lane event in this cycle, in 1/256 sample of the system index: which one is open (R422). -/
def landStamp (s : Device) : Int × Device :=
  let (r, s1) := s.draw
  ((256 * s.ssi + r % 8192 : Nat), s1)

/-- A timing block (R443). -/
def timingBlock (sub exch value : Nat) : Nat := sealBlock (0x3 * 2 ^ 44 + sub % 4 * 2 ^ 42 + exch % 64 * 2 ^ 36 + value % 2 ^ 36)

/-- A timing block leaves the land (R443): t1 of a REQ; t3 of an RSP, whose FOLLOW blocks are then queued. -/
def timingSent (p b : Nat) (s : Device) : Device :=
  let n := bitsOf b 57 52
  match bitsOf b 59 58 with
  | 0 =>
    let (t, s1) := landStamp s
    { s1 with tb := { s1.tb with check := s1.tb.check.map fun (q, c) =>
      (q, if q = p then { c with t1 := some t, since := some s.cycle } else c) } }
  | 1 =>
    let (t3, s1) := landStamp s
    match sfind (s.link p).answers n with
    | some t2 => s1.updLink p fun x => { x with
        answers := sdel x.answers n
        tq := x.tq ++ [timingBlock 2 n (ofSigned 36 (t3 - t2)), timingBlock 3 n (ofSigned 36 (t2 + t3))] }
    | none => s1
  | _ => s

/-- A VC1 block goes in reserved slot v, encrypted for it; bit b of the ciphertext stands at payload position 63 - b (R426, R427, R493). -/
def sendVc1 (p v b : Nat) (s : Device) : Device :=
  let x := s.link p
  let ct := b ^^^ vc1Stream x.txKeys v
  (s.putLink p { x with
    kept := (x.kept.filter fun k => decide (v < k.1 + 256)) ++ [(v, b)], owed := x.owed ++ [(v, vc1Tag x.txKeys v ct)], slot := v + 1 }).updSport p
    fun y => { y with tx := sput y.tx (reservedSlot v) (1, flipBits 64 ct) }

/-- VC1_BLOCK_SEND (R234, R426, R441, R442): the next reserved slot, counted from the port's enable, goes to a queued block, else to a timing
block; where there is none, or its lane is skipped, it passes. -/
def vc1SendOp (p : Nat) (s : Device) : Device :=
  if !(s.portUp p) then s
  else
    let x := s.link p
    let v := s.slotV p
    if s.flag F.lkPstatSkip p && s.fld F.lkPstatSkiplane p == v % 8 then s.putLink p { x with slot := v + 1 }
    else match x.vq, x.tq with
      | b :: t, _ => onlyIf (Vc1Block.type ⟨v, true, b⟩ == 3) (timingSent p b) (sendVc1 p v b (s.putLink p { x with vq := t }))
      | [], b :: t => timingSent p b (sendVc1 p v b (s.putLink p { x with tq := t }))
      | [], [] => s.putLink p { x with slot := v + 1 }

/-- A VC1 block waits for a reserved slot that comes in this cycle (R426). -/
def Device.vc1Due (s : Device) (p : Nat) : Bool :=
  s.portUp p && (!(s.link p).vq.isEmpty || !(s.link p).tq.isEmpty) && decide (reservedSlot (s.slotV p) < (s.sport p).slotNow + 13)

/-- A VC1 block failed its header or CHECK (R441): RETRY1 for its slot, at most eight in 4 µs, else it is lost. -/
def vc1Bad (p v : Nat) (s : Device) : Device :=
  let x := s.link p
  let live := x.retried.filter fun r => decide (s.cycle < r.2.1 + 2000)
  let n := match live.find? fun r => r.1 == v with | some r => r.2.2 | none => 0
  let s0 := blameLane p (v % 8) s
  if n < 8 then
    let first := match live.find? fun r => r.1 == v with | some r => r.2.1 | none => s.cycle
    (sendCtrl p (ctrlBlock 0x86 (v % 4096)) (s0.updLink p fun y => { y with
      retried := (live.filter fun r => r.1 != v) ++ [(v, first, n + 1)] })).setFlag F.lkPstatRetry p
  else
    ((((s0.updLink p fun y => { y with retried := live }).addFld F.lkV1lost 1 p).setFlag F.lkPstatV1lost p).presentNow (lkEvent 12))

/-- RETRY1_RX (R441): the block of the slot goes to the head of the queue, or is no longer kept. -/
def retry1RxOp (p v : Nat) (s : Device) : Device :=
  if !(s.portUp p) then s
  else
    let x := s.link p
    match x.kept.find? fun k => k.1 % 4096 == v && decide (s.slotV p ≤ k.1 + 256) with
    | some (_, b) => (s.putLink p { x with vq := b :: x.vq }).addFld F.lkV1retry 1 p
    | none =>
      if (s.slotV p + 4096 - 1 - v) % 4096 < 256 then s
      else ((s.addFld F.lkV1lost 1 p).setFlag F.lkPstatV1lost p).presentNow (lkEvent 12)

/-- The exchange of port p that is open ends, complete or dropped; the next one begins (R58, R443). -/
def nextExchange (p : Nat) (done : List (Int × Int)) (s : Device) : Device :=
  match sfind s.tb.check p with
  | none => s
  | some c =>
    let c1 : LinkCheck := { done := done, tried := if c.tried < 64 then c.tried + 1 else c.tried }
    let s1 := { s with tb := { s.tb with check := sput s.tb.check p c1 } }
    if c.tried < 64 then
      { s1 with tb := { s1.tb with check := sput s1.tb.check p { c1 with since := some s.cycle } } }.updLink p fun x =>
        { x with tq := x.tq ++ [timingBlock 0 c.tried 0] }
    else s1

/-- Complete the open exchange where all of it is known (R59, R443). -/
def exchangeDone (p : Nat) (s : Device) : Device :=
  match sfind s.tb.check p with
  | none => s
  | some c => match c.t1, c.t4, c.d, c.sum with
    | some t1, some t4, some d, some sum =>
      nextExchange p (c.done ++ [(toSigned 36 (ofSigned 36 (sum - (t1 + t4))), (t4 - t1) - d)]) s
    | _, _, _, _ => s

/-- A timing block with a valid CHECK (R443): a REQ is answered; the other three feed the exchange of their number. -/
def timingRx (p : Nat) (b : Vc1Block) (stamp : Nat) (s : Device) : Device :=
  let n := bitsOf b.bits 57 52
  let val : Int := bitsOf b.bits 51 16
  let s0 := actOn p b 0 s
  let feed (f : LinkCheck → LinkCheck) : Device :=
    match sfind s0.tb.check p with
    | some c => if c.tried = n + 1 ∧ c.t1.isSome then exchangeDone p { s0 with tb := { s0.tb with check := sput s0.tb.check p (f c) } } else s0
    | none => s0
  match bitsOf b.bits 59 58 with
  | 0 => s0.updLink p fun x => { x with answers := sput x.answers n stamp, tq := x.tq ++ [timingBlock 1 n 0] }
  | 1 => feed fun c => { c with t4 := some stamp }
  | 2 => feed fun c => { c with d := some val }
  | _ => feed fun c => { c with sum := some val }

/-- A VC1 block received on port p (R234 to R246, R267, R427, R441, R443), by its TYPE. -/
def vc1Rx (p : Nat) (b : Vc1Block) (stamp : Nat) (s : Device) : Device :=
  if !(s.portUp p) then s
  else if !(Vc1Block.good b) then vc1Bad p b.v s
  else match Vc1Block.type b with
    | 1 => decisionRx p b s
    | 2 => eventFrameRx p b s
    | 3 => timingRx p b stamp s
    | 4 => revokeRx p b s
    | _ => unknownBlock p b s

/-- A VC1 block as the port's keys of that direction decrypt it (R427, R493). -/
def Device.decrypted (s : Device) (p : Nat) (b : Vc1Block) : Vc1Block := { b with bits := b.bits ^^^ vc1Stream (s.link p).rxKeys b.v }

/-- A received VC1 block as the row of one TYPE: a block of another TYPE is not that row's; a TYPE that none of the rows has, and
a block that fails, may come as any. -/
def vc1Row (p want : Nat) (raw : Vc1Block) (stamp : Nat) (s : Device) : Device :=
  let b := s.decrypted p raw
  if Vc1Block.good b && [1, 2, 3, 4].contains (Vc1Block.type b) && Vc1Block.type b != want then s else vc1Rx p b stamp s

/-! ### Tags (R494, R495) -/

/-- VC1_TAG_FRAME_RX (R495): each tag is matched to the block acted on in its slot; a tag for another slot is discarded. -/
def tagFrameOp (p : Nat) (tags : List (Nat × Nat)) (s : Device) : Device :=
  if !(s.isPeer p) ∨ s.lstate p = 4 then s
  else
    let fits (t : Nat × Nat) : Bool := (s.link p).acted.all fun a => a.1 % 2 ^ 32 != t.1 || a.2.2.2 == t.2
    let s1 := forAllDo (tags.filter fits) (fun t u => tagPass p t.1 u) s
    if tags.any fun t => !(fits t) then tagFailure p s1 else s1

/-- A block acted on has no tag after 8,192 samples (R495). -/
def Device.tagLate (s : Device) (p : Nat) : Bool := (s.link p).acted.any fun a => decide (a.2.1 + 8192 ≤ s.ssi)

/-- TAG_TIMEOUT (R495). -/
def tagTimeoutOp (p : Nat) (s : Device) : Device := if s.tagLate p then tagFailure p s else s

/-! ### The link check (R58 to R61, R443) -/

/-- Start the exchanges of a link check that was asked for in this cycle (R58). -/
def checkBegin (s : Device) : Device :=
  forAllDo (s.tb.check.map Prod.fst) (fun p t =>
    match sfind t.tb.check p with
    | some c => if c.tried = 0 ∧ c.since.isNone then nextExchange p [] t else t
    | none => t) s

/-- The open exchange of port p is 10 µs old (R443). -/
def Device.exchangeLate (s : Device) (p : Nat) : Bool :=
  match sfind s.tb.check p with
  | some c => match c.since with
    | some x => decide (x + 5000 ≤ s.cycle)
    | none => false
  | none => false

/-- TIMING_EXCHANGE_TIMEOUT (R443). -/
def exchangeTimeoutOp (p : Nat) (s : Device) : Device :=
  if s.exchangeLate p then (match sfind s.tb.check p with | some c => nextExchange p c.done s | none => s) else s

/-- The link check is over: every port has had its 64 exchanges, or 100 µs have passed (R60). -/
def Device.checkOver (s : Device) : Bool :=
  match s.tb.checkAt with
  | some x => decide (x + 50000 ≤ s.cycle) || s.tb.check.all fun c => c.2.tried == 64 && c.2.since.isNone
  | none => false

/-- Twice the median of values, from their doubles: the mean of the middle two where their number is even. -/
def median2 (l : List Int) : Rat :=
  let t := sortBy (fun a b => decide (a ≤ b)) l
  let n := t.length
  if n % 2 = 1 then (t.getD (n / 2) 0 : Rat) else ((t.getD (n / 2 - 1) 0 + t.getD (n / 2) 0 : Int) : Rat) / 2

/-- The result of the link check on port p (R59 to R61). -/
def checkPort (p : Nat) (c : LinkCheck) (s : Device) : Device × Bool :=
  if c.done.length < 32 then ((s.setFld F.tbLstatMeasured 0 p).setFld F.tbLstatPass 0 p, false)
  else
    let theta := (median2 (c.done.map Prod.fst)) / 2
    let delay := (median2 (c.done.map Prod.snd)) / 2
    let ok := decide (-512 < theta) && decide (theta < 512)
    let s1 := (s.putReg .tbLofs (BitVec.ofInt 32 theta.floor) p).putReg .tbLdly (BitVec.ofInt 32 delay.floor) p
    ((s1.setFld F.tbLstatMeasured 1 p).setFld F.tbLstatPass (b2n ok) p, ok)

/-- LINK_CHECK_DONE (R60), while REG_STATE is ARMED too (DESIGN CHOICE, log entry 97). -/
def linkCheckDoneOp (s : Device) : Device :=
  if s.checkOver then
    let (s1, bad) := s.tb.check.foldl (fun (st : Device × List Nat) x =>
      let (t, ok) := checkPort x.1 x.2 st.1
      (t, if ok then st.2 else st.2 ++ [x.1])) (s, [])
    let s2 := forAllDo bad (fun p t => t.orFld F.tbStatusLinkbad (2 ^ p)) s1
    let s3 := (s2.setFld F.tbStatusRegState (if bad.isEmpty then 3 else 4)).presentNow (evCode 0 1 1)
    { s3 with tb := { s3.tb with check := [], checkAt := none } }
  else s

/-! ### Registers (R425, R434, R436) -/

/-- A write of LK_PCTL (R425, R434). -/
def lkPctlOp (p v : Nat) (s : Device) : CmdOut :=
  let role := b2n (bitOf v 0)
  if role ≠ s.fld F.lkPctlRole p ∧ s.flag F.lnPctlEn p then refuse s stBusy
  else
    let s1 := s.putReg .lkPctl (BitVec.ofNat 32 role) p
    done (if bitOf v 1 && s1.lstate p == 4 then linkFollow p (s1.setFld F.lkPstatLstate 0 p) else s1)

/-- A write of LK_DEVID (R436). -/
def devidOp (v : Nat) (s : Device) : CmdOut :=
  if (List.range 8).any fun p => s.flag F.lnPctlEn p then refuse s stBusy
  else done (s.putReg .lkDevid (BitVec.ofNat 32 (v % 2 ^ 14)))

/-- A write of LK_RTWAIT (R439). -/
def rtwaitOp (p v : Nat) (s : Device) : CmdOut :=
  if v % 65536 < 256 then refuse s stBadArg else done (s.putReg .lkRtwait (BitVec.ofNat 32 (v % 65536)) p)

/-- The links at the start of a cycle. -/
def linkLand (s : Device) : Device :=
  checkBegin (forAllDo (List.range 8) linkFollow s)

end Sys2Proof.Machine
end

