-- ==== Sys2Proof/Machine/Lanes.lean ====
section
/-! DEFINITION. The serial lanes and the ports they form (spec/14_lane_physical_layer.md): lane states, block errors,
placement, the equaliser search and the PRBS31 checker. -/

namespace Sys2Proof.Machine

/-- The port of a lane pair and its physical index there (R402). -/
def lanePort (n : Nat) : Nat := n / 9
def laneIdx (n : Nat) : Nat := n % 9

/-- LSTATE of a lane (R409): 0 OFF, 1 NOSIG, 2 SEARCH, 3 CDR, 4 HUNT, 5 LOCKED. -/
def Device.laneState (s : Device) (n : Nat) : Nat := s.fld F.lnStatLstate n

/-- PSTATE of a port (R413): 0 OFF, 1 DOWN, 2 ALIGNING, 3 UP, 4 DEGRADED. -/
def Device.pstate (s : Device) (p : Nat) : Nat := s.fld F.lnPstatPstate p

/-- The logical lanes of port p that are placed. -/
def Device.placedLanes (s : Device) (p : Nat) : List Nat := bitsSet 8 (s.fld F.lnPstatPlaced p)

/-- The physical index that receives logical lane j (LN_PMAP). -/
def Device.pmap (s : Device) (p j : Nat) : Nat := bitsOf (s.reg .lnPmap p).toNat (4 * j + 3) (4 * j)

/-- The logical lane that physical index k of port p carries, if it is placed. -/
def Device.carried (s : Device) (p k : Nat) : Option Nat := (s.placedLanes p).find? fun j => s.pmap p j == k

/-! ### Port states (R413) -/

/-- The port takes a state: its event and counts, the SPARE of a missing lane (R442), and what the link makes of it (R434). -/
def setPstate (p v : Nat) (s : Device) : Device :=
  let old := s.pstate p
  if old = v then s
  else
    let s1 := s.setFld F.lnPstatPstate v p
    let s2 := match v with
      | 1 => let t := s1.presentNow (lkEvent 3)
             if old = 3 ∨ old = 4 then t.addFld F.lnDowncnt 1 p else t
      | 3 => (s1.presentNow (lkEvent 1)).addFld F.lnUpcnt 1 p
      | 4 => s1.presentNow (lkEvent 2)
      | _ => s1
    let s3 := linkFollow p (if v < 3 then s2.updSport p fun x => { x with
      rxu := none, rxf := none, ext := if v < 2 then none else x.ext } else s2)
    if v = 4 then (match (List.range 8).find? fun j => !(bitOf (s3.fld F.lnPstatPlaced p) j) with
      | some j => startSpare p j s3
      | none => s3) else s3

/-- The state that the lanes placed give a working port (R413): it leaves UP or DEGRADED at once. -/
def followPlaced (p : Nat) (s : Device) : Device :=
  if s.pstate p = 3 ∨ s.pstate p = 4 then
    let n := (s.placedLanes p).length
    setPstate p (if n = 8 then 3 else if n = 7 then 4 else 1) s
  else s

/-- A lane is no longer placed. -/
def unplace (n : Nat) (s : Device) : Device :=
  match s.carried (lanePort n) (laneIdx n) with
  | some j => followPlaced (lanePort n) (s.setFld F.lnPstatPlaced (s.fld F.lnPstatPlaced (lanePort n) - 2 ^ j) (lanePort n))
  | none => s

/-- A lane takes a state (R409): an exit from LOCKED counts, and the lane is then no longer placed. -/
def setLane (n v : Nat) (s : Device) : Device :=
  let p := lanePort n
  let bit := 2 ^ laneIdx n
  let old := s.laneState n
  let mask := s.fld F.lnPstatLocked p
  let rest := if bitOf mask (laneIdx n) then mask - bit else mask
  let s1 := (s.setFld F.lnStatLstate v n).setFld F.lnPstatLocked (if v = 5 then rest + bit else rest) p
  if old = 5 ∧ v ≠ 5 then
    unplace n ((((s1.updSlane n fun x => { x with al := none, time := none, queue := [] }).addFld F.lnUnlockcnt 1 n).setFlag F.lnStatUnlocked n).presentNow (lkEvent 0))
  else s1

/-! ### Lane states (R409 to R411, R417) -/

/-- The lane enters SEARCH (R417). -/
def startSearch (n : Nat) (s : Device) : Device :=
  setLane n 2 ((s.updSlane n fun x => { x with best := 0, bestAt := 0, eqAt := s.cycle + 25000 }).setFld F.lnCtlCtle 0 n)

/-- SIGNAL_DETECT (R409). -/
def signalDetectOp (n : Nat) (s : Device) : Device :=
  if s.laneState n = 0 then s
  else
    let s1 := s.setFld F.lnStatSigdet 1 n
    if s.laneState n = 1 then
      (if s.flag F.lnPctlEqs (lanePort n) && !(s.slane n).searched then startSearch n s1 else setLane n 3 s1)
    else s1

/-- SIGNAL_LOSS (R409). -/
def signalLossOp (n : Nat) (s : Device) : Device :=
  if s.laneState n = 0 then s else setLane n 1 (s.setFld F.lnStatSigdet 0 n)

/-- The lane enters HUNT (R410). -/
def startHunt (n : Nat) (s : Device) : Device := setLane n 4 (s.updSlane n fun x => { x with hunt := 0 })

/-- CDR_LOCK (R409). Without a lane PLL no receiver locks, so no port comes up (R519). -/
def cdrLockOp (n : Nat) (s : Device) : Device :=
  if s.laneState n = 3 ∧ !(s.flag F.thStartLaneclk) then startHunt n s else s

/-- CDR_UNLOCK (R409). -/
def cdrUnlockOp (n : Nat) (s : Device) : Device :=
  if s.laneState n = 2 ∨ s.laneState n = 4 ∨ s.laneState n = 5 then setLane n 3 s else s

/-- EQ_SEARCH_STEP (R417): the margin of the value set is known after 50 µs; the sixteenth ends the search. -/
def eqStepOp (n margin : Nat) (s : Device) : Device :=
  let x := s.slane n
  if s.laneState n = 2 ∧ x.eqAt ≤ s.cycle then
    let code := s.fld F.lnCtlCtle n
    let m := min margin 255
    let y := if code = 0 ∨ x.best < m then { x with best := m, bestAt := code } else x
    if code < 15 then (s.updSlane n fun _ => { y with eqAt := x.eqAt + 25000 }).setFld F.lnCtlCtle (code + 1) n
    else
      let s1 := ((s.updSlane n fun _ => { y with searched := true }).setFld F.lnCtlCtle y.bestAt n).setFld F.lnEyeCode y.bestAt n
      setLane n 3 (s1.setFld F.lnEyeMargin y.best n)
  else s

/-- Count an error of the lane for the choice of R439. -/
def blame (n : Nat) (s : Device) : Device :=
  match s.carried (lanePort n) (laneIdx n) with
  | some j => blameLane (lanePort n) j s
  | none => s

/-- A received control block is invalid (R405, R432): its TYPE is not listed, or the CHECK of a link control block
fails. -/
def badControl (body : Nat) : Bool :=
  let t := body % 256
  if t = 0x4B ∨ t = 0x78 ∨ t = 0x80 then false
  else if 0x81 ≤ t ∧ t ≤ 0x86 then crc16 48 (body % 2 ^ 48) 0xFFFF != body / 2 ^ 48 % 65536
  else true

/-- One data bit at the PRBS31 checker (R420): the last 31 bits, the bits checked, and the errors. -/
def prbsBit (st : Nat × Nat × Nat) (b : Bool) : Nat × Nat × Nat :=
  let (h, n, e) := st
  let want := bitOf h 30 != bitOf h 27
  ((h * 2 + b2n b) % 2 ^ 31, n + 1, if 31 ≤ n && want != b then e + 1 else e)

/-- A data block at the PRBS31 checker (R420). -/
def prbsCheck (n body : Nat) (s : Device) : Device :=
  let x := s.slane n
  let (h, c, e) := ((List.range 64).map (bitOf body)).foldl prbsBit (x.prbs, x.seen, 0)
  let s1 := s.updSlane n fun y => { y with prbs := h, seen := c }
  if e = 0 then s1 else (s1.addFld F.lnPrbserr e n).setFlag F.lnStatPrbsErr n

/-- A block with a valid header received by a LOCKED lane (R405, R420, R432): raw is its payload as received, which the checker of the
unscrambled test pattern sees, and body its payload descrambled. -/
def lockedBlock (n hdr raw body : Nat) (s : Device) : Device :=
  if hdr = 2 then
    (if badControl body then blame n ((s.addFld F.lnBlkerr 1 n).setFlag F.lnStatBlkerr n) else s)
  else if s.fld F.lnCtlTestpat n = 1 then prbsCheck n raw s else s

/-! ### The stream received (R407, R412, R426 to R432) -/

/-- The fields of an ALIGN block (R406). -/
def alignLlane (b : AlignBlock) : Nat := bitsOf b.body 11 8
def alignPort (b : AlignBlock) : Nat := bitsOf b.body 14 12
def alignDevid (b : AlignBlock) : Nat := bitsOf b.body 29 16
def alignSeq (b : AlignBlock) : Nat := bitsOf b.body 47 32
def alignGood (b : AlignBlock) : Bool := crc16 48 (b.body % 2 ^ 48) 0xFFFF == bitsOf b.body 63 48

/-- The count of alignment times that an ALSEQ stands for: the one nearest to the latest known (R406). -/
def SPort.extend (x : SPort) (seq : Nat) : Nat :=
  match x.ext with
  | some e => ((e : Int) + toSigned 16 (seq + 65536 - e % 65536)).toNat
  | none => seq

/-- The happening that a VC1 block received in reserved slot v is, by its TYPE once decrypted (R231, R427, R441, R443). -/
def mailVc1 (p : Fin 8) (b : Vc1Block) (s : Device) : Device :=
  if b.hdrOk then
    match Vc1Block.type (s.decrypted p b) with
    | 2 => s.mail (.eventFrameRx p b)
    | 3 => let (t, s1) := landStamp s; s1.mail (.timingBlockRx p b t.toNat)
    | 4 => s.mail (.revokeFrameRx p b)
    | _ => s.mail (.decisionFrameRx p b)
  else s.mail (.decisionFrameRx p b)

/-- The happening that a link control block is (R432). -/
def controlRow (p : Fin 8) (body : Nat) : Option Instr :=
  match body % 256 with
  | 0x81 => some (.linkBlockRx p ⟨bitsOf body 19 8, bitsOf body 28 20, bitsOf body 37 29, bitsOf body 46 38⟩)
  | 0x82 => some (.retryRx p (bitsOf body 19 8))
  | 0x83 => some (.linitRx p ⟨bitsOf body 9 8, bitOf body 10, bitsOf body 19 12, bitsOf body 27 20, bitsOf body 35 28⟩)
  | 0x84 => some (.spareRx p (bitsOf body 11 8))
  | 0x85 => some (.resetBlockRx p)
  | 0x86 => some (.retry1Rx p (bitsOf body 19 8))
  | _ => none

/-- The frame under way is over: what came of it is a frame, which is bad unless its four data blocks came (R428, R429). Whether a signature
in it verifies is open. -/
def frameOver (p : Fin 8) (s : Device) : Device :=
  match (s.sport p).rxf with
  | some (h, bs) =>
    let (r, s1) := s.draw
    (s1.mail (.frameRx p ⟨h, bs, r % 2 == 1⟩)).updSport p fun x => { x with rxf := none }
  | none => s

/-- A data block of the frame under way, with whether its header was valid. -/
def frameBlock (p : Fin 8) (ok : Bool) (body : Nat) (s : Device) : Device :=
  match (s.sport p).rxf with
  | some (h, bs) =>
    let s1 := s.updSport p fun x => { x with rxf := some (h, bs ++ [(ok, body)]) }
    if bs.length = 3 then frameOver p s1 else s1
  | none => s

/-- A slot of the port stream as received: a block's header and payload, or lost (R407, R413, R426 to R432). IDLE and lost slots stand in no
frame. -/
def slotRx (p : Fin 8) (n : Nat) (blk : Option (Nat × Nat)) (s : Device) : Device :=
  if s.isPeer p && isReserved n then
    match blk with
    | some (1, b) => mailVc1 p ⟨n / 16, true, flipBits 64 b⟩ s
    | some (2, b) => if badControl b then mailVc1 p ⟨n / 16, false, 0⟩ s else s
    | _ => mailVc1 p ⟨n / 16, false, 0⟩ s
  else match blk with
    | none => s
    | some (1, b) => frameBlock p true b s
    | some (2, b) =>
      if badControl b then s
      else if b % 256 = 0x80 then (frameOver p s).updSport p fun x => { x with rxf := some (b, []) }
      else match controlRow p b with
        | some i => (frameOver p s).mail i
        | none => s
    | some (_, b) => frameBlock p false b s

/-- The lane that delivers logical lane j of port p. -/
def Device.laneOfLogical (s : Device) (p j : Nat) : Option Nat :=
  if bitOf (s.fld F.lnPstatPlaced p) j then some (9 * p + s.pmap p j) else none

/-- Deliver the eight slots of one block time after another while every placed lane has its block, or one is 32 blocks ahead; no block that
follows an alignment time passes before that time is judged (R407, R412). -/
def portTake (p : Fin 8) : Nat → Device → Device
  | 0, s => s
  | fuel + 1, s =>
    let x := s.sport p
    match x.last with
    | none => s
    | some (seq, _) =>
      if s.pstate p ≠ 3 ∧ s.pstate p ≠ 4 then s
      else
        let e := x.extend seq
        let u := x.rxu.getD (16383 * e)
        let left (n : Nat) : List (Nat × Nat × Nat × Nat) := (s.slane n).queue.filter fun b => decide (u ≤ b.1)
        let lanes := (s.placedLanes p).filterMap (s.laneOfLogical p)
        let ready := (lanes.all fun n => !(left n).isEmpty) || (lanes.any fun n => decide (32 < (left n).length))
        let firsts := lanes.filterMap fun n => (left n).head?.map Prod.fst
        if 16383 * (e + 1) ≤ u ∨ !ready then s
        else match firsts with
          | [] => s
          | a :: t =>
            let v := t.foldl min a
            if 16383 * (e + 1) ≤ v then s
            else
              let slot (j : Nat) : Option (Nat × Nat) :=
                ((s.laneOfLogical p j).bind fun n => (left n).find? fun b => b.1 == v && b.2.1 == j).map fun b => b.2.2
              let blocks := (List.range 8).map fun j => (8 * v + j, slot j)
              let s1 := (forAllDo (List.range 9) (fun k t => t.updSlane (9 * p + k) fun y => { y with
                queue := y.queue.filter fun b => decide (v < b.1) }) s).updSport p fun y => { y with rxu := some (v + 1) }
              portTake p fuel (forAllDo blocks (fun b t => slotRx p b.1 b.2 t) s1)

/-- A block in the stream of a LOCKED lane: an ALIGN tells the lane's place in time; the others wait in its deskew buffer for their slots
(R407, R412). A lane in the far-end loop delivers nothing, and neither does a test pattern (R419, R420). -/
def streamBlock (n hdr body : Nat) (s : Device) : Device :=
  let p := lanePort n
  let a : AlignBlock := ⟨body, 25 * s.cycle / 16⟩
  if s.fld F.lnCtlLoop n = 3 then s
  else if hdr = 2 ∧ body % 256 = 0x78 then
    let s1 := s.mail (.alignBlockRx (Fin.ofNat 72 n) a)
    if alignGood a then
      let e := (s.sport p).extend (alignSeq a)
      (s1.updSlane n fun y => { y with time := some (16384 * e + 1), carry := alignLlane a }).updSport p fun y => { y with ext := some e }
    else s1.updSlane n fun y => { y with time := y.time.map (· + 1) }
  else match (s.slane n).time with
    | none => s
    | some t =>
      let held := if t % 16384 = 0 ∨ s.fld F.lnCtlTestpat n = 1 then [] else [(t - t / 16384 - 1, (s.slane n).carry, hdr, body)]
      portTake (Fin.ofNat 8 p) 64 (s.updSlane n fun y => { y with
        time := some (t + 1), queue := (y.queue ++ held).drop (y.queue.length - 127) })

/-- A 66-bit block reaches the block lock logic of lane n (R404, R405, R410, R411, R420). -/
def blockIn (n hdr raw : Nat) (s0 : Device) : Device :=
  let ok := hdr == 1 || hdr == 2
  let body := descramble (s0.slane n).dscr raw
  let s := s0.updSlane n fun y => { y with dscr := lastBits 64 y.dscr raw, came := (hdr, raw) }
  let x := s.slane n
  if s.laneState n = 4 then
    if !ok then s.updSlane n fun y => { y with hunt := 0 }
    else if 96 ≤ x.hunt + 1 then
      setLane n 5 (s.updSlane n fun y => { y with hunt := 0, win := 0, bad := 0, al := none, prbs := 0, seen := 0 })
    else s.updSlane n fun y => { y with hunt := y.hunt + 1 }
  else if s.laneState n = 5 then
    let bad := x.bad + b2n !ok
    let s1 := if ok then s else blame n (s.addFld F.lnHdrerr 1 n)
    if 24 ≤ bad then startHunt n s1
    else
      let s2 := s1.updSlane n fun y => if y.win = 255 then { y with win := 0, bad := 0 } else { y with win := y.win + 1, bad := bad }
      streamBlock n hdr body (if ok then lockedBlock n hdr raw body s2 else s2)
  else s

/-- LANE_BLOCK_RX (R404, R405, R410, R411, R418 to R420): a lane in a near-end loop hears its own transmitter, not its land. -/
def laneBlockOp (n hdr raw : Nat) (s : Device) : Device :=
  let b := if s.flag F.lnCtlRxinv n then invertBlock (hdr, raw) else (hdr, raw)
  if s.fld F.lnCtlLoop n = 1 ∨ s.fld F.lnCtlLoop n = 2 ∨ s.laneState n = 0 then s else blockIn n b.1 b.2 s

/-- What a lane in a near-end loop hears of a block that it sends: past the levels in NES, before them in NEP (R418, R419). -/
def Device.heardBack (s : Device) (n : Nat) (b : Nat × Nat) : Nat × Nat :=
  if s.fld F.lnCtlLoop n = 1 ∧ s.flag F.lnCtlTxinv n ≠ s.flag F.lnCtlRxinv n then invertBlock b else b

/-- Port p sends the next block time; the lanes in a near-end loop hear it (R407, R419). -/
def portSend (p : Nat) (s : Device) : Device :=
  let sent := (List.range 9).map fun k => (s.sendPair p k).1
  forAllDo ((List.range 9).filter fun k => s.fld F.lnCtlLoop (9 * p + k) == 1 || s.fld F.lnCtlLoop (9 * p + k) == 2)
    (fun k t => let b := s.heardBack (9 * p + k) (sent.getD k (0, 0)); blockIn (9 * p + k) b.1 b.2 t) (sendBlockTime p s)

/-- The block times of a cycle on every port that is enabled (R407). -/
def portsSend (s : Device) : Device :=
  forAllDo ((List.range 8).filter fun p => s.flag F.lnPctlEn p) (fun p t =>
    forAllDo (List.range (t.blockTimes p - (t.sport p).time)) (fun _ u => portSend p u) t) s

/-! ### Alignment (R406, R407, R412 to R414) -/

/-- The lanes of port p that deliver to it: LOCKED and not in the far-end loop (R413, R419). -/
def Device.liveLanes (s : Device) (p : Nat) : List Nat :=
  (List.range 9).filter fun k => s.laneState (9 * p + k) == 5 && s.fld F.lnCtlLoop (9 * p + k) != 3

/-- The most frequent element of a list; the first on a tie. -/
def majority (l : List (Nat × Nat)) : Option (Nat × Nat) :=
  l.foldl (fun best x => match best with
    | none => some x
    | some b => if l.count b < l.count x then some x else some b) none

/-- The ALIGN of a lane for one alignment time, in line with the first arrival (R412). -/
def Device.alignOf (s : Device) (p k seq first : Nat) : Option AlignBlock :=
  match (s.slane (9 * p + k)).al with
  | some a => if alignSeq a = seq ∧ a.at_ ≤ first + 31 then some a else none
  | none => none

/-- Judge an alignment time of port p (R412 to R414): placement, deskew, the far end, and the port's state. -/
def judgeAlign (p seq first : Nat) (s : Device) : Device :=
  let ls := (s.liveLanes p).filterMap fun k => (s.alignOf p k seq first).map fun a => (k, a)
  match majority (ls.map fun x => (alignPort x.2, alignDevid x.2)) with
  | none => s
  | some m =>
    let good := ls.filter fun x => (alignPort x.2, alignDevid x.2) == m
    let place := (List.range 8).filterMap fun j => (good.find? fun x => alignLlane x.2 == j).map fun x => (j, x.1)
    let last := ls.foldl (fun a x => max a x.2.at_) 0
    let s1 := forAllDo ls (fun x t => t.putReg .lnDskw (BitVec.ofNat 32 (last - x.2.at_)) (9 * p + x.1)) s
    let pm := place.foldl (fun w (j, k) => putField w (4 * j + 3) (4 * j) k) (s1.reg .lnPmap p)
    let s2 := (((s1.putReg .lnPmap pm p).setFld F.lnPstatPlaced (place.foldl (fun a x => a + 2 ^ x.1) 0) p).putReg .lnPeer
      (BitVec.ofNat 32 (m.2 % 2 ^ 14 * 65536 + m.1 % 8 * 4096 + 1)) p).putReg .lnAlseq (BitVec.ofNat 32 (seq % 65536)) p
    let wrong := ls.any fun x => (alignPort x.2, alignDevid x.2) != m || (decide (8 ≤ alignLlane x.2) && decide (alignLlane x.2 ≤ 14))
    let s3 := if wrong ∧ (s2.sport p).wired ≠ some seq then
        ((s2.updSport p fun x => { x with wired := some seq }).setFlag F.lnPstatMiswire p).presentNow (lkEvent 4) else s2
    let s4 := s3.updSport p fun x => { x with judge := none, last := some (seq, first) }
    let s5 : Device := match (s4.link p).sparing with
      | some (j, o, _) => if place.any fun x => x.1 == j && some x.2 != o then s4.updLink p fun x => { x with sparing := none } else s4
      | none => s4
    let locked := ((s5.liveLanes p).filter fun k => s5.fld F.lnStatLlane (9 * p + k) != 15).length
    let n := place.length
    setPstate p (if n = 8 then 3 else if n = 7 then 4
      else if s5.pstate p ≠ 3 ∧ s5.pstate p ≠ 4 ∧ 7 ≤ locked then 2 else 1) s5

/-- A lane's ALIGN block came more than 31 blocks after the first of its alignment time (R412): one event for each such time. -/
def deskewFail (p seq : Nat) (s : Device) : Device :=
  if (s.sport p).skewed = some seq then s
  else ((s.updSport p fun x => { x with skewed := some seq }).setFlag F.lnPstatDeskewFail p).presentNow (lkEvent 5)

/-- ALIGN_BLOCK_RX (R412). -/
def alignBlockOp (n : Nat) (b : AlignBlock) (s : Device) : Device :=
  let p := lanePort n
  if s.laneState n ≠ 5 ∨ s.fld F.lnCtlLoop n = 3 then s
  else if !alignGood b then s.setFlag F.lnStatBadalign n
  else
    let s1 := (s.updSlane n fun x => { x with al := some b }).setFld F.lnStatLlane (alignLlane b) n
    match (s1.sport p).judge with
    | some (seq, first, _) =>
      if seq = alignSeq b then
        let s2 := if first + 31 < b.at_ then deskewFail p seq s1 else s1
        if (s2.liveLanes p).all fun k => match (s2.slane (9 * p + k)).al with | some a => alignSeq a == seq | none => false then
          judgeAlign p seq first s2
        else s2
      else
        (judgeAlign p seq first s1).updSport p fun x => { x with judge := some (alignSeq b, b.at_, s.cycle + 20) }
    | none =>
      match (s1.sport p).last with
      | some (seq, first) =>
        if seq = alignSeq b then
          (if first + 31 < b.at_ then deskewFail p seq s1 else judgeAlign p seq first s1)
        else s1.updSport p fun x => { x with judge := some (alignSeq b, b.at_, s.cycle + 20) }
      | none => s1.updSport p fun x => { x with judge := some (alignSeq b, b.at_, s.cycle + 20) }

/-- Alignment times that have waited for their last lane for 31 blocks are judged (R412). -/
def laneLand (s : Device) : Device :=
  forAllDo (List.range 8) (fun p t =>
    match (t.sport p).judge with
    | some (seq, first, at_) => if at_ ≤ t.cycle then judgeAlign p seq first t else t
    | none => t) (forAllDo (List.range 8) (fun p t => portTake (Fin.ofNat 8 p) 256 t) s)

/-- The port's next alignment time has come (R407): 16,384 block times are 10,485.76 cycles. -/
def Device.alignDue (s : Device) (p : Nat) : Bool :=
  s.flag F.lnPctlEn p && decide ((s.sport p).from_ + (s.sport p).sent * 1048576 / 100 ≤ s.cycle)

/-- ALIGN_TIME (R407, R442): ALIGN goes out on nine pairs, and a lane skipped moves to the spare; a port that waits is ALIGNING with
seven lanes locked and DOWN with fewer (R413). -/
def alignTimeOp (p : Nat) (s : Device) : Device :=
  if s.alignDue p then
    let s1 := spareMove p (s.updSport p fun x => { x with sent := x.sent + 1 })
    let locked := ((s1.liveLanes p).filter fun k => s1.fld F.lnStatLlane (9 * p + k) != 15).length
    if s1.pstate p = 1 ∧ 7 ≤ locked then setPstate p 2 s1 else if s1.pstate p = 2 ∧ locked < 7 then setPstate p 1 s1 else s1
  else s

/-! ### Registers (R408, R416) -/

/-- The port is enabled (R408): transmit and receive sides start. -/
def portEnable (p : Nat) (s : Device) : Device :=
  let s1 := forAllDo (List.range 9) (fun k t =>
    (setLane (9 * p + k) 1 { t with slanes := sdel t.slanes (9 * p + k) }).setFld F.lnStatLlane 14 (9 * p + k)) s
  let s2 := s1.updSport p fun _ =>
    { from_ := s.cycle, scr := (List.range 9).map fun k => scramblerSeed (9 * p + k), prbs := List.replicate 9 (2 ^ 31 - 1) }
  setPstate p 1 (s2.updLink p fun x => { x with slot := 0, kept := [], owed := [], retried := [], onSpare := none, sparing := none })

/-- The port is disabled (R408): electrical idle, receivers OFF. -/
def portDisable (p : Nat) (s : Device) : Device :=
  let s1 := setPstate p 0 (s.setFld F.lnPstatPlaced 0 p)
  let s2 := forAllDo (List.range 9) (fun k t => (setLane (9 * p + k) 0 t).setFld F.lnStatSigdet 0 (9 * p + k)) s1
  let s3 := s2.updLink p fun x => { x with sparing := none, onSpare := none }
  (s3.updSport p fun x => { x with judge := none, last := none, tx := [], line := [] }).setFld F.lkPstatSkip 0 p

/-- A write of LN_PCTL (R408, R417). -/
def lnPctlOp (p v : Nat) (s : Device) : CmdOut :=
  let was := s.flag F.lnPctlEn p
  let s1 := s.putReg .lnPctl (BitVec.ofNat 32 (v % 4)) p
  done (if bitOf v 0 && !was then portEnable p s1 else if !(bitOf v 0) && was then portDisable p s1 else s1)

/-- A write of LN_CTL (R416, R418 to R421). -/
def lnCtlOp (n v : Nat) (s : Device) : CmdOut :=
  let p := lanePort n
  if 2 ≤ bitsOf v 11 10 then refuse s stBadArg
  else if (s.pstate p = 3 ∨ s.pstate p = 4) ∧ (s.carried p (laneIdx n)).isSome then refuse s stBusy
  else
    let s1 := s.putReg .lnCtl (BitVec.ofNat 32 (v % 2 ^ 13)) n
    done (if bitsOf v 11 10 ≠ s.fld F.lnCtlTestpat n then s1.updSlane n fun x => { x with prbs := 0, seen := 0 } else s1)

end Sys2Proof.Machine
end

