-- ==== Sys2Proof/Machine/Curves.lean ====
section
/-! DEFINITION. The reference functions that the bench's curves name (R337, R338, R340): IEC 60751, IEC 60584 and log10. The
coefficients are those of the two standards, which the manual names and does not print (PRESUMED). -/

namespace Sys2Proof.Machine

/-! ### Inverses, exponential and logarithm -/

/-- The point lo + (k / 2^n) × (hi − lo) that f has reached at x, halved n times more from k at weight w. -/
def bisect (f : Rat → Rat) (x lo : Rat) : Nat → Rat → Rat
  | 0, _ => lo
  | n + 1, w => if f (lo + w / 2) ≤ x then bisect f x (lo + w / 2) n (w / 2) else bisect f x lo n (w / 2)

/-- The temperature in [lo, hi] at which a rising function gives x, to 2^-64 of the range, and whether x lies outside; outside,
the nearer end (R337). -/
def inverseIn (f : Rat → Rat) (lo hi x : Rat) : Rat × Bool :=
  if x < f lo then (lo, true) else if f hi < x then (hi, true) else if x = f hi then (hi, false) else (bisect f x lo 64 (hi - lo), false)

/-- A fixed-point number with 200 fraction bits. -/
def fix (q : Rat) : Int := (q * 2 ^ 200).floor

/-- The product of two fixed-point numbers. -/
def fixMul (a b : Int) : Int := a * b / 2 ^ 200

/-- The sum 1 + x (1 + x / 2 (1 + x / 3 (…))) of n terms, from the term after k on. -/
def expTerms (x : Int) : Nat → Nat → Int
  | 0, _ => 2 ^ 200
  | n + 1, k => 2 ^ 200 + fixMul x (expTerms x n (k + 1)) / (k + 1)

/-- A number multiplied by itself n times over. -/
def fixSquare : Nat → Int → Int
  | 0, x => x
  | n + 1, x => fixSquare n (fixMul x x)

/-- e to a power, to about 2^-180. -/
def ratExp (q : Rat) : Rat := (fixSquare 10 (expTerms (fix (q / 1024)) 40 0) : Rat) / 2 ^ 200

/-- The largest integer e with 10^e ≤ q, for q above 0, among the 700 around 0. -/
def log10Floor (q : Rat) : Int :=
  ((List.range 700).map fun k : Nat => Int.ofNat k - 350).foldl (fun r e => if pow10 e ≤ q then e else r) (-350)

/-- The fraction of log10 z in n bits, for z in [1, 10) with 600 fraction bits. -/
def log10Bits : Nat → Nat → Nat → Nat
  | 0, _, r => r
  | n + 1, z, r =>
    let y := z * z / 2 ^ 600
    if 10 * 2 ^ 600 ≤ y then log10Bits n (y / 10) (2 * r + 1) else log10Bits n y (2 * r)

/-- log10 of a number above 0 in binary64 (R340). -/
def log10 (q : Rat) : Rat :=
  let e := log10Floor q
  fl64 ((e : Rat) + (log10Bits 200 (q / pow10 e * 2 ^ 600).floor.toNat 0 : Rat) / 2 ^ 200)

/-! ### Platinum resistors (curves 1 and 2) -/

/-- The resistance over R0 at t °C (IEC 60751). -/
def platinum (t : Rat) : Rat :=
  let a : Rat := 39083 / 10 ^ 7
  let b : Rat := -5775 / 10 ^ 10
  let c : Rat := -4183 / 10 ^ 15
  if t < 0 then 1 + a * t + b * t ^ 2 + c * (t - 100) * t ^ 3 else 1 + a * t + b * t ^ 2

/-- The temperature in K of a resistance and whether it lies outside [73.15 K, 1,123.15 K], for curve 1 (R0 = 100 Ω) or 2
(R0 = 1,000 Ω) (R337). -/
def platinumT (curve : Nat) (ohms : Rat) : Rat × Bool :=
  let (t, o) := inverseIn platinum (-200) 850 (ohms / (if curve = 1 then 100 else 1000))
  (t + 27315 / 100, o)

/-! ### Thermocouples (curves 3 to 10: types E, J, K, N, R, S, T, B) -/

/-! The coefficients of IEC 60584, in mV per power of °C: mantissa and exponent of 10. -/

/-- Type E from -270 °C to 0 °C. -/
def emfE0 : List (Int × Int) :=
  [(0, 0), (58665508708, -12), (45410977124, -15), (-77998048686, -17), (-25800160843, -18), (-59452583057, -20),
   (-93214058667, -22), (-10287605534, -23), (-80370123621, -26), (-43979497391, -28), (-16414776355, -30),
   (-39673619516, -33), (-55827328721, -36), (-34657842013, -39)]

/-- Type E from 0 °C to 1000 °C. -/
def emfE1 : List (Int × Int) :=
  [(0, 0), (5866550871, -11), (45032275582, -15), (28908407212, -18), (-33056896652, -20), (6502440327, -22),
   (-19197495504, -26), (-12536600497, -28), (21489217569, -31), (-14388041782, -34), (35960899481, -38)]

/-- Type J from -210 °C to 760 °C. -/
def emfJ0 : List (Int × Int) :=
  [(0, 0), (50381187815, -12), (3047583693, -14), (-8568106572, -17), (13228195295, -20), (-17052958337, -23),
   (20948090697, -26), (-12538395336, -29), (15631725697, -33)]

/-- Type J from 760 °C to 1200 °C. -/
def emfJ1 : List (Int × Int) :=
  [(29645625681, -8), (-14976127786, -10), (31787103924, -13), (-31847686701, -16), (15720819004, -19), (-30691369056, -23)]

/-- Type K from -270 °C to 0 °C. -/
def emfK0 : List (Int × Int) :=
  [(0, 0), (39450128025, -12), (23622373598, -15), (-32858906784, -17), (-49904828777, -19), (-67509059173, -21),
   (-57410327428, -23), (-31088872894, -25), (-10451609365, -27), (-19889266878, -30), (-16322697486, -33)]

/-- Type K from 0 °C to 1372 °C. -/
def emfK1 : List (Int × Int) :=
  [(-17600413686, -12), (38921204975, -12), (18558770032, -15), (-99457592874, -18), (31840945719, -20), (-56072844889, -23),
   (56075059059, -26), (-32020720003, -29), (97151147152, -33), (-12104721275, -36)]

/-- Type N from -270 °C to 0 °C. -/
def emfN0 : List (Int × Int) :=
  [(0, 0), (26159105962, -12), (10957484228, -15), (-93841111554, -18), (-46412039759, -21), (-26303357716, -22),
   (-22653438003, -24), (-76089300791, -27), (-93419667835, -30)]

/-- Type N from 0 °C to 1300 °C. -/
def emfN1 : List (Int × Int) :=
  [(0, 0), (25929394601, -12), (1571014188, -14), (43825627237, -18), (-25261169794, -20), (64311819339, -23),
   (-10063471519, -25), (99745338992, -29), (-60863245607, -32), (20849229339, -35), (-30682196151, -39)]

/-- Type R from -50 °C to 1064.18 °C. -/
def emfR0 : List (Int × Int) :=
  [(0, 0), (528961729765, -14), (139166589782, -16), (-238855693017, -19), (356916001063, -22), (-462347666298, -25),
   (500777441034, -28), (-373105886191, -31), (157716482367, -34), (-281038625251, -38)]

/-- Type R from 1064.18 °C to 1664.5 °C. -/
def emfR1 : List (Int × Int) :=
  [(295157925316, -11), (-252061251332, -14), (159564501865, -16), (-764085947576, -20), (205305291024, -23),
   (-293359668173, -27)]

/-- Type R from 1664.5 °C to 1768.1 °C. -/
def emfR2 : List (Int × Int) :=
  [(152232118209, -9), (-268819888545, -12), (171280280471, -15), (-345895706453, -19), (-934633971046, -26)]

/-- Type S from -50 °C to 1064.18 °C. -/
def emfS0 : List (Int × Int) :=
  [(0, 0), (540313308631, -14), (12593428974, -15), (-232477968689, -19), (322028823036, -22), (-331465196389, -25),
   (255744251786, -28), (-125068871393, -31), (271443176145, -35)]

/-- Type S from 1064.18 °C to 1664.5 °C. -/
def emfS1 : List (Int × Int) :=
  [(132900444085, -11), (334509311344, -14), (654805192818, -17), (-164856259209, -20), (129989605174, -25)]

/-- Type S from 1664.5 °C to 1768.1 °C. -/
def emfS2 : List (Int × Int) :=
  [(146628232636, -9), (-258430516752, -12), (163693574641, -15), (-330439046987, -19), (-943223690612, -26)]

/-- Type T from -270 °C to 0 °C. -/
def emfT0 : List (Int × Int) :=
  [(0, 0), (38748106364, -12), (44194434347, -15), (11844323105, -17), (20032973554, -18), (90138019559, -20),
   (22651156593, -21), (36071154205, -23), (38493939883, -25), (28213521925, -27), (14251594779, -29), (48768662286, -32),
   (1079553927, -33), (13945027062, -37), (79795153927, -41)]

/-- Type T from 0 °C to 400 °C. -/
def emfT1 : List (Int × Int) :=
  [(0, 0), (38748106364, -12), (3329222788, -14), (20618243404, -17), (-21882256846, -19), (10996880928, -21),
   (-30815758772, -24), (4547913529, -26), (-27512901673, -30)]

/-- Type B from 0 °C to 630.615 °C. -/
def emfB0 : List (Int × Int) :=
  [(0, 0), (-24650818346, -14), (59040421171, -16), (-13257931636, -19), (15668291901, -22), (-1694452924, -24),
   (62990347094, -29)]

/-- Type B from 630.615 °C to 1820 °C. -/
def emfB1 : List (Int × Int) :=
  [(-38938168621, -10), (2857174747, -11), (-84885104785, -15), (15785280164, -17), (-16835344864, -20), (11109794013, -23),
   (-44515431033, -27), (98975640821, -31), (-93791330289, -35)]

/-- The pieces of a type's reference function: the end of each in °C, and its coefficients. -/
def emfPieces (curve : Nat) : List (Rat × List (Int × Int)) :=
  match curve with
  | 3 => [(0, emfE0), (1000, emfE1)]
  | 4 => [(760, emfJ0), (1200, emfJ1)]
  | 5 => [(0, emfK0), (1372, emfK1)]
  | 6 => [(0, emfN0), (1300, emfN1)]
  | 7 => [(53209 / 50, emfR0), (3329 / 2, emfR1), (17681 / 10, emfR2)]
  | 8 => [(53209 / 50, emfS0), (3329 / 2, emfS1), (17681 / 10, emfS2)]
  | 9 => [(0, emfT0), (400, emfT1)]
  | 10 => [(126123 / 200, emfB0), (1820, emfB1)]
  | _ => []

/-- The range of a type in °C. -/
def emfRange (curve : Nat) : Rat × Rat :=
  match curve with
  | 3 => (-270, 1000)
  | 4 => (-210, 1200)
  | 5 => (-270, 1372)
  | 6 => (-270, 1300)
  | 7 => (-50, 17681 / 10)
  | 8 => (-50, 17681 / 10)
  | 9 => (-270, 400)
  | 10 => (0, 1820)
  | _ => (0, 0)

/-- A polynomial at t. -/
def polyAt (t : Rat) : List (Int × Int) → Rat
  | [] => 0
  | (m, e) :: r => (m : Rat) * pow10 e + t * polyAt t r

/-- The piece that holds t; beyond the last, the last. -/
def pieceAt (t : Rat) : List (Rat × List (Int × Int)) → List (Int × Int)
  | [] => []
  | [(_, c)] => c
  | (hi, c) :: r => if t < hi then c else pieceAt t r

/-- The EMF in volts of a type at a temperature in K (IEC 60584); type K has an exponential term from 0 °C up. -/
def emf (curve : Nat) (kelvin : Rat) : Rat :=
  let t := kelvin - 27315 / 100
  let bump : Rat :=
    if curve = 5 ∧ 0 ≤ t then 1185976 / 10 ^ 7 * ratExp (-(1183432 / 10 ^ 10) * (t - 1269686 / 10 ^ 4) ^ 2) else 0
  (polyAt t (pieceAt t (emfPieces curve)) + bump) / 1000

/-- The temperature in K at which a type gives an EMF, and whether the EMF lies outside its range (R337, R338). -/
def emfT (curve : Nat) (volts : Rat) : Rat × Bool :=
  let r := emfRange curve
  inverseIn (emf curve) (r.1 + 27315 / 100) (r.2 + 27315 / 100) volts

end Sys2Proof.Machine
end

