-- ==== Sys2Proof/Machine/Bench.lean ====
section
/-! DEFINITION. The bench (spec/11_bench_channels.md): visits, conversions, the excitation monitor, passes, linearisation,
the ring, and its register writes. Bench ticks are the system indices that 1,600 divides. -/

namespace Sys2Proof.Machine

/-- A bench event (R347). -/
def bnEvent (n : Nat) : Nat := evCode 0 4 n

def Device.updBench (s : Device) (f : Bench → Bench) : Device := { s with bench := f s.bench }

/-- The first bench tick at or after x. -/
def tickAt (x : Nat) : Nat := 1600 * ceilDiv x 1600

/-- The first bench tick after x. -/
def tickAfter (x : Nat) : Nat := 1600 * (x / 1600 + 1)

/-- x lies in this fabric cycle or before. -/
def Device.reached (s : Device) (x : Nat) : Bool := decide (x < s.ssi + 32)

/-! ### The power-line cycle (R327) -/

/-- The PLC length that the next conversion start puts in use, in bench ticks. -/
def Device.plc (s : Device) : Nat :=
  match s.fld F.bnCtrlMains with
  | 0 => 200000
  | 1 => 166667
  | _ => if 16 ≤ s.bench.periods.length && !s.bench.lost then s.bench.periods.sum / 16 else 200000

/-- A period or a mean of periods lies within 40 Hz to 70 Hz. -/
def plcOk (n : Nat) : Bool := decide (142857 ≤ n) && decide (n ≤ 250000)

/-- MAINS_LOST is set at a bench tick. -/
def mainsLost (x : Nat) (s : Device) : Device :=
  ((s.updBench fun b => { b with lost := true, periods := [] }).setFlag F.bnStatusMainsLost).present (bnEvent 6) x

/-- A rising edge at MAINS_SENSE in a bench tick. Tracking that is lost counts valid periods, and starts again at the
sixteenth (R327). -/
def mainsEdgeOp (tick : Nat) (s : Device) : Device :=
  if s.fld F.bnCtrlMains ≠ 2 ∨ s.ssi + 32 ≤ 1600 * tick then s
  else
    match s.bench.lastEdge with
    | none => s.updBench fun b => { b with lastEdge := some tick }
    | some e =>
      if tick ≤ e then s
      else
        let p := tick - e
        let ps := if s.bench.lost && !(plcOk p) then s.bench.periods else (p :: s.bench.periods).take 16
        let s1 := s.updBench fun b => { b with
          lastEdge := some tick, periods := ps, lost := b.lost && decide (ps.length < 16) }
        if !s1.bench.lost && decide (ps.length = 16) && !(plcOk (ps.sum / 16)) then mainsLost (1600 * tick) s1 else s1

/-- The bench tick at which 50 ms have passed with no edge. -/
def Device.mainsDeadline (s : Device) : Nat :=
  (match s.bench.lastEdge with | some e => max (1600 * e) s.bench.trackFrom | none => s.bench.trackFrom) + 800000000

def Device.mainsLate (s : Device) : Bool :=
  s.fld F.bnCtrlMains == 2 && !s.bench.lost && s.reached s.mainsDeadline

def mainsTimeoutOp (s : Device) : Device := if s.mainsLate then mainsLost (tickAt s.mainsDeadline) s else s

/-! ### Fields of the point words -/

def convCurve (v : Nat) : Nat := bitsOf v 29 24
def convNplc (v : Nat) : Nat := bitsOf v 23 16
def convAvg (v : Nat) : Nat := bitsOf v 15 12
def convRange (v : Nat) : Nat := bitsOf v 9 8
def convSettle (v : Nat) : Nat := v % 32
def excKind (v : Nat) : Nat := bitsOf v 7 6
def excRev (v : Nat) : Bool := bitOf v 5
def excLevel (v : Nat) : Nat := bitsOf v 4 2
def excShunt (v : Nat) : Nat := v % 4

/-- The point number of a visit; 32 is added for a CJ visit that writes no entry (R338), and 64 stands for the Break and
Discharge that follow a cleared RUN (R335). -/
def Visit.point (v : Visit) : Nat := v.pt % 32
def Visit.closing (v : Visit) : Bool := v.pt == 64
def Visit.silent (v : Visit) : Bool := v.cal || decide (32 ≤ v.pt)

/-! ### Readings (R324, R330, R337 to R340, R343) -/

/-- The range of a RANGE code in volts. -/
def rangeVolts (r : Nat) : Rat := [12 / 1000, 120 / 1000, 12 / 10].getD r 0

/-- The voltage of a visit's sums (R330). -/
def Visit.volts (v : Visit) : Rat :=
  let a := convAvg v.conv
  let p := Int.fdiv v.sp (2 ^ a : Nat)
  let n := Int.fdiv v.sn (2 ^ a : Nat)
  let q := rangeVolts (convRange v.conv) / 2 ^ 27
  if excRev v.exc then ((p - n : Int) : Rat) / 2 * q else (p : Rat) * q

/-- The breakpoints of a user curve image (R339). -/
def curvePoints (img : List Byte) : List (Rat × Rat) :=
  (List.range (fieldB img 4 2)).map fun k =>
    ((decode64 (fieldB img (32 + 16 * k) 8)).getD 0, (decode64 (fieldB img (40 + 16 * k) 8)).getD 0)

/-- The temperature of a reading between two breakpoints, in binary64 (R340). -/
def interpolate64 (logs : Bool) (x : Rat) (a b : Rat × Rat) : Rat :=
  let f (y : Rat) : Rat := if logs then log10 y else y
  let u := f x
  let u0 := f a.1
  fl64 (a.2 + fl64 (fl64 (fl64 (b.2 - a.2) * fl64 (u - u0)) / fl64 (f b.1 - u0)))

/-- A user curve's temperature and whether the reading lies outside it (R337, R340). -/
def userCurve (logs : Bool) (x : Rat) : List (Rat × Rat) → Rat × Bool
  | [] => (0, true)
  | [a] => (a.2, decide (x ≠ a.1))
  | a :: b :: t => if x < a.1 then (a.2, true) else if x < b.1 then (interpolate64 logs x a b, false) else userCurve logs x (b :: t)

/-- The reported quantity of a reading in volts, its unit, and whether it lies outside its curve (R324, R337, R338). A
resistance with a converted voltage of 0 in VOLTAGE mode is a value the spec does not state. -/
def report (v : Visit) (volts : Rat) (s : Device) : (Rat × Nat × Bool) × Device :=
  if v.point = 20 then ((Config.coldJunction volts, 2, false), s)
  else
    let cal := s.calForce 10 0
    let l := excLevel v.exc
    let (x, s1) : Rat × Device :=
      if excKind v.exc = 0 then (volts, s)
      else if excKind v.exc = 1 then (volts / cal.getD l 1, s)
      else if volts = 0 then ((s.draw.1 : Rat), s.draw.2)
      else (cal.getD (7 + l) 1 * cal.getD (12 + excShunt v.exc) 1 / volts, s)
    let c := convCurve v.conv
    if c = 0 then ((x, if excKind v.exc = 0 then 0 else 1, false), s1)
    else if c ≤ 2 then
      let (t, o) := platinumT c x
      ((t, 2, o), s1)
    else if c ≤ 10 then
      let (t, o) := emfT c (x + emf c s.bench.cj)
      ((t, 2, o), s1)
    else
      let img := sget [] s.plate (256 + c)
      let (t, o) := userCurve (fieldB img 2 1 == 1) (fl64 x) (curvePoints img)
      ((t, 2, o), s1)

/-- VALUE and EXP of a quantity (R343). -/
def valueExp (q : Rat) : Int × Int :=
  let es : List Int := (List.range 41).map fun k : Nat => Int.ofNat k - 30
  match es.find? fun e => decide ((ratAway (q / pow10 e)).natAbs ≤ 2147483647) with
  | some e => let m := ratAway (q / pow10 e); if m = 0 then (0, 0) else (m, e)
  | none => (clampI (-2147483647) 2147483647 (ratAway (q / pow10 10)), 10)

/-! ### Entries (R342 to R346) -/

/-- The unit of a point's reported quantity. -/
def Visit.unit (v : Visit) : Nat :=
  if v.point = 20 ∨ convCurve v.conv ≠ 0 then 2 else if excKind v.exc = 0 then 0 else 1

/-- Form an entry with a STAMP of x; it is written in the next bench tick (R346). -/
def formEntry (v : Visit) (x : Nat) (value exp : Int) (unit flags : Nat) (temp : Option Nat) (s : Device) : Device :=
  if v.silent then s
  else s.updBench fun b => { b with
    lastStamp := some (1600 * (x / 1600))
    formed := b.formed ++ [⟨x + 1600, 1600 * (x / 1600), value, exp, v.point, unit, flags, temp⟩] }

/-- The flag CAL_EXTRAP of an entry (R344, R364). -/
def Device.extrapFlag (s : Device) : Nat := 128 * b2n s.benchExtrap

/-- Write a formed entry to the ring, or drop it, and deliver it to the ledgers that name its point (R315, R345,
R346). -/
def writeEntry (e : BnEntry) (s : Device) : Device :=
  let b := s.bench
  let wr := (s.reg .bnRingWr).toNat
  let s1 :=
    if (wr + 1) % 4096 = (s.reg .bnRingRd).toNat then
      (((s.addFld F.bnRingDrop 1).setFlag F.bnStatusRingDrop).present (bnEvent 5) e.stamp).updBench fun b => { b with
        dropped := true, seq := (b.seq + 1) % 256 }
    else
      let flags := e.flags + 64 * b2n b.dropped + 256 * b.seq
      let bytes := leBytes 8 e.stamp ++ leBytes 4 (ofSigned 32 e.value) ++ leBytes 1 (ofSigned 8 e.exp)
        ++ leBytes 1 (e.pt + 64 * e.unit) ++ leBytes 2 flags
      (((sramWritten 7 0 (wr / 2) 1 s).updBench fun b => { b with ring := sput b.ring wr bytes, dropped := false, seq := (b.seq + 1) % 256 }).putReg
        .bnRingWr (BitVec.ofNat 32 ((wr + 1) % 4096))).present (bnEvent 2) e.stamp
  let ovr := bitOf e.flags 3
  let s2 := s1.putReg .bnPtStat (BitVec.ofNat 32 (bitsOf e.flags 2 1 + 4 * b2n ovr)) e.pt
  let s3 := if ovr then (s2.setFlag F.bnStatusOvr).present (bnEvent 7) e.stamp else s2
  match e.temp with
  | none => s3
  | some t => forAllDo ((List.range 18).filter fun j => j != 16 && s3.fld F.budCfgSrc j == e.pt) (fun j u => measure j t u) s3

/-! ### Visits and passes (R325, R333 to R336) -/

/-- A visit to a point begins with Break at x. -/
def beginVisit (pt conv exc : Nat) (cal : Bool) (x : Nat) (s : Device) : Device :=
  ((s.updBench fun b => { b with
    phase := .brk, stop := x + 320000, visit := { pt := pt, conv := conv, exc := exc, cal := cal } }).setFld
    F.bnStatusActive 1).setFld F.bnStatusCur (pt % 32)

/-- The pass ends at x (R334): PASS_END, the gap opens, and the next pass follows in CONT mode or from a held start. -/
def endPass (x : Nat) (s : Device) : Device :=
  let b := s.bench
  let s1 := (s.addFld F.bnPasscnt 1).present (bnEvent 1) (b.lastStamp.getD b.passStart)
  let cont := !(s1.flag F.bnCtrlMode) && s1.flag F.bnCtrlRun
  let again := cont || b.held
  let s2 := if again then s1 else s1.setFld F.bnCtrlRun 0
  s2.updBench fun b => { b with
    inPass := false, held := false, gapOpen := true, next := x, want := if again then some x else b.want }

/-- The visit is over at x; the pass ends with its last one. -/
def afterVisit (x : Nat) (s : Device) : Device :=
  let cal := s.bench.visit.cal
  let s1 := (s.updBench fun b => { b with phase := .idle, next := x, gapOpen := b.gapOpen && !cal }).setFld F.bnStatusActive 0
  if !cal && s1.bench.inPass && s1.bench.points.isEmpty then endPass x s1 else s1

/-- The points of a pass in order, CJ first where a point uses a thermocouple curve (R334, R338). -/
def Device.passPoints (s : Device) : List Nat :=
  let mask := (s.reg .bnScanmask).toNat
  let ps := bitsSet 32 mask
  let tc := ps.any fun n => decide (3 ≤ s.fld F.bnPtConvCurve n) && decide (s.fld F.bnPtConvCurve n ≤ 10)
  if tc then (if bitOf mask 20 then 20 else 52) :: ps.filter (· != 20) else ps

/-- The next point of a pass, or a pass, may begin in this cycle; a wanted calibration visit goes first (R336). -/
def Device.breakDue (s : Device) : Bool :=
  let b := s.bench
  b.phase == .idle && s.reached b.next && !(b.gapOpen && s.benchWanted)
    && (if b.inPass then !b.points.isEmpty else match b.want with | some w => s.reached w | none => false)

/-- Begin the visit to the next point of the pass at x. -/
def nextPoint (x : Nat) (s : Device) : Device :=
  match s.bench.points with
  | [] => s
  | p :: rest =>
    beginVisit p (s.reg .bnPtConv (p % 32)).toNat (s.reg .bnPtExc (p % 32)).toNat false x
      (s.updBench fun b => { b with points := rest })

/-- BREAK: a visit begins, and with it a pass if none is under way; an empty pass ends at once (R325, R334). -/
def breakOp (s : Device) : Device :=
  if !s.breakDue then s
  else if s.bench.inPass then nextPoint s.bench.next s
  else
    let x := tickAt (max s.bench.next (s.bench.want.getD 0))
    let ps := s.passPoints
    let s1 := s.updBench fun b => { b with
      inPass := true, passStart := x, points := ps, lastStamp := none, want := none, gapOpen := false }
    if ps.isEmpty then endPass (x + 1600) s1 else nextPoint x (s1.present (bnEvent 0) x)

/-- A phase of the visit has run out in this cycle. -/
def Device.phaseOver (s : Device) (p : BnPhase) : Bool := s.bench.phase == p && s.reached s.bench.stop

/-- The next phase of the visit, n samples long. -/
def enterPhase (p : BnPhase) (n : Nat) (s : Device) : Device := s.updBench fun b => { b with phase := p, stop := b.stop + n }

/-- DISCHARGE (R325). -/
def dischargeOp (s : Device) : Device :=
  if s.phaseOver .brk then enterPhase .discharge (16000 * (s.reg .bnDisch).toNat) s else s

/-- A fault at x ends the visit; a calibration step that made the visit ends with no result (R333), and a transfer awaits its
failed result. -/
def benchFault (code x : Nat) (s : Device) : Device :=
  let v := s.bench.visit
  let s1 := formEntry v x 0 0 v.unit (2 * code + s.extrapFlag) none s
  let s2 := (s1.setFlag F.bnStatusExcFault).present (bnEvent 3) x
  let xfer := match sfind s2.cal.steps 8 with | some c => c.cls == 13 | none => false
  let s3 := if v.cal && !xfer then { s2 with cal := { s2.cal with steps := sdel s2.cal.steps 8 } } else s2
  afterVisit x s3

/-- LEAD_CHECK of a BX point (R325, R332); opens says that a lead is above 1 MΩ. -/
def leadCheckOp (opens : Bool) (s : Device) : Device :=
  if s.phaseOver .discharge && decide (s.bench.visit.pt < 16) then
    (if opens then benchFault 1 s.bench.stop s else enterPhase .leads 800000 s)
  else s

/-- MAKE: after the lead check, or at once after Discharge for an internal point (R325). -/
def Device.makeDue (s : Device) : Bool :=
  s.phaseOver .leads || (s.phaseOver .discharge && decide (16 ≤ s.bench.visit.pt) && !s.bench.visit.closing)

def makeOp (s : Device) : Device := if s.makeDue then enterPhase .make 320000 s else s

/-- The settle rule of the visit applies from x on (R328, R329). -/
def settleFrom (x : Nat) (neg : Bool) (s : Device) : Device :=
  s.updBench fun b => { b with visit := { b.visit with tExc := x, neg := neg, n := 0 } }

/-- EXCITATION_ON at the end of Make, and the modulator's warm-up (R325, R326). -/
def excitationOp (s : Device) : Device :=
  if s.phaseOver .make then
    let x := s.bench.stop
    enterPhase .warm 3200000 ((settleFrom x false s).updBench fun b => { b with visit := { b.visit with check := x + 1600000 } })
  else s

/-- A conversion starts at x with the PLC length then in use, which also gives the settle end it is judged by (R327,
R328). -/
def startConversion (x : Nat) (s : Device) : Device :=
  let n := s.plc * 1600
  s.updBench fun b => { b with
    phase := .conv, plcUse := s.plc
    visit := { b.visit with
      cs := x, ce := x + convNplc b.visit.conv * n, settle := b.visit.tExc + convSettle b.visit.conv * n } }

/-- WARM_UP_END (R326). -/
def warmUpOp (s : Device) : Device := if s.phaseOver .warm then startConversion s.bench.stop s else s

/-- The reading of the visit is complete at x (R324, R330, R337, R342). -/
def completeVisit (x : Nat) (s : Device) : Device :=
  let v := s.bench.visit
  if v.cal then afterVisit x s
  else
    let ((q, unit, out), s1) := report v v.volts s
    let (m, e) := valueExp q
    let flags := 8 * b2n v.ovr + 16 * b2n out + 32 * b2n (excRev v.exc) + s.extrapFlag
    let temp := if convCurve v.conv ≠ 0 then some (ratAway (q * 1000)).toNat else none
    let s2 := if v.point = 20 then s1.updBench fun b => { b with cj := q } else s1
    afterVisit x (formEntry v x m e unit flags temp s2)

/-- The code of a conversion, corrected by the bench calibration in force (R330): the zero, and the gain of the range. -/
def Device.benchCode (s : Device) (range : Nat) (code : Int) : Int :=
  let c := s.calForce 9 0
  Config.benchCorrect (c.getD 0 0) (c.getD (1 + range) 1) range code

/-- CONVERSION_END with the modulator's code (R328 to R330). -/
def conversionOp (code : Int) (s : Device) : Device :=
  let v := s.bench.visit
  if s.bench.phase ≠ .conv ∨ ¬ s.reached v.ce then s
  else if v.cs < v.settle then startConversion v.ce (s.addFld F.bnDiscard 1)
  else
    let n := s.benchCode (convRange v.conv) code
    let c := clampI (-147639500) 147639500 n
    let v1 := { v with
      n := v.n + 1, ovr := v.ovr || decide (c ≠ n)
      sp := if v.neg then v.sp else v.sp + c, sn := if v.neg then v.sn + c else v.sn }
    let s1 := s.updBench fun b => { b with visit := v1 }
    if v1.n < 2 ^ convAvg v.conv then startConversion v.ce s1
    else if excRev v.exc && !v.neg then startConversion v.ce (settleFrom v.ce true s1)
    else completeVisit v.ce s1

/-! ### The excitation monitor (R332, R333) -/

/-- What one check of the monitor finds: the FAULT code, 0 for none. The operands are in volts and amperes. -/
def monitorFault (exc : Nat) (vsrc imon vsense : Rat) : Nat :=
  let cur := pow10 (Int.ofNat (excLevel exc) - 9)
  let vol := pow10 (Int.ofNat (excLevel exc) - 5)
  let a (x : Rat) : Rat := if x < 0 then -x else x
  match excKind exc with
  | 1 =>
    if a imon < cur / 2 then 1
    else if 4 ≤ excLevel exc ∧ a vsrc < cur then 2
    else if 4 ≤ a vsrc then 3
    else 0
  | 2 =>
    if 1 / 1000 ≤ a imon ∧ a vsense < vol / 2 then 2
    else if 4 ≤ a vsrc ∨ 1 / 1000 ≤ a imon then 3
    else 0
  | _ => 0

/-- EXC_MONITOR_CHECK: the second consecutive failing check declares the fault. -/
def monitorCheckOp (vsrc imon vsense : Rat) (s : Device) : Device :=
  let v := s.bench.visit
  let on := s.bench.phase == .warm || s.bench.phase == .conv
  if !on || !(s.reached v.check) then s
  else
    let f := monitorFault v.exc vsrc imon vsense
    if f ≠ 0 ∧ v.failed then benchFault f v.check s
    else s.updBench fun b => { b with visit := { v with check := v.check + 1600000, failed := decide (f ≠ 0) } }

/-! ### Calibration visits (R336) -/

/-- A calibration visit may begin in this cycle: the engine has one to make in the gap. -/
def Device.calVisitDue (s : Device) : Bool :=
  s.bench.gapOpen && s.bench.phase == .idle && !s.bench.inPass && s.reached s.bench.next
    && s.flag F.bnCtrlCalslotEn
    && (match sfind s.cal.steps 8 with | some c => !c.visits.isEmpty | none => false)

/-- BENCH_CAL_VISIT (R336). -/
def calVisitOp (s : Device) : Device :=
  if !s.calVisitDue then s
  else
    match sfind s.cal.steps 8 with
    | some c =>
      match c.visits with
      | (p, conv, exc) :: rest =>
        beginVisit p conv exc true (tickAt s.bench.next)
          { s with cal := { s.cal with steps := sput s.cal.steps 8 { c with visits := rest } } }
      | [] => s
    | none => s

/-! ### What happens at a bench tick (R331, R334, R335) -/

/-- An excitation write lands at tick x (R331). -/
def excLand (n x : Nat) (s : Device) : Device :=
  let b := s.bench
  let v := b.visit
  if b.phase = .idle ∨ v.point ≠ n ∨ v.cal ∨ v.closing then s
  else
    let exc := (s.reg .bnPtExc n).toNat
    let s1 := if b.phase = .conv then formEntry v x 0 0 v.unit (1 + s.extrapFlag) none s else s
    let dropped := if v.neg then 2 ^ convAvg v.conv + v.n else v.n
    let s2 := (s1.addFld F.bnDiscard dropped).updBench fun b => { b with
      visit := { b.visit with exc := exc, sp := 0, sn := 0, n := 0, ovr := false } }
    let s3 := if b.phase = .warm ∨ b.phase = .conv then settleFrom x false s2 else s2
    let s4 := if b.phase = .conv then startConversion x s3 else s3
    (s4.setFlag F.bnStatusSettleAbort).present (bnEvent 4) x

/-- A cleared RUN ends the pass at tick x: no entry, and Break and Discharge follow (R335). -/
def runClearLand (x : Nat) (s : Device) : Device :=
  let b := s.bench
  let s1 := if b.inPass then s.present (bnEvent 1) (b.lastStamp.getD b.passStart) else s
  let s2 :=
    match b.visit.cal && b.phase != .idle, sfind s1.cal.steps 8 with
    | true, some c =>
      { s1 with cal := { s1.cal with steps := sput s1.cal.steps 8 { c with
        visits := (b.visit.pt, b.visit.conv, b.visit.exc) :: c.visits } } }
    | _, _ => s1
  (s2.updBench fun b => { b with
    phase := .brk, stop := x + 320000, visit := { pt := 64 }, points := [], inPass := false, ending := none, gapOpen := false }).setFld
    F.bnStatusActive 0

/-- The bench at the start of a fabric cycle: writes that land at a bench tick, the end of a closing Discharge, and the
entries complete. -/
def benchLand (s : Device) : Device :=
  let s1 := match s.bench.ending with
    | some x => if s.reached x then runClearLand x s else s
    | none => s
  let due := (s1.bench.excAt.filter fun e => s1.reached e.1).eraseDups
  let s2 := s1.updBench fun b => { b with excAt := b.excAt.filter fun e => !(s1.reached e.1) }
  let s3 := forAllDo due (fun e t => excLand e.2 e.1 t) s2
  let s4 := if s3.phaseOver .discharge && s3.bench.visit.closing then
      s3.updBench fun b => { b with phase := .idle, next := b.stop }
    else s3
  let es := s4.bench.formed.filter fun e => s4.reached e.at_
  forAllDo es writeEntry (s4.updBench fun b => { b with formed := b.formed.filter fun e => !(s4.reached e.at_) })

/-! ### Register writes (R322, R323, R328, R331, R334, R335, R337, R348) -/

/-- A start of a pass stamped e (R67, R277, R334): it begins a pass at the first bench tick at or after e, is held, or is
ignored. -/
def benchStart (e : Nat) (s : Device) : Device :=
  if s.bench.ending.isNone && (s.bench.inPass || s.bench.want.isSome) then
    (if s.flag F.bnCtrlMode then s.updBench fun b => { b with held := true } else s)
  else s.updBench fun b => { b with want := some (tickAt e) }

/-- A write of BN_CTRL (R327, R334, R335). -/
def benchCtrlOp (v : Nat) (s : Device) : CmdOut :=
  let mains := bitsOf v 17 16
  let was := s.flag F.bnCtrlRun
  if mains = 3 then refuse s stBadArg
  else
    let s1 := s.putReg .bnCtrl (BitVec.ofNat 32 v &&& 0x000BFF07)
    let s2 := if mains = 2 ∧ s.fld F.bnCtrlMains ≠ 2 then
        s1.updBench fun b => { b with periods := [], lastEdge := none, lost := false, trackFrom := s.ssi }
      else s1
    if bitOf v 0 then done (if was && s2.bench.ending.isNone then (if bitOf v 1 then benchStart s.ssi s2 else s2)
      else benchStart s.ssi s2)
    else if was then done (s2.updBench fun b => { b with ending := some (tickAfter s.ssi), held := false, want := none })
    else done s2

/-- An activation of channel c with stamp e starts a pass where START_EC names it (R334). -/
def benchStartEvent (c e : Nat) (s : Device) : Device :=
  if s.fldF F.bnCtrlStartEn != 0 && s.fldF F.bnCtrlStartEc == c && !(s.ev.cut.contains (RegName.addr .bnCtrl)) then
    (if s.flag F.bnCtrlRun && !(s.flag F.bnCtrlMode) then s else benchStart e (s.setFld F.bnCtrlRun 1))
  else s

/-- The excitation that a curve asks for (R337, R340). -/
def Device.curvePairs (s : Device) (curve kind : Nat) : Bool :=
  if curve = 0 then true
  else if curve ≤ 2 then kind == 1
  else if curve ≤ 10 then kind == 0
  else if fieldB (sget [] s.plate (256 + curve)) 1 1 = 1 then kind == 1 || kind == 2
  else kind == 0

/-- Point n is the source of a stage ledger SEALED to another session (R348). -/
def Device.pointAway (s : Device) (t n : Nat) : Bool :=
  decide (n < 16) && (List.range 16).any fun j => s.fld F.budCfgSrc j == n && s.ledAway j t

/-- A write of BN_PTn_EXC by session t (R10, R322, R323, R348). -/
def bnExcOp (t n v : Nat) (s : Device) : CmdOut :=
  let k := excKind v
  let bad := k == 3 || (k == 1 && excLevel v == 7) || (k == 2 && decide (5 ≤ excLevel v)) || excShunt v == 3
    || (decide (16 ≤ n) && k != 0 && !(n == 19 && k == 1)) || !(s.curvePairs (s.fld F.bnPtConvCurve n) k)
  if bad then refuse s stBadArg
  else if s.pointAway t n then refuse s stNotOwner
  else done ((s.putReg .bnPtExc (BitVec.ofNat 32 (v % 256)) n).updBench fun b => { b with
    excAt := b.excAt ++ [(tickAfter s.ssi, n)] })

/-- A write of BN_PTn_CONV by session t. -/
def bnConvOp (t n v : Nat) (s : Device) : CmdOut :=
  let c := convCurve v
  let bad := convNplc v == 0 || decide (8 < convAvg v) || convRange v == 3 || decide (convSettle v < 3)
    || (decide (11 ≤ c) && (decide (c < 32) || (sfind s.plate (256 + c)).isNone))
    || (decide (16 ≤ n) && c != 0) || !(s.curvePairs c (s.fld F.bnPtExcExc n))
  if bad then refuse s stBadArg
  else if s.pointAway t n then refuse s stNotOwner
  else done (s.putReg .bnPtConv (BitVec.ofNat 32 v &&& 0x3FFFF31F) n)

/-- A write of BN_SENSE by session t (R348). -/
def bnSenseOp (t v : Nat) (s : Device) : CmdOut :=
  if s.seqAway (v % 512) t then refuse s stNotOwner else done (s.putReg .bnSense (BitVec.ofNat 32 (v % 512)))

/-- A write of BN_DISCH. -/
def bnDischOp (v : Nat) (s : Device) : CmdOut :=
  let x := v % 2 ^ 14
  if x < 100 ∨ 10000 < x then refuse s stBadArg else done (s.putReg .bnDisch (BitVec.ofNat 32 x))

/-! ### A new registration -/

/-- An index moved by d samples. -/
def moved (d : Int) (x : Nat) : Nat := ((x : Int) + d).toNat

/-- The bench and the calibration slots keep their place in local time when W changes by d samples (R53): what they do
at an index ahead moves with it. -/
def benchShift (d : Int) (s : Device) : Device :=
  let m := moved d
  let b := s.bench
  let v := b.visit
  { s with
    bench := { b with
      stop := m b.stop, next := m b.next, want := b.want.map m, ending := b.ending.map m, trackFrom := s.ssi, lastEdge := none
      visit := { v with tExc := m v.tExc, settle := m v.settle, cs := m v.cs, ce := m v.ce, check := m v.check }
      excAt := b.excAt.map fun e => (m e.1, e.2)
      formed := b.formed.map fun e => { e with at_ := m e.at_ } }
    offers := s.offers.map fun o => { o with lo := m o.lo, hi := m o.hi, next := m o.next, cut := o.cut.map m }
    cal := { s.cal with steps := s.cal.steps.map fun x => (x.1, { x.2 with start := m x.2.start, stop := m x.2.stop }) } }

/-! ### Bench commands (R341) -/

/-- The read of an entry of the bench ring: one whose word is uncorrectable is delivered as read, with a notice that names its SEQ
(R374). -/
def ringEntryRead (x : Nat) (s : Device) : Device :=
  let (bad, s1) := sramAccess 7 0 (x / 2) s
  if bad then dataUe 7 0 0 (fieldB (sget (zeros 16) s.bench.ring x) 15 1) s1 else s1

/-- BENCH_RING_READ: up to n entries from BN_RING_RD on. -/
def benchRingReadOp (n : Nat) (s : Device) : CmdOut :=
  if n = 0 ∨ 4096 < n then refuse s stBadArg 0
  else
    let rd := (s.reg .bnRingRd).toNat
    let have_ := ((s.reg .bnRingWr).toNat + 4096 - rd) % 4096
    let k := min n have_
    let data := (List.range k).flatMap fun j => sget (zeros 16) s.bench.ring ((rd + j) % 4096)
    done ((forAllDo (List.range k) (fun j => ringEntryRead ((rd + j) % 4096)) s).putReg .bnRingRd (BitVec.ofNat 32 ((rd + k) % 4096))) data

/-- The first breakpoint that breaks R339, by the offset of its field; last is the abscissa before it. -/
def breakpointFault (logs : Bool) : Option Rat → Nat → List (Option Rat × Option Rat) → Option Nat
  | _, _, [] => none
  | last, o, (u, t) :: rest =>
    match u, t with
    | none, _ => some o
    | some u, t =>
      if (logs && !(decide (0 < u))) || (match last with | some l => decide (u ≤ l) | none => false) then some o
      else
        match t with
        | none => some (o + 8)
        | some t => if decide (0 < t) && decide (t < 2000) then breakpointFault logs (some u) (o + 16) rest else some (o + 8)

/-- The offset of the first field of a curve image that breaks R339. -/
def curveFault (img : List Byte) : Option Nat :=
  let n := fieldB img 4 2
  let c := fieldB img 0 1
  let pts := (List.range n).map fun k => (decode64 (fieldB img (32 + 16 * k) 8), decode64 (fieldB img (40 + 16 * k) 8))
  if c < 32 ∨ 63 < c then some 0
  else if 1 < fieldB img 1 1 then some 1
  else if 1 < fieldB img 2 1 then some 2
  else if fieldB img 3 1 ≠ 0 then some 3
  else if n < 2 ∨ 256 < n then some 4
  else if fieldB img 6 2 ≠ 0 then some 6
  else
    match (sliceB img 8 16).zipIdx.find? fun x => decide (128 ≤ x.1.toNat) with
    | some x => some (8 + x.2)
    | none => if fieldB img 28 4 ≠ 0 then some 28 else breakpointFault (fieldB img 2 1 == 1) none 32 pts

/-- A point of the current mask uses curve c while RUN is set (R341). -/
def Device.curveBusy (s : Device) (c : Nat) : Bool :=
  s.flag F.bnCtrlRun && (bitsSet 32 (s.reg .bnScanmask).toNat).any fun n => s.fld F.bnPtConvCurve n == c

end Sys2Proof.Machine
end

