-- ==== Sys2Proof/Machine/Cal.lean ====
section
/-! DEFINITION. The calibration engine (spec/12_calibration.md): steps, results, sets, commits, and its registers and
commands. -/

namespace Sys2Proof.Machine

/-! ### Temperature, sets and the values in force (R362 to R364) -/

/-- The temperature of a location in mK: converter dies 0 to 7, 8 the bench (R363, R528). -/
def Device.calTemp (s : Device) (d : Nat) : Nat := if d < 8 then s.fld F.thDietT 0 d else s.th.benchT

/-- The location of a class's instance: the converter dies hold the ports, their bias DACs and the inputs (R363). -/
def calLoc (cls inst : Nat) : Nat := if cls < 6 then inst / 64 else if 6 ≤ cls ∧ cls ≤ 8 then inst / 8 else 8

/-- The sets held, in rising temperature: (temperature, set). -/
def Device.calSets (s : Device) : List (Nat × Nat) :=
  sortBy (fun a b => decide (a.1 ≤ b.1))
    (((List.range 8).map fun n => ((s.reg .calTpoint 0 n).toNat, n)).filter fun x => x.1 != 0)

/-- The neighbouring pair of a sorted list that holds T. -/
def bracket (t : Nat) : List (Nat × Nat) → Option ((Nat × Nat) × (Nat × Nat))
  | a :: b :: r => if a.1 ≤ t ∧ t ≤ b.1 then some (a, b) else bracket t (b :: r)
  | _ => none

/-- The sets that a temperature falls between, the nearest alone outside the covered range, and whether it lies outside
(R360, R363). -/
def Device.setsAt (s : Device) (t : Nat) : List (Nat × Nat) × Bool :=
  let l := s.calSets
  match bracket t l with
  | some (a, b) => ([a, b], false)
  | none => (if t < (l.headD (0, 0)).1 then l.take 1 else l.reverse.take 1, true)

/-- A coefficient as it is kept, halves away from zero: an integer in classes 0 to 8, a binary64 number in the others (R363, R365). -/
def calRound (cls : Nat) (q : Rat) : Rat := if cls < 9 then (ratAway q : Rat) else fl64Away q

/-- The coefficients of an instance at temperature T (R363). -/
def Device.calAt (s : Device) (cls inst t : Nat) : List Rat :=
  match (s.setsAt t).1 with
  | [(ta, a), (tb, b)] =>
    let ca := s.calCoef a cls inst
    let cb := s.calCoef b cls inst
    ca.zipWith (fun x y => calRound cls (x + (y - x) * ((t - ta : Nat) : Rat) / ((tb - ta : Nat) : Rat))) cb
  | (_, a) :: _ => s.calCoef a cls inst
  | [] => s.calForce cls inst

/-- Put coefficients in force (R159, R178, R162): the registers that show them, a skew staged for the next strobe. -/
def putForce (cls inst : Nat) (c : List Rat) (s0 : Device) : Device :=
  if s0.calForce cls inst = c then s0
  else
    let s := { s0 with cal := { s0.cal with force := sput s0.cal.force (calKey cls inst) c } }
    let v := ratAway (c.getD 0 0)
    match cls with
    | 0 => s.putReg .opCofs (BitVec.ofNat 32 (ofSigned 16 v)) inst
    | 1 => s.putReg .opCgain (BitVec.ofNat 32 (ofSigned 18 v)) inst
    | 2 => s.putReg .opCimg (BitVec.ofNat 32 (ofSigned 16 v)) inst
    | 3 => stage inst s.ssi 4 (ofSigned 14 v) (s.putReg .opSkew (BitVec.ofNat 32 (ofSigned 14 v)) inst)
    | 4 => forAllDo (List.range 11) (fun k t =>
        { t with pfs := sput t.pfs (16 * inst + 4 * (1 + k / 4) + k % 4) (ratAway (c.getD k 0)).toNat }) s
    | 8 => s.putReg .ipSkew (BitVec.ofNat 32 (ofSigned 14 v)) inst
    | _ => s

/-- The instances of a location. -/
def calItems (d : Nat) : List (Nat × Nat) :=
  if d < 8 then
    ((List.range 6).flatMap fun c => (List.range 64).map fun p => (c, 64 * d + p))
      ++ (List.range 3).flatMap fun c => (List.range 8).map fun i => (6 + c, 8 * d + i)
  else (List.range 4).map fun c => (9 + c, 0)

/-- The CAL_XMASK bits of a location: (word, bit). -/
def xmaskBits (d : Nat) : List (Nat × Nat) :=
  if d < 8 then ((List.range 64).map fun p => (2 * d + p / 32, p % 32)) ++ (List.range 8).map fun i => (16 + d / 4, d % 4 * 8 + i)
  else [(18, 0)]

/-- Set or clear the extrapolation bits of a location; each bit that sets produces EXTRAP (R364). -/
def putExtrap (d : Nat) (on : Bool) (s : Device) : Device :=
  let s1 := forAllDo (xmaskBits d) (fun x t =>
    let old := bitOf (t.reg .calXmask 0 x.1).toNat x.2
    if old = on then t
    else
      let v := (t.reg .calXmask 0 x.1).toNat
      let t1 := t.putReg .calXmask (BitVec.ofNat 32 (if on then v + 2 ^ x.2 else v - 2 ^ x.2)) 0 x.1
      if on then t1.presentNow (calEvent 3) else t1) s
  if d < 8 then forAllDo (List.range 8) (fun i t => t.updInput (8 * d + i) fun x => { x with extrap := on }) s1 else s1

/-- Compute every coefficient of a location anew; a blind die stays extrapolated (R363, R529). -/
def recompute (d : Nat) (s : Device) : Device :=
  let t := s.calTemp d
  let blind := decide (d < 8) && s.flag F.thDietBlind 0 d
  let s1 := { s with cal := { s.cal with tLast := sput s.cal.tLast d t } }
  putExtrap d ((s1.setsAt t).2 || blind) (forAllDo (calItems d) (fun x u => putForce x.1 x.2 (u.calAt x.1 x.2 t) u) s1)

/-- The temperature of a location lies 250 mK or more from the one of its last computation (R363). -/
def Device.calMoved (s : Device) (d : Nat) : Bool :=
  match sfind s.cal.tLast d with
  | some x => decide (250 ≤ ((x : Int) - s.calTemp d).natAbs)
  | none => true

/-- Temperatures were read: a location that moved is computed anew (R363), and one that is blind is extrapolated (R529). -/
def calTemperatures (s : Device) : Device :=
  forAllDo (List.range 9) (fun d t =>
    if t.calMoved d then recompute d t
    else if d < 8 ∧ t.flag F.thDietBlind 0 d then putExtrap d true t
    else t) s

/-- Recompute the coefficients of every location after a set changed (R363). -/
def recomputeAll (s : Device) : Device := forAllDo (List.range 9) recompute s

/-! ### Commits (R365, R366, R505) -/

/-- A plate-store write may begin (R531). -/
def Device.plateOk (s : Device) : Bool := s.flag F.thStatusPlateOk

/-- Commit set n: image, seal and COMMIT event. -/
def commitSet (n : Nat) (s : Device) : Device :=
  let ser := sget 0 s.cal.ser n + 1
  let img := setImage n (b2n (bitOf (s.reg .calProv).toNat n)) (s.reg .calTpoint 0 n).toNat ser s.deviceTime s.cal.refv
    s.cal.refvU (s.calCoef n)
  let s1 := plateWrite n 0 n img s
  ({ s1 with cal := { s1.cal with ser := sput s1.cal.ser n ser, changed := s1.cal.changed.filter (· != n) } }).presentNow (calEvent 4)

/-- Commit changed sets, or set COMMIT_PENDING outside the write window (R366). -/
def commitSets (ns : List Nat) (s : Device) : Device :=
  if ns.isEmpty then s
  else if s.plateOk then
    let s1 := forAllDo ns commitSet s
    if s1.cal.changed.isEmpty then s1.setFld F.calStatusCommitPending 0 else s1
  else (s.setFld F.calStatusCommitPending 1).presentNow (calEvent 5)

/-- A CAL_COMMITPER period has passed (500,000,000 cycles a second). -/
def Device.commitDue (s : Device) : Bool := decide (s.cal.periodAt + (s.reg .calCommitper).toNat * 500000000 ≤ s.cycle)

/-- CAL_COMMIT_PERIOD (R366). -/
def commitPeriodOp (s : Device) : Device :=
  if s.commitDue then commitSets s.cal.changed { s with cal := { s.cal with periodAt := s.cycle } } else s

/-! ### Steps (R351, R353, R357 to R361) -/

/-- Length of a port or input step (R351). -/
def stepLen (cls : Nat) : Nat := [4096, 16384, 16384, 8192, 65536, 0, 8192, 16384, 8192].getD cls 0

/-- The class instances of sequencer k's port or input. -/
def slotItems (k : Nat) : List (Nat × Nat) :=
  if k < 512 then (List.range 5).map fun c => (c, k) else (List.range 3).map fun c => (6 + c, k - 512)

/-- Where the next step of a slot starts: back to back after the one whose result has just come, else at a fabric cycle
from now on (R357). -/
def Device.stepAt (s : Device) (o : Slot) : Nat := if s.cycle ≤ o.again then o.next else max o.next s.ssi

/-- The step to start in a slot now: the oldest due class whose whole step fits (R357, R359). -/
def Device.stepFor (s : Device) (o : Slot) : Option (Nat × Nat) :=
  if o.cut.isSome || !(s.reached o.next) then none
  else s.calOldest ((slotItems o.k).filter fun x => decide (s.stepAt o + stepLen x.1 + 1024 ≤ o.hi))

/-- The first slot of location d in which a step can start, with the step. -/
def Device.stepSlot (s : Device) (d : Nat) : Option (Slot × Nat × Nat) :=
  s.offers.findSome? fun o => if dieOf o.k = d then (s.stepFor o).map fun x => (o, x) else none

/-- A bench step can start in the gap: a transfer asked for, or the oldest due class (R336, R359, R367). -/
def Device.benchStep (s : Device) : Option CalStep :=
  if !(s.bench.gapOpen && s.bench.phase == .idle && s.flag F.bnCtrlCalslotEn) then none
  else
    match s.cal.xfer with
    | (n, _, _) :: _ => some { cls := 13, inst := n, start := s.ssi, stop := s.ssi, visits := [(n, 2 ^ 16 + 2 ^ 14 + 515, 64 + 32 + 12)] }
    | [] => (s.calOldest benchItems).map fun x =>
        { cls := x.1, inst := x.2, start := s.ssi, stop := s.ssi, visits := benchVisits x.1 }

def Device.stepDue (s : Device) (d : Nat) : Bool :=
  (sfind s.cal.steps d).isNone && (if d < 8 then (s.stepSlot d).isSome else s.benchStep.isSome)

/-- CAL_STEP_START on location d (R357, R359), with the limit that it is judged by (R361). -/
def stepStartOp (d : Nat) (s : Device) : Device :=
  if (sfind s.cal.steps d).isSome then s
  else
    let put (c : CalStep) : Device := { s with cal := { s.cal with
      steps := sput s.cal.steps d { c with limit := s.fld F.calLimitLimit c.cls } } }
    if d < 8 then
      match s.stepSlot d with
      | some (o, cls, inst) =>
        let x := s.stepAt o
        put { cls := cls, inst := inst, start := x, stop := x + stepLen cls }
      | none => s
    else match s.benchStep with | some c => put c | none => s

/-- How far a measured coefficient may lie from the one in force (R361): its absolute limit for coefficient i of a class. -/
def calBound (cls i limit : Nat) (c : Rat) : Rat :=
  let l : Rat := limit
  let a : Rat := if c < 0 then -c else c
  match cls with
  | 4 => l * a / 65536
  | 5 => if i = 0 then l * 2 ^ 30 / 1000000 else l * 2 ^ 28 / 1000000
  | 6 => l * 2 ^ 30 / 1000000
  | 7 => if i < 2 then l * 2 ^ 30 / 1000000 else l
  | 9 => l / 1000000
  | 10 | 11 | 12 => l * a / 1000000
  | _ => l

/-- The first coefficient that lies too far from the one in force. -/
def calTooFar (cls limit : Nat) (m c : List Rat) : Option Nat :=
  (List.range c.length).find? fun i =>
    let d := m.getD i 0 - c.getD i 0
    decide (calBound cls i limit (c.getD i 0) < (if d < 0 then -d else d))

/-- A coefficient as 8 bytes: a signed integer, or the binary64 pattern of R365. -/
def coef8 (cls : Nat) (q : Rat) : List Byte := if cls < 9 then leBytes 8 (ofSigned 64 (ratAway q)) else bytes64 q

/-- The owner and attribute that a notice about an instance concerns. -/
def Device.calOwner (s : Device) (cls inst : Nat) : Option (Nat × Bool) :=
  if cls < 6 then some (s.seqOwner inst, s.seqSealed inst)
  else if cls ≤ 8 then some (s.seqOwner (512 + inst), s.seqSealed (512 + inst)) else none

/-- A rejected step (R360). -/
def rejectStep (cls inst : Nat) (m c : Rat) (s : Device) : Device :=
  (((s.setFlag F.calStatusReject).addSat F.calLimitReject 1 cls).presentNow (calEvent 1)).notice 0x8005 stOk (s.calOwner cls inst)
    (leBytes 1 cls ++ zeros 1 ++ leBytes 2 inst ++ coef8 cls m ++ coef8 cls c)

/-- Bit c of CAL_DUE as R368 has it. -/
def Device.calLate (s : Device) (cls : Nat) : Bool :=
  decide (744 * 3600 * 2 ^ 64 ≤ s.deviceTime)
    && (List.range (calInstances cls)).any fun i => decide (s.calLast cls i + 744 * 3600 * 2 ^ 64 ≤ s.deviceTime)

/-- The bits of CAL_DUE whose class no longer fails the test clear (R368). -/
def calDueEnd (s : Device) : Device :=
  forAllDo (bitsSet 13 (s.reg .calDue).toNat) (fun c t =>
    if t.calLate c then t else t.putReg .calDue (BitVec.ofNat 32 ((t.reg .calDue).toNat - 2 ^ c))) s

/-- A class had an accepted step at temperature T: the PROVISIONAL sets near it take note (R362). -/
def noteSeen (cls t : Nat) (s : Device) : Device :=
  forAllDo (s.calSets.filter fun x => bitOf (s.reg .calProv).toNat x.2 && decide (t ≤ x.1 + 2500) && decide (x.1 ≤ t + 2500))
    (fun x u =>
      let l := (cls :: sget [] u.cal.seen x.2).eraseDups
      let u1 := { u with cal := { u.cal with seen := sput u.cal.seen x.2 l } }
      if l.length = 13 then
        { u1.putReg .calProv (BitVec.ofNat 32 ((u1.reg .calProv).toNat - 2 ^ x.2)) with
          cal := { u1.cal with changed := (u1.cal.changed ++ [x.2]).eraseDups } }
      else u1) s

/-- An accepted step: its change enters the sets, and every coefficient in force is computed anew (R360, R363, R368). -/
def acceptStep (cls inst : Nat) (m : List Rat) (s : Device) : Device :=
  let d := calLoc cls inst
  let t := s.calTemp d
  let delta := m.zipWith (· - ·) (s.calForce cls inst)
  let sets := (s.setsAt t).1.map Prod.snd
  let coef := sets.foldl (fun x n =>
    sput x (16384 * n + calKey cls inst) ((s.calCoef n cls inst).zipWith (fun c e => calRound cls (c + e)) delta)) s.cal.coef
  let s1 := { s with cal := { s.cal with
    coef := coef, changed := (s.cal.changed ++ sets).eraseDups, last := sput s.cal.last (calKey cls inst) s.deviceTime
    marks := s.cal.marks.filter (· != calKey cls inst) } }
  let n := s1.reg64 .calCountLo .calCountHi cls + 1
  let s2 := s1.put64 .calCountLo .calCountHi (n % 2 ^ 48) cls
  let s3 := forAllDo (List.range 4) (fun w u => u.putReg .calTime (BitVec.ofNat 32 (s.deviceTime / 2 ^ (32 * w))) cls w) s2
  recomputeAll ((noteSeen cls t (calDueEnd s3)).presentNow (calEvent 0))

/-- The ratio moved by more than 20 ppm (R355). -/
def ratioMoved (a b : Rat) : Bool :=
  let d := b - a
  decide ((if a < 0 then -a else a) * 20 / 1000000 < (if d < 0 then -d else d))

/-- The RINT ratio check of an accepted DIVIDER step (R355). -/
def rintCheck (r : Rat × Rat) (s : Device) : Device :=
  let moved := match s.cal.ratios with
    | some q => ratioMoved q.1 r.1 || ratioMoved q.2 r.2
    | none => false
  let s1 := { s with cal := { s.cal with ratios := some r } }
  if moved then (s1.setFlag F.calStatusRintSuspect).presentNow (calEvent 7) else s1

/-- The step in flight on location d that has ended: a port or input step at its end, a bench step once its visits are
made. -/
def Device.stepEnded (s : Device) (d : Nat) : Option CalStep :=
  (sfind s.cal.steps d).filter fun c =>
    if d < 8 then s.reached c.stop else c.visits.isEmpty && !(s.bench.phase != .idle && s.bench.visit.cal)

/-- CAL_STEP_DONE on location d with the measured values, and for DIVIDER the ratios of RINT to the 100 Ω and the 10 kΩ
shunt (R355, R360); the RINT value itself, the fifth of class 11, stays. -/
def stepDoneOp (d : Nat) (m0 : List Rat) (ratios : Rat × Rat) (s : Device) : Device :=
  match s.stepEnded d with
  | none => s
  | some c =>
    if 13 ≤ c.cls then s
    else
      let free (o : Slot) : Slot :=
        if c.forSeq o.k ∧ o.next ≤ c.start then { o with next := c.stop, again := s.cycle + 1 } else o
      let s1 := { s with cal := { s.cal with steps := sdel s.cal.steps d }, offers := s.offers.map free }
      let f := s.calForce c.cls c.inst
      let m := (List.range f.length).map fun i =>
        if c.cls = 11 ∧ i = 4 then f.getD i 0 else calRound c.cls (m0.getD i (f.getD i 0))
      match calTooFar c.cls c.limit m f with
      | some i => rejectStep c.cls c.inst (m.getD i 0) (f.getD i 0) s1
      | none =>
        let s2 := acceptStep c.cls c.inst m s1
        if c.cls = 11 then rintCheck ratios s2 else s2

/-- A class's bit of CAL_DUE sets in this cycle (R368). -/
def Device.calDueNow (s : Device) (cls : Nat) : Bool := !(bitOf (s.reg .calDue).toNat cls) && s.calLate cls

/-- CAL_DUE for a class (R368, R369). -/
def calDueOp (cls : Nat) (s : Device) : Device :=
  if cls < 13 && s.calDueNow cls then
    (s.putReg .calDue (BitVec.ofNat 32 ((s.reg .calDue).toNat + 2 ^ cls))).presentNow (calEvent 6)
  else s

/-- The RINT value in force in µΩ: the fifth value of class 11, over its nominal 1 kΩ (R365, R367). -/
def Device.rint (s : Device) : Nat := (ratAway ((s.calForce 11 0).getD 4 1 * 10 ^ 9)).toNat

/-- A new RINT value enters every set, comes into force and is committed (R366, R367). -/
def putRint (v : Nat) (s : Device) : Device :=
  let ns := s.calSets.map Prod.snd
  let coef := ns.foldl (fun x n =>
    sput x (16384 * n + calKey 11 0) (listSet (s.calCoef n 11 0) 4 (fl64Away ((v : Rat) / 10 ^ 9)))) s.cal.coef
  commitSets ns (recomputeAll { s with cal := { s.cal with coef := coef, changed := (s.cal.changed ++ ns).eraseDups } })

/-- CAL_XFER_DONE with the new RINT value in µΩ, none where the comparison failed (R367). -/
def xferDoneOp (r : Option Nat) (s : Device) : Device :=
  match s.stepEnded 8 with
  | some c =>
    if c.cls ≠ 13 then s
    else
      let s1 := { s with cal := { s.cal with steps := sdel s.cal.steps 8, xfer := s.cal.xfer.drop 1 } }
      let s2 := match r with | some v => putRint v s1 | none => s1
      s2.notice 0x8006 (if r.isSome then stOk else stBadArg) none (leBytes 8 s2.rint)
  | none => s

/-! ### The engine at the start of a cycle (R353, R356) -/

/-- A sequencer is idle as R356 asks for IDLECAL. -/
def Device.idleForCal (s : Device) (k : Nat) : Bool :=
  let st := s.fld F.csStatusState k
  (st == 0 || decide (4 ≤ st)) && !(decide (512 ≤ k) && s.inputOpen (k - 512) s.ssi)

/-- A slot in which a step would start finds its die's receiver busy (R353). -/
def Device.dieBusy (s : Device) (o : Slot) : Bool :=
  (match sfind s.cal.steps (dieOf o.k) with | some c => !(c.forSeq o.k) | none => false) && (s.stepFor o).isSome

/-- A slot that no step starts in any more; that of an idle sequencer ends, and a later gap follows (R353). -/
def Slot.givenUp (o : Slot) (x : Nat) : Slot := if o.idle then { o with hi := x + 1024, next := x + 1024 } else { o with next := o.hi }

/-- Slots that are over go, a slot that finds its die busy is given up, and idle sequencers with a class due offer
theirs. -/
def calLand (s0 : Device) : Device :=
  let s := calDueEnd s0
  let l := (s.offers.filter fun o => decide (s.ssi < o.hi)).map fun o => if s.dieBusy o then o.givenUp s.ssi else o
  let s1 := { s with offers := l }
  if s.flag F.calCtrlIdlecal then
    forAllDo ((List.range 576).filter fun k => s1.idleForCal k && !(s1.offers.any fun o => o.k == k)
        && (s1.calOldest (slotItems k)).isSome && (sfind s1.cal.steps (dieOf k)).isNone)
      (fun k t => offerSlot k t.ssi (2 ^ 64) true t) s1
  else s1

/-! ### Registers (R355, R359, R361, R367) -/

/-- CAL_CTRL.SEAL is set. -/
def Device.calSealed (s : Device) : Bool := s.flag F.calCtrlSeal

/-- A write of CAL_CTRL. -/
def calCtrlOp (v : Nat) (s : Device) : CmdOut :=
  if s.calSealed then refuse s stNotOwner else done (s.putReg .calCtrl (BitVec.ofNat 32 (v % 4)))

/-- A write of CAL_REFV_HI commits REFV and its uncertainty (R355). -/
def calRefvOp (v : Nat) (s : Device) : CmdOut :=
  let x := (s.reg .calRefvLo).toNat + 2 ^ 32 * (v % 2 ^ 32)
  if s.calSealed then refuse s stNotOwner
  else if x < 10 ^ 9 ∨ 5 * 10 ^ 9 < x then refuse s stBadArg
  else
    let s1 := (s.putReg .calRefvHi (BitVec.ofNat 32 v)).setFld F.calStatusNoref 0
    done { s1 with cal := { s1.cal with refv := x, refvU := (s.reg .calRefvU).toNat } }

/-- A write of another register that SEAL locks: CAL_REFV_LO, CAL_REFV_U, CAL_COMMITPER, CAL_PERIODc and CAL_LIMITc. CAL_REJECTc,
beside a sealed CAL_LIMITc, is not sealed and takes no write (R546). -/
def calLockedOp (r : RegName) (c v : Nat) (s : Device) : CmdOut :=
  if s.calSealed then
    if r = .calLimit ∧ v % 2 ^ 16 = s.fld F.calLimitLimit c then done s else refuse s stNotOwner
  else if r = .calCommitper ∧ v % 2 ^ 32 = 0 then refuse s stBadArg
  else if r = .calLimit then done (s.putReg .calLimit (putField (s.reg .calLimit c) 15 0 v) c)
  else done (s.putReg r (BitVec.ofNat 32 v) c)

/-! ### Commands (R362, R366, R367) -/

/-- CAL_SET_READ: the image and its seal. -/
def calSetReadOp (n : Nat) (s : Device) : CmdOut :=
  if 8 ≤ n then refuse s stBadArg 0
  else match s.plateOf n, s.sealOf n with
    | some b, some x => done s (b ++ x)
    | _, _ => refuse s stBadArg 0

/-- The coefficients of a new set n at T, by interpolation between the others (R362). -/
def newSet (n t : Nat) (s : Device) : Device :=
  let keep := s.cal.coef.filter fun x => x.1 / 16384 != n
  let keys := (keep.map fun x => x.1 % 16384).eraseDups
  let s0 := { s with cal := { s.cal with coef := keep, seen := sdel s.cal.seen n } }
  let coef := keys.foldl (fun m k => sput m (16384 * n + k) (s0.calAt (k / 1024) (k % 1024) t)) keep
  let s1 := { s0 with cal := { s0.cal with coef := coef } }
  (s1.putReg .calTpoint (BitVec.ofNat 32 t) 0 n).putReg .calProv (BitVec.ofNat 32 (orBit (s1.reg .calProv).toNat n))

/-- CAL_TPOINT (R362, R367). -/
def calTpointOp (n t : Nat) (s : Device) : CmdOut :=
  let held := (s.reg .calTpoint 0 n).toNat != 0
  if 8 ≤ n then refuse s stBadArg 0
  else if s.calSealed then refuse s stNotOwner
  else if t = 0 then
    if !held then refuse s stBadArg 0
    else if s.calSets.length ≤ 2 then refuse s stBusy
    else if !s.plateOk then refuse s stThermal
    else
      let v := (s.reg .calProv).toNat
      let s1 := (s.putReg .calTpoint 0 0 n).putReg .calProv (BitVec.ofNat 32 (if bitOf v n then v - 2 ^ n else v))
      let s2 := plateErase n { s1 with cal := { s1.cal with
        coef := s1.cal.coef.filter fun x => x.1 / 16384 != n, changed := s1.cal.changed.filter (· != n) } }
      done (recomputeAll s2)
  else if held then refuse s stBadArg 0
  else if s.calSets.any fun x => decide (t ≤ x.1 + 1000) && decide (x.1 ≤ t + 1000) then refuse s stBadArg 4
  else if !s.plateOk then refuse s stThermal
  else done (recomputeAll (commitSet n (newSet n t s)))

/-- CAL_RUN (R359, R367). -/
def calRunOp (mask first last : Nat) (s : Device) : CmdOut :=
  if 2 ^ 13 ≤ mask then refuse s stBadArg 0
  else if last < first then refuse s stBadArg 4
  else
    let ks := (bitsSet 13 mask).flatMap fun c =>
      ((List.range (calInstances c)).filter fun i => decide (first ≤ i) && decide (i ≤ last)).map (calKey c)
    done { s with cal := { s.cal with marks := (s.cal.marks ++ ks).eraseDups } }

/-- CAL_COMMIT (R366, R367). -/
def calCommitOp (mask : Nat) (s : Device) : CmdOut :=
  let ns := s.cal.changed.filter fun n => bitOf mask n
  if !ns.isEmpty && !s.plateOk then refuse (commitSets ns s) stThermal else done (commitSets ns s)

/-- CAL_XFER (R367). -/
def calXferOp (n v u : Nat) (s : Device) : CmdOut :=
  if 16 ≤ n then refuse s stBadArg 0
  else if s.calSealed then refuse s stNotOwner
  else if !s.plateOk then refuse s stThermal
  else done { s with cal := { s.cal with xfer := s.cal.xfer ++ [(n, v, u)] } }

/-- CURVE_LOAD (R339, R341, R506): the image goes to the plate store with the device's CURVESER, and is sealed. -/
def curveLoadOp (img : List Byte) (s : Device) : CmdOut :=
  let c := fieldB img 0 1
  if img.length < 32 ∨ img.length ≠ 32 + 16 * fieldB img 4 2 then refuse s stBadLength
  else
    match curveFault img with
    | some o => refuse s stBadArg o
    | none =>
      if s.calSealed && (s.plateOf (256 + c)).isSome then refuse s stNotOwner
      else if s.curveBusy c then refuse s stBusy
      else if !s.plateOk then refuse s stThermal
      else
        let n := s.curveLoads + 1
        done (plateWrite (256 + c) 1 c (img.take 24 ++ leBytes 4 n ++ img.drop 28) { s with curveLoads := n })

/-- CURVE_READ (R341, R505). -/
def curveReadOp (n : Nat) (s : Device) : CmdOut :=
  if n < 32 ∨ 64 ≤ n then refuse s stBadArg 0
  else match s.plateOf (256 + n), s.sealOf (256 + n) with
    | some b, some x => done s (b ++ x)
    | _, _ => refuse s stBadArg 0

end Sys2Proof.Machine
end

