-- ==== Sys2Proof/Machine/Thermal.lean ====
section
/-! DEFINITION. The on-die sensors, the temperatures formed from them and the trip (spec/18_power_thermal_startup.md R525
to R532). -/

namespace Sys2Proof.Machine

/-- The events of the thermal block (R532). -/
def thEvent (evt : Nat) : Nat := evCode 0 9 evt

/-- The facing pair of CVn (R525). -/
def facing (n : Nat) : List Nat := if n < 4 then [2 * n, 2 * n + 1] else [16 + 2 * n, 17 + 2 * n]

/-- The sensors of CVn (R525). -/
def dieSensors (n : Nat) : List Nat := [32 + 2 * n, 33 + 2 * n]

/-- The orthogonal neighbours of TSn in the grid of the logic die (R525, R526). -/
def gridNeighbours (n : Nat) : List Nat :=
  let r := n / 8
  let c := n % 8
  (if 0 < r then [n - 8] else []) ++ (if r < 3 then [n + 8] else []) ++ (if 0 < c then [n - 1] else []) ++ (if c < 7 then [n + 1] else [])

/-- The median of values: of an even number the mean of the middle two, truncated (R526). -/
def median (l : List Int) : Option Int :=
  let t := sortBy (fun a b => decide (a ≤ b)) l
  let n := t.length
  if n = 0 then none
  else if n % 2 = 1 then t[n / 2]?
  else some ((t.getD (n / 2 - 1) 0 + t.getD (n / 2) 0).tdiv 2)

/-- The mean of values, as a rational. -/
def meanOf (l : List Int) : Option Rat := if l.isEmpty then none else some ((l.sum : Rat) / (l.length : Rat))

/-- A sensor is broken (R526). -/
def Device.broken (s : Device) (n : Nat) : Bool :=
  if n < 32 then bitOf (s.reg .thBroken0).toNat n else bitOf (s.reg .thBroken1).toNat (n - 32)

/-- Δn in mK (R527). -/
def Device.cvOffset (s : Device) (n : Nat) : Int := toSigned 32 (s.reg .thCvofs 0 n).toNat

/-- The value of a read, if the sensor gave one. -/
def readOf (ts : List (Option Nat)) (n : Nat) : Option Int := (ts.getD n none).map Int.ofNat

/-- The reference of a sensor for one read (R526). -/
def Device.reference (s : Device) (ts : List (Option Nat)) (n : Nat) : Option Int :=
  let ok (m : Nat) : Option Int := if s.broken m then none else readOf ts m
  if n < 32 then median ((gridNeighbours n).filterMap ok)
  else
    let d := (n - 32) / 2
    median (((dieSensors d).filter (· != n)).filterMap ok ++ ((facing d).filterMap ok).map (· + s.cvOffset d))

/-- A read agrees (R526). -/
def Device.agrees (s : Device) (ts : List (Option Nat)) (n : Nat) : Bool :=
  match readOf ts n with
  | none => false
  | some v => decide (200000 ≤ v) && decide (v ≤ 420000) && (match s.reference ts n with
    | some r => decide ((v - r).natAbs ≤ 6000)
    | none => true)

/-- A sensor is valid on a read (R528). -/
def Device.validRead (s : Device) (ts : List (Option Nat)) (n : Nat) : Bool := !(s.broken n) && s.agrees ts n

/-- A sensor is marked broken (R526). -/
def markBroken (n : Nat) (s : Device) : Device :=
  let s1 := if n < 32 then s.orFld F.thBroken0 (2 ^ n) else s.orFld F.thBroken1Ts (2 ^ (n - 32))
  ((s1.setFlag F.thStatusSensBroken).setFld F.thTsBroken 1 0 n).presentNow (thEvent 0)

/-- One sensor's read: its registers, and broken after three reads in a row that fail (R526). s0 is the state that judges
the read. -/
def sensorRead1 (s0 : Device) (ts : List (Option Nat)) (n : Nat) (s : Device) : Device :=
  let s1 := (s.setFld F.thTsT ((ts.getD n none).getD 0) 0 n).setFld F.thTsBroken (b2n (s0.broken n)) 0 n
  if s0.broken n then s1
  else
    let ok := s0.agrees ts n
    let f := if ok then 0 else sget 0 s.th.fails n + 1
    let s2 := { s1.setFld F.thTsAgree (b2n ok) 0 n with th := { s1.th with fails := sput s1.th.fails n f } }
    if 3 ≤ f then markBroken n s2 else s2

/-- The mean of the valid reads of some sensors. -/
def Device.validMean (s : Device) (ts : List (Option Nat)) (l : List Nat) : Option Rat :=
  meanOf ((l.filter (s.validRead ts)).filterMap (readOf ts))

/-- Δn after a read (R527): it moves where both sensors of CVn are valid and lie within 2,000 mK of each other. -/
def offsetUpdate (s0 : Device) (ts : List (Option Nat)) (n : Nat) (s : Device) : Device :=
  match (dieSensors n).filterMap fun m => if s0.validRead ts m then readOf ts m else none with
  | [a, b] =>
    if (a - b).natAbs ≤ 2000 then
      (match s0.validMean ts (facing n) with
      | some f =>
        let d : Rat := ((a + b : Int) : Rat) / 2 - f
        s.putReg .thCvofs (BitVec.ofInt 32 (s.cvOffset n + ((d - (s.cvOffset n : Rat)) / 131072).floor)) 0 n
      | none => s)
    else s
  | _ => s

/-- The largest or smallest of the valid reads with its sensor; the lower sensor on a tie. -/
def extreme (up : Bool) (l : List (Nat × Int)) : Option (Nat × Int) :=
  l.foldl (fun best x => match best with
    | none => some x
    | some b => if (if up then b.2 < x.2 else x.2 < b.2) then some x else some b) none

/-- The temperature of CVn (R528, R529). -/
def dieTemp (s0 : Device) (ts : List (Option Nat)) (n : Nat) (s : Device) : Device :=
  let both := (dieSensors n).all s.broken
  let newly := both && !(s.flag F.thDietBlind 0 n)
  let s1 := if newly then ((s.setFld F.thDietBlind 1 0 n).setFlag F.thStatusDieBlind).presentNow (thEvent 1) else s
  if s1.flag F.thDietBlind 0 n then
    match s0.validMean ts (facing n) with
    | some f => s1.setFld F.thDietT (f.floor + s1.cvOffset n).toNat 0 n
    | none => s1
  else match s0.validMean ts (dieSensors n) with
    | some m => s1.setFld F.thDietT m.floor.toNat 0 n
    | none => s1

/-- The temperatures formed from one read of all sensors (R526 to R529), with the window bits of R531. -/
def formTemps (ts : List (Option Nat)) (s : Device) : Device :=
  let s1 := forAllDo (List.range 48) (sensorRead1 s ts) s
  let s2 := forAllDo (List.range 8) (offsetUpdate s ts) s1
  let s3 := forAllDo (List.range 8) (dieTemp s ts) s2
  let vs := ((List.range 48).filter (s.validRead ts)).filterMap fun n => (readOf ts n).map fun v => (n, v)
  let s4 := match extreme true vs with
    | some (n, v) => (s3.setFld F.thTjTj v.toNat).setFld F.thTjSrc n
    | none => s3
  let s5 := match extreme false vs with
    | some (n, v) => (s4.setFld F.thTminTmin v.toNat).setFld F.thTminSrc n
    | none => s4
  let s6 := match median ((vs.filter fun x => decide (x.1 < 32)).map Prod.snd) with
    | some m => { s5 with th := { s5.th with benchT := m.toNat } }
    | none => s5
  let tj := s6.fld F.thTjTj
  let tmin := s6.fld F.thTminTmin
  (s6.setFld F.thStatusPlateOk (b2n (decide (283150 ≤ tmin) && decide (tj ≤ 358150)))).setFld F.thStatusFuseOk
    (b2n (decide (293150 ≤ tmin) && decide (tj ≤ 333150)))

/-- A fuse programming operation may begin (R531). -/
def Device.fuseOk (s : Device) : Bool := s.flag F.thStatusFuseOk

/-- The trip (R530): every forme mutes, every sequencer stops and every trigger engine goes to IDLE. -/
def tripAll (s : Device) : Device :=
  let s1 := muteAllState s
  let s2 := forAllDo ((List.range 576).filter s1.seqActive) stopSeq s1
  let s3 := forAllDo (List.range 16) (fun n t => tgChange n none t) s2
  (s3.setFlag F.thStatusTrip).presentNow (thEvent 3)

/-- OVERTEMP and the trip after a read cycle (R530). -/
def overTemp (s : Device) : Device :=
  let tj := s.fld F.thTjTj
  let isTop := decide (373150 ≤ tj)
  let s1 := { s with th := { s.th with atTop := isTop } }
  let s2 := if isTop && !s.th.atTop then (s1.setFlag F.thStatusOvertemp).presentNow (thEvent 2) else s1
  let hot := if 378150 ≤ tj ∧ s.flag F.thCtrlTripEn then s.th.hot + 1 else 0
  if 3 ≤ hot then tripAll { s2 with th := { s2.th with hot := 0 } } else { s2 with th := { s2.th with hot := hot } }

/-- SENSOR_READ (R526 to R530): every sensor is read, TJ published, and coefficients follow (R363). -/
def sensorReadOp (ts : List (Option Nat)) (s : Device) : Device :=
  let s1 := formTemps ts s
  calTemperatures (overTemp (publishTj (s1.fld F.thTjTj) s1))

/-- A host write of 1 to bits of TH_BROKEN re-admits sensors (R526). -/
def readmit (w v : Nat) (s : Device) : Device :=
  let ns := (bitsSet 32 v).map fun b => 32 * w + b
  forAllDo ns (fun n t => t.setFld F.thTsBroken 0 0 n) { s with th := { s.th with fails := ns.foldl (fun m n => sput m n 0) s.th.fails } }

end Sys2Proof.Machine
end

