-- ==== Sys2Proof/Machine/Startup.lean ====
section
/-! DEFINITION. Reset and start-up (spec/18_power_thermal_startup.md R516 to R523; R396, R477, R500, R521). -/

namespace Sys2Proof.Machine

/-- An address is one of some registers without an index of their own. -/
def isReg (rs : List RegName) (a : Nat) : Bool := rs.any fun r => r.addr == a

/-- An address lies in a register array of n words. -/
def inArray (r : RegName) (n a : Nat) : Bool := decide (r.addr ≤ a) && decide (a < r.addr + 4 * n)

/-- Registers that show fuses or the plate store: they outlive a reset (R516, R517). -/
def keptByReset (a : Nat) : Bool :=
  isReg [.secOpenctr, .mcPending, .mcMinsec, .memRepairFree] a || inArray .secOwnerdig 12 a

/-- Registers that start-up forms and release keeps (R8, R519). -/
def formedByStartup (a : Nat) : Bool :=
  isReg [.secStatus, .mcVersion, .mcSecver, .mcStatus, .memSpares, .thTj, .thTmin, .thBroken0, .thBroken1, .thStart, .thElapsed, .calProv] a
    || inArray .thDiet 8 a || inArray .thCvofs 8 a || inArray .thTs 48 a || inArray .calTpoint 8 a

/-- The state while RESET_N is low (R516 to R518): plate store and fuses stand, everything else is lost; every port is in MUTE, every
lane idle. -/
def inResetState (s : Device) : Device :=
  let s1 : Device := {
    phase := .inReset, free := s.free, regs := s.regs.filter fun x => keptByReset x.1,
    boots := s.boots, plate := s.plate, seals := s.seals, curveLoads := s.curveLoads, repairs := s.repairs,
    cal := { ser := s.cal.ser }, eng := { committed := s.eng.committed } }
  (s1.setFld F.secStatusOwned (s.fld F.secStatusOwned)).setFld F.thStartOwnspent (s.fld F.thStartOwnspent)

/-- A reset cuts a fuse programming under way (R517): an enrolment leaves its owner digest slot spent, a MEM_REPAIR_ADD its entry; whether
the programming had begun is open. -/
def cutFuses (s : Device) : Device :=
  match s.eng.running with
  | some r =>
    if s.fuseOk ∧ (r.opcode = 0x0C03 ∨ r.opcode = 0x0A06) then
      let (n, s1) := s.draw
      if n % 2 = 0 then s1
      else if r.opcode = 0x0A06 then s1.setFld F.memRepairFree (s1.fld F.memRepairFree - 1)
      else if s1.flag F.secStatusOwned then s1
      else s1.setFld F.thStartOwnspent (let o := s1.fld F.thStartOwnspent; if bitOf o 0 then 3 else o + 1)
    else s
  | none => s

/-- RESET_ASSERT: RESET_N is low for some nanoseconds; below 1 µs it is free whether the device resets (R516). -/
def resetAssertOp (ns : Nat) (s : Device) : Device :=
  if 1000 ≤ ns then inResetState (cutFuses s)
  else let (r, s1) := s.draw; if r % 2 = 0 then s1 else inResetState (cutFuses s1)

/-- RESET_RELEASE: start-up begins (R519). -/
def resetReleaseOp (s : Device) : Device :=
  if s.phase = .inReset then { s with phase := .starting 0 } else s

/-- The stages done so far. -/
def Device.stagesDone (s : Device) : Nat :=
  match s.phase with
  | .starting d => d
  | _ => 0

/-- Start-up stops with a code (R522): the command engine is halted for good. -/
def stopStartup (code : Nat) (s : Device) : Device := { s with phase := .stopped code s.stagesDone, eng := { s.eng with halted := true } }

/-- Stage n may complete: it has not, and the stages it comes after have (R519). -/
def Device.stageOpen (s : Device) (n : Nat) (after : List Nat) : Bool :=
  match s.phase with
  | .starting d => !(bitOf d n) && after.all (bitOf d)
  | _ => false

/-- Stage n completes. -/
def stageDone (n : Nat) (s : Device) : Device :=
  match s.phase with
  | .starting d => { s with phase := .starting (orBit d n) }
  | _ => s

/-- STARTUP_FUSES (R519). -/
def startupFusesOp (ok : Bool) (s : Device) : Device :=
  if s.stageOpen 1 [] then (if ok then stageDone 1 s else stopStartup 1 s) else s

/-- STARTUP_CLOCKS (R519): SAMPLECOUNT begins; a lane PLL that does not lock sets LANECLK. -/
def startupClocksOp (ok laneOk : Bool) (s : Device) : Device :=
  if s.stageOpen 2 [1] then
    (if ok then stageDone 2 ({ s with cycle := 0 }.setFld F.thStartLaneclk (b2n !laneOk)) else stopStartup 2 s)
  else s

/-- CLOCK_LOCK_TIMEOUT (R519). -/
def clockTimeoutOp (s : Device) : Device := if s.stageOpen 2 [1] then stopStartup 2 s else s

/-- Δn as stage 3 sets it from one read (R527). -/
def stageOffset (ts : List (Option Nat)) (n : Nat) (s : Device) : Device :=
  let d : Int := match (dieSensors n).filterMap (readOf ts), (facing n).filterMap (readOf ts) with
    | [a, b], [c, e] => if (a - b).natAbs ≤ 2000 then (((a + b - c - e : Int) : Rat) / 2).floor else 0
    | _, _ => 0
  s.putReg .thCvofs (BitVec.ofInt 32 d) 0 n

/-- One of the reads of stage 3: offsets set, every sensor cross-checked (R519, R526, R527). -/
def stageRead (ts : List (Option Nat)) (s : Device) : Device :=
  formTemps ts (forAllDo (List.range 8) (stageOffset ts) s)

/-- STARTUP_SENSORS (R519): ten reads of every sensor; too few valid ones stop start-up. -/
def startupSensorsOp (reads : List (List (Option Nat))) (s : Device) : Device :=
  if s.stageOpen 3 [2] then
    let s1 := forAllDo reads stageRead s
    let valid (n : Nat) : Bool := !(s1.broken n) && s1.flag F.thTsAgree 0 n
    let few := decide (((List.range 32).filter valid).length < 28)
    let blind := (List.range 8).any fun n => !((dieSensors n).any valid)
    let s2 := { s1 with ev := {} }
    if few || blind then stopStartup 3 s2 else stageDone 3 s2
  else s

/-- STARTUP_MEMORY (R396, R397, R519): repairs are applied and counted in MEM_SPARES, DRAM and SRAM hold the fill. -/
def startupMemoryOp (ok checkers : Bool) (s : Device) : Device :=
  if s.stageOpen 4 [3] then
    (if !ok then stopStartup 4 s else if !checkers then stopStartup 5 s
     else stageDone 4 (({ s with dram := [], galley := [], prog := [], kernels := [], sramErrs := [] }.setFld F.memSparesDram
       s.repairs.length).setFld F.memSparesSram Config.sramSpares.toNat))
  else s

/-- STARTUP_SECURITY (R480, R519): entropy failure does not stop start-up; a failed key or chain does. -/
def startupSecurityOp (r : SecStart) (s : Device) : Device :=
  if s.stageOpen 5 [1] then
    let s1 := { s with boots := s.boots + 1 }.setFld F.secStatusDrbgOk (b2n r.drbgOk)
    if r.keysOk then stageDone 5 (s1.setFld F.secStatusIdkeyOk 1) else stopStartup 7 s1
  else s

/-- PROOF (R520). -/
def proofOp (ok : Bool) (s : Device) : Device :=
  if s.stageOpen 6 [4] then (if ok then stageDone 6 s else stopStartup 6 s) else s

/-- Bytes of one instance of a class in a set's image (R365). -/
def coefSize (cls : Nat) : Nat :=
  if cls < 4 ∨ cls = 8 then 4 else if cls = 4 then 88 else if cls < 7 then 8 else if cls = 7 then 16 else 8 * (calNominal cls).length

/-- The coefficients that bytes of an image spell (R365). -/
def readCoef (cls : Nat) (b : List Byte) : List Rat :=
  let int (w k : Nat) : Rat := ((toSigned w (fieldB b (4 * k) 4) : Int) : Rat)
  match cls with
  | 0 | 2 => [int 16 0]
  | 1 => [int 18 0]
  | 3 | 8 => [int 14 0]
  | 4 => (List.range 11).map fun k => (fieldB b (8 * k) 8 : Rat)
  | 5 | 6 => [int 32 0, int 32 1]
  | 7 => (List.range 4).map (int 32)
  | _ => (List.range (calNominal cls).length).map fun k => (decode64 (fieldB b (8 * k) 8)).getD 0

/-- The offset of a class's section in a set's image. -/
def sectionAt (cls : Nat) : Nat := 64 + ((List.range cls).map fun c => calInstances c * coefSize c).sum

/-- Load a set from its image (R521): its temperature, PROVISIONAL mark and coefficients. -/
def loadSet (n : Nat) (img : List Byte) (s : Device) : Device :=
  let s1 := s.putReg .calTpoint (BitVec.ofNat 32 (fieldB img 4 4)) 0 n
  let prov := (s1.reg .calProv).toNat
  let s2 := if bitOf (fieldB img 1 1) 0 then s1.putReg .calProv (BitVec.ofNat 32 (orBit prov n)) else s1
  forAllDo (List.range 13) (fun cls t => forAllDo (List.range (calInstances cls)) (fun i u =>
    let c := readCoef cls (sliceB img (sectionAt cls + coefSize cls * i) (coefSize cls))
    if c = calNominal cls then u
    else { u with cal := { u.cal with coef := sput u.cal.coef (16384 * n + calKey cls i) c } }) t) s2

/-- STARTUP_CALIBRATION (R521): sets whose seal verifies are loaded; fewer than two stop start-up. -/
def startupCalOp (pass : List Nat) (s : Device) : Device :=
  if s.stageOpen 7 [5, 6] then
    let held := (List.range 8).filter fun n => (s.plateOf n).isSome
    let good := held.filter pass.contains
    let s1 := s.setFld F.thStartCalseal (b2n (decide (good.length < held.length)))
    let s2 := forAllDo (List.range 8) (fun n t => t.putReg .calTpoint 0 0 n) s1
    let s3 := forAllDo good (fun n t => match t.plateOf n with | some b => loadSet n b t | none => t) s2
    if good.length < 2 then stopStartup 8 s1 else stageDone 7 s3
  else s

/-- The factory image runs (R477). -/
def runFactory (s : Device) : Device :=
  ((s.putReg .mcVersion Config.romVersion).putReg .mcSecver Config.romSecver).setFld F.mcStatusFallback 1

/-- A committed image becomes active (R477). -/
def activateImage (version secver : Word) (s : Device) : Device :=
  let s1 := (s.putReg .mcVersion version).putReg .mcSecver secver
  if (s.reg .mcMinsec).toNat < secver.toNat then s1.putReg .mcMinsec secver else s1

/-- STARTUP_MICROCODE (R477): the committed image, if DIGEST and SIG hold, else the factory image; a factory image that fails
its digest stops start-up. -/
def startupMicrocodeOp (sigOk romOk : Bool) (s : Device) : Device :=
  if s.stageOpen 8 [5, 6] then
    let img := s.eng.committed
    let digestOk := img.isEmpty || sliceB img 16 48 == sha384 (img.drop 256)
    if s.reg .mcPending ≠ 0 ∧ sigOk ∧ digestOk then
      let (v, sv) := if img.isEmpty then (s.reg .mcPending, Config.mcSecver)
        else (BitVec.ofNat 32 (fieldB img 4 4), BitVec.ofNat 32 (fieldB img 8 4))
      stageDone 8 { activateImage v sv s with eng := { s.eng with active := img } }
    else if romOk then stageDone 8 (runFactory s)
    else stopStartup 9 s
  else s

/-- RELEASE (R8, R500, R519, R523): registers take their reset values but for what start-up formed, coefficients come into force,
and the command engine is released. -/
def releaseOp (us : Nat) (s : Device) : Device :=
  if s.stageOpen 9 [7, 8] then
    let s1 : Device := {
      phase := .running, cycle := s.cycle, free := s.free,
      regs := s.regs.filter fun x => keptByReset x.1 || formedByStartup x.1,
      boots := s.boots, plate := s.plate, seals := s.seals, curveLoads := s.curveLoads, repairs := s.repairs, th := s.th,
      cal := { coef := s.cal.coef, ser := s.cal.ser, periodAt := s.cycle },
      eng := { committed := s.eng.committed, active := s.eng.active },
      leds := [(16, { ledgerReset 16 with since := s.cycle })],
      bench := { trackFrom := 32 * s.cycle },
      mc := { passFrom := s.cycle, chans := (List.range 64).map fun p => (p, { refAt := s.cycle + 1950 }) } }
    calTemperatures (s1.putReg .thElapsed (BitVec.ofNat 32 us))
  else s

/-- The markers that show a stop of start-up (R522): MK0 to MK3 the code, MK4 high. -/
def Device.stopMarker (s : Device) (f : Nat) : Bool :=
  match s.phase with
  | .stopped code _ => if f < 4 then bitOf code f else f == 4
  | _ => false

end Sys2Proof.Machine
end

