-- ==== Sys2Proof/Machine/RegRead.lean ====
section
/-! DEFINITION. Reading registers: the registers whose value is formed at the read, latched words (R45), RC fields (R11, R13),
and who may read (R284, R319, R497). -/

namespace Sys2Proof.Machine

/-- The low and the high word of a value. -/
def loWord (x : Nat) : Word := BitVec.ofNat 32 x
def hiWord (x : Nat) : Word := BitVec.ofNat 32 (x / 2 ^ 32)

/-- Port p's bit of OP_STATUS, for each of the eight ports of forme f. -/
def portBits (f : Nat) (b : Nat → Bool) : Word :=
  BitVec.ofNat 32 (((List.range 8).map fun m => if b (8 * f + m) then 2 ^ m else 0).sum)

/-- The ports that are not up in the peer role (R242). -/
def Device.portsDown (s : Device) : Nat := ((List.range 8).map fun p => if s.portUp p then 0 else 2 ^ p).sum

/-- The sessions that are open, as bits. -/
def Device.sessionsOpen (s : Device) : Nat := ((List.range 8).map fun n => if (s.session n).isOpen then 2 ^ n else 0).sum

/-- OP_STATUS: the sticky flags, MUTED as the output stage stands and SAFE (R172, R548). -/
def Device.opStatusNow (s : Device) (p : Nat) : Word :=
  putField (putField (s.reg .opStatus p) 7 7 (b2n (s.modeAt p s.ssi == 0))) 6 6 (b2n ((s.port p).inSafe s.ssi))

/-- The carrier of forme f as it stands at the last sample of this cycle. -/
def Device.carNow (s : Device) (f c : Nat) : CarAt := s.carAt f c (s.ssi + 31)

/-- The last stamp delivered on channel n. -/
def Device.ecLast (s : Device) (n : Nat) : Nat := sget 0 s.ev.last n

/-- The count of counter n, this cycle's additions included (R288). -/
def Device.evcNow (s : Device) (n : Nat) : Nat := ((s.evc n).base + (s.evc n).add) % 2 ^ 48

/-- The time of the last edge of SYNC that was not ignored (R50). -/
def Device.syncStamp (s : Device) : Nat := s.tb.lastEdge.getD 0

/-- CE_STATUS. -/
def Device.ceStatusNow (s : Device) : Word :=
  let e := s.eng
  BitVec.ofNat 32 (2 ^ 24 * e.queue.length + 2 ^ 16 * e.timed.length + 2 ^ 8 * e.urgq.length + 4 * b2n e.halted
    + 2 * b2n e.urgent.isSome + b2n (e.running.isSome || e.urgent.isSome))

/-- A register whose field marked WO reads as 0 (R11). -/
def woClear (fs : List FieldDesc) (w : Word) : Word :=
  fs.foldl (fun w f => match f.acc with | .wo => putField w f.hi f.lo 0 | _ => w) w

/-- The value of a register at this instant, before any latch. BUD_TMOD is formed as R293 says, for DIE at release too (DEDUCED, log
entry 92). -/
def Device.view (s : Device) (r : RegName) (i j k : Nat) : Word :=
  match r with
  | .tbScLo => loWord s.sampleCount
  | .tbScHi => hiWord s.sampleCount
  | .tbSsiLo => loWord s.ssi
  | .tbSsiHi => hiWord s.ssi
  | .tbDt => loWord (s.deviceTime / 2 ^ (32 * j))
  | .tbOffset => loWord (s.tb.offset / 2 ^ (32 * j))
  | .tbSyncSLo => loWord (s.syncStamp / 256)
  | .tbSyncSHi => hiWord (s.syncStamp / 256)
  | .tbSyncF => loWord (s.syncStamp % 256)
  | .tbWordofsLo => BitVec.ofInt 32 s.tb.W
  | .tbWordofsHi => BitVec.ofInt 32 (s.tb.W / 2 ^ 32)
  | .tbRegdelay => loWord s.tb.d
  | .evEcLastLo => loWord (s.ecLast i)
  | .evEcLastHi => hiWord (s.ecLast i)
  | .evcValLo => loWord (s.evcNow i)
  | .evcValHi => hiWord (s.evcNow i)
  | .evcSnapLo => loWord (s.evc i).snap
  | .evcSnapHi => hiWord (s.evc i).snap
  | .evcSnaptLo => loWord (s.evc i).snapT
  | .evcSnaptHi => hiWord (s.evc i).snapT
  | .budLeadnow => BitVec.ofNat 32 (s.seqs.filter fun (q, _) => s.seqState q == 3).length
  | .budHlimLo => loWord (s.led i).hlim
  | .budHlimHi => hiWord (s.led i).hlim
  | .budDecayLo => loWord (s.led i).decay
  | .budDecayHi => hiWord (s.led i).decay
  | .budFloorLo => loWord (s.led i).floor
  | .budFloorHi => hiWord (s.led i).floor
  | .budHLo => loWord (s.led i).hSeen
  | .budHHi => hiWord (s.led i).hSeen
  | .budULo => loWord (s.led i).uSeen
  | .budUHi => hiWord (s.led i).uSeen
  | .budTmod => loWord ((s.led i).tbase + (s.led i).h / (s.led i).c)
  | .budHlimeLo => loWord ((s.led i).hlimE i)
  | .budHlimeHi => hiWord ((s.led i).hlimE i)
  | .bnPeriod => loWord s.bench.plcUse
  | .calStatus => putField (s.reg .calStatus) 0 0 (b2n ((List.range 19).any fun w => s.reg .calXmask 0 w != 0))
  | .lkCred0 => loWord ((s.link i).cred.getD 0 0)
  | .lkCred23 => BitVec.ofNat 32 (2 ^ 16 * (s.link i).cred.getD 2 0 + (s.link i).cred.getD 1 0)
  | .lkReplay => loWord (s.link i).replay.length
  | .ceStatus => s.ceStatusNow
  | .ceHighseq => loWord (s.session i).h
  | .secStatus => putField (s.reg .secStatus) 31 24 s.sessionsOpen
  | .secSerial => BitVec.ofNat 32 (leNat (sliceB (leBytes 16 Config.serial.toNat) (4 * j) 4))
  | .secBootnonce => BitVec.ofNat 32 (leNat (sliceB (leBytes 32 (Config.bootNonce s.boots).toNat) (4 * j) 4))
  | .secSess => let x := s.session i
    BitVec.ofNat 32 (2 ^ 16 * x.epoch + 16 * b2n x.isOpen + x.via % 16)
  | .secSigq => BitVec.ofNat 32 s.colq.length
  | .opModeAct => let q := s.port i
    BitVec.ofNat 32 (if q.muted then q.mode / 4 * 4 else q.mode)
  | .opBiasAct => BitVec.ofNat 32 (s.port i).bias
  | .opKern => BitVec.ofNat 32 (s.kern i)
  | .opStatus => s.opStatusNow i
  | .opPfsLo => loWord (s.pfsPort i)
  | .opPfsHi => hiWord (s.pfsPort i)
  | .opBind => putField (s.reg .opBind i j) 12 8 ((s.port i).bind.getD j 0)
  | .fmSafe => portBits i fun p => (s.port p).inSafe s.ssi
  | .fmSpancut => portBits i fun p => s.flag F.opStatusSpancut p
  | .fmIlim => portBits i fun p => s.flag F.opStatusIlim p
  | .fmMkState => BitVec.ofNat 32 (s.markBits i s.ssi)
  | .galStatus => putField (s.reg .galStatus i) 31 16 (s.forme i).fetchq.length
  | .fmCarFreqLo => loWord (s.carNow i j).freq
  | .fmCarFreqHi => BitVec.ofNat 32 ((s.carNow i j).freq / 2 ^ 32 + 2 ^ 16 * b2n (s.carNow i j).cont)
  | .fmCarOfsLo => loWord (s.carNow i j).ofs
  | .fmCarOfsHi => hiWord (s.carNow i j).ofs
  | .ipRecFill => BitVec.ofNat 32 (s.input i).ring.length
  | .csTLo => loWord (s.seq i).t
  | .csTHi => hiWord (s.seq i).t
  | .dfPortdown => BitVec.ofNat 32 s.portsDown
  | .dfXin => putField (s.reg .dfXin 0 j) 8 8 (b2n (s.flag F.dfXinEn 0 j && bitOf s.portsDown (s.fld F.dfXinPort 0 j)))
  | r => woClear r.desc.fields (s.reg r i j k)

/-- The registers that a read of a low word latches, with their second index (R45). -/
def latchedBy (r : RegName) (j : Nat) : List (RegName × Nat) :=
  match r with
  | .tbDt => if j = 0 then [(.tbDt, 1), (.tbDt, 2), (.tbDt, 3)] else []
  | .tbScLo => [(.tbScHi, 0)]
  | .tbSsiLo => [(.tbSsiHi, 0)]
  | .tbSyncSLo => [(.tbSyncSHi, 0), (.tbSyncF, 0)]
  | .tbWordofsLo => [(.tbWordofsHi, 0)]
  | .evEcLastLo => [(.evEcLastHi, 0)]
  | .evcValLo => [(.evcValHi, 0)]
  | .evcSnapLo => [(.evcSnapHi, 0), (.evcSnaptLo, 0), (.evcSnaptHi, 0)]
  | .budHlimLo => [(.budHlimHi, 0)]
  | .budDecayLo => [(.budDecayHi, 0)]
  | .budFloorLo => [(.budFloorHi, 0)]
  | .budHLo => [(.budHHi, 0), (.budULo, 0), (.budUHi, 0)]
  | .budHlimeLo => [(.budHlimeHi, 0)]
  | .calCountLo => [(.calCountHi, 0), (.calTime, 0), (.calTime, 1), (.calTime, 2), (.calTime, 3)]
  | .memFrzSsiLo => [(.memFrzSsiHi, 0)]
  | .csTLo => [(.csTHi, 0)]
  | .csLeadLo => [(.csLeadHi, 0)]
  | .csEnergyLo => [(.csEnergyHi, 0)]
  | .opPfsLo => [(.opPfsHi, 0)]
  | .fmLaststrobeLo => [(.fmLaststrobeHi, 0)]
  | .dlLastI => [(.dlLastQ, j), (.dlLastState, j)]
  | .tgMendLo => [(.tgMendHi, 0), (.tgMinmax, 0), (.tgMean, 0), (.tgRms, 0), (.tgAmpl, 0), (.tgPeriod, 0), (.tgNcross, 0), (.tgMflags, 0)]
  | .tgLastfireLo => [(.tgLastfireHi, 0)]
  | _ => []

/-- Latch the words that go with a low word. -/
def latchWords (r : RegName) (i j : Nat) (s : Device) : Device :=
  forAllDo (latchedBy r j) (fun (q, m) t => { t with latch := sput t.latch (q.addr i m) (s.view q i m 0) }) s

/-- The value that a read answers: the latched word of a register that a low word latches, once one has been latched. -/
def Device.readValue (s : Device) (r : RegName) (i j k : Nat) : Word := (sfind s.latch (r.addr i j k)).getD (s.view r i j k)

/-- The read of an RC field: its value before this cycle's addition, which stays in the cleared field (R11, R13). -/
def readRc (a : Nat) (w : Word) (f : FieldDesc) (x : Word × Device) : Word × Device :=
  let (b, p) := (sfind x.2.addNow a).getD (w, 0)
  (putField x.1 f.hi f.lo (getField b f.hi f.lo), { x.2 with
    regs := sput x.2.regs a (putField (sget w x.2.regs a) f.hi f.lo (getField p f.hi f.lo))
    addNow := if (sfind x.2.addNow a).isSome then sput x.2.addNow a (putField b f.hi f.lo 0, p) else x.2.addNow })

/-- Read a register: its value, and the state with its RC fields cleared and its companions latched. -/
def readReg (r : RegName) (i j k : Nat) (s : Device) : Word × Device :=
  let w := s.readValue r i j k
  let s1 := latchWords r i j s
  (r.desc.fields.filter fun f => f.acc == .rc).foldl (fun x f => readRc (r.addr i j k) (s.reg r i j k) f x) (w, s1)

/-- Whether session t may read a register (R284, R319, R497): sequencers with their ports and inputs, ledgers, and the last
stamp of an event channel. -/
def Device.mayReadReg (s : Device) (t : Nat) (r : RegName) (i a : Nat) : Bool :=
  let b := a / 0x10000
  if 0x10 ≤ b ∧ b < 0x30 then s.seqReadable i t
  else if 0x40 ≤ b ∧ b < 0x50 then s.seqReadable (512 + i) t
  else if 0x50 ≤ b ∧ b < 0x60 then s.seqReadable i t
  else match r with
    | .evEc | .evEcCfg | .evEcLastLo | .evEcLastHi => !(s.ecAway i t)
    | .budCfg | .budCLo | .budCHi | .budPcoolLo | .budPcoolHi | .budPstatLo | .budPstatHi | .budTbase | .budTlim | .budLag
    | .budTmo | .budHlimLo | .budHlimHi | .budDecayLo | .budDecayHi | .budFloorLo | .budFloorHi | .budHLo | .budHHi | .budULo
    | .budUHi | .budTmod | .budTmeas | .budLstat | .budOwn | .budHlimeLo | .budHlimeHi => decide (16 ≤ i) || !(s.ledAway i t)
    | .budAttn => s.seqReadable i t
    | _ => true

/-- REG_READ by session t (R11, R13, R31, R45, R497). -/
def regReadOp (t a : Nat) (s : Device) : CmdOut :=
  match findReg a with
  | none => refuse s stBadArg
  | some (r, i, j, k) =>
    if !(s.mayReadReg t r i a) then refuse s stNotOwner
    else
      let (w, s1) := readReg r i j k s
      done s1 (leBytes 4 w.toNat)

/-- The first address of a list that a read refuses, with its index and status. -/
def readFault (t : Nat) (s : Device) : List Nat → Nat → Option (Nat × Nat)
  | [], _ => none
  | a :: rest, n =>
    let o := regReadOp t a s
    if o.status ≠ stOk then some (n, o.status) else readFault t s rest (n + 1)

/-- REG_READ_MULTI (R466): refused whole when an address fails. -/
def regReadMultiOp (t first count : Nat) (s : Device) : CmdOut :=
  if count = 0 ∨ 256 < count then refuse s stBadArg 4
  else
    let as := (List.range count).map fun n => first + 4 * n
    match readFault t s as 0 with
    | some (n, st) => refuse s st n
    | none =>
      let (data, s1) := as.foldl (fun (x : List Byte × Device) a =>
        let o := regReadOp t a x.2
        (x.1 ++ o.data, o.st)) ([], s)
      done s1 data

end Sys2Proof.Machine
end

