-- ==== Sys2Proof/Machine/RegWrite.lean ====
section
/-! DEFINITION. Writing registers (R9 to R13, R24, R31, R546): the plain write under the access codes, the registers whose write
has a rule of its own, and who may write (R283, R284, R319, R497, R498). -/

namespace Sys2Proof.Machine

/-! ### The plain write -/

/-- One field of a plain write: hw holds the bits that the device wrote in this cycle (R11, R12, R24). -/
def writeField (hw : Word) (v : Nat) (w : Word) (f : FieldDesc) : Word :=
  let m := maskOf f.hi f.lo
  match f.acc with
  | .rw | .rwl => if hw &&& m = 0 then (w &&& ~~~m) ||| (BitVec.ofNat 32 v &&& m) else w
  | .w1c => w &&& ~~~(BitVec.ofNat 32 v &&& m &&& ~~~hw)
  | .ro | .wo | .rc => w

/-- A plain write of a register (R11). -/
def plainWrite (r : RegName) (i j k v : Nat) (s : Device) : Device :=
  let hw := sget 0 s.hwNow (r.addr i j k)
  s.putReg r (r.desc.fields.foldl (writeField hw v) (s.reg r i j k)) i j k

/-- Keep the word a register held before its first write of this cycle (R65, R279, R290). -/
def remember (r : RegName) (i j k : Nat) (s : Device) : Device :=
  let a := r.addr i j k
  if (sfind s.former a).isSome then s else { s with former := sput s.former a (s.reg r i j k) }

/-- A selection stands again once it is written (R285). -/
def uncut (key : Nat) (s : Device) : Device := liftCuts [key] s

/-! ### Who may write -/

/-- A lane selector names a lane of an input whose read-out sequencer is SEALED to a session other than t (R497). -/
def Device.laneAway (s : Device) (sel t : Nat) : Bool := decide (sel < 1024) && s.seqAway (512 + sel / 16) t

/-- Session t may write the registers of the resource or forme that a register belongs to (R497, R498). -/
def Device.mayWriteReg (s : Device) (t i a : Nat) : Bool :=
  let b := a / 0x10000
  if 0x10 ≤ b ∧ b < 0x30 then s.seqWritable i t
  else if b = 0x30 then s.formeWritable i t
  else if 0x40 ≤ b ∧ b < 0x50 then s.seqWritable (512 + i) t
  else if 0x50 ≤ b ∧ b < 0x60 then s.seqWritable i t
  else true

/-! ### Registers with a rule of their own -/

/-- The lines [b, b + n) exist and each lies in a granule whose class passes a test (R187, R217). -/
def Device.linesIn (s : Device) (b n : Nat) (p : Nat → Bool) : Bool :=
  decide (b + n ≤ 1610612736) && (n == 0 || ((List.range 48).all fun g =>
    !(decide (b < 2 ^ 25 * (g + 1)) && decide (2 ^ 25 * g < b + n)) || p (s.granClass g)))

/-- A write of IP_CAP_CTRL (R187). -/
def capCtrlOp (i v : Nat) (s : Device) : CmdOut :=
  if bitOf v 0 && !(s.linesIn (s.reg .ipCapBase i).toNat (s.reg .ipCapSize i).toNat (· == 2)) then refuse s stBadArg
  else if bitOf v 0 && s.rewriting (s.reg .ipCapBase i).toNat (s.reg .ipCapSize i).toNat then refuse s stBusy
  else done (plainWrite .ipCapCtrl i 0 0 v s)

/-- A write of IP_CAP_WR (R187). -/
def capWrOp (i v : Nat) (s : Device) : CmdOut :=
  if (s.input i).current.isSome then refuse s stBusy
  else done ((plainWrite .ipCapWr i 0 0 v s).updInput i fun x => { x with full := false })

/-- A write of IP_SPOOL_BASE or IP_SPOOL_SIZE (R217). -/
def spoolOp (r : RegName) (i v : Nat) (s : Device) : CmdOut :=
  let base := if r = .ipSpoolBase then v % 2 ^ 31 else (s.reg .ipSpoolBase i).toNat
  let size := if r = .ipSpoolSize then v % 2 ^ 31 else (s.reg .ipSpoolSize i).toNat
  if s.fld F.ipRecCtrlDest i = 1 ∧ !(s.input i).ring.isEmpty then refuse s stBusy
  else if !(s.linesIn base size (· != 2)) then refuse s stBadArg
  else if size ≠ 0 ∧ s.rewriting base size then refuse s stBusy
  else done (plainWrite r i 0 0 v s)

/-- A write of IP_SPOOL_RD: the lines before it are free (R217). -/
def spoolRdOp (i v : Nat) (s : Device) : CmdOut :=
  let s1 := plainWrite .ipSpoolRd i 0 0 v s
  let rd := (s1.reg .ipSpoolRd i).toNat
  let wr := (s1.reg .ipSpoolWr i).toNat
  let live (x : Nat) : Bool := if rd ≤ wr then decide (rd ≤ x) && decide (x < wr) else decide (rd ≤ x) || decide (x < wr)
  done (s1.updInput i fun x => { x with spool := x.spool.filter fun e => live (e.1 - (s.reg .ipSpoolBase i).toNat) })

/-- A write of DL_KBASE or DL_KLEN of lane t of input i. -/
def kernelRangeOp (r : RegName) (i t v : Nat) (s : Device) : CmdOut :=
  let base := if r = .dlKbase then v % 2 ^ 15 else (s.reg .dlKbase i t).toNat
  let len := if r = .dlKlen then v % 2 ^ 13 else (s.reg .dlKlen i t).toNat
  if len = 0 ∨ 4096 < len ∨ 32768 < base + len then refuse s stBadArg else done (plainWrite r i t 0 v s)

/-- A write of CS_CTRL by session t (R99, R284). -/
def seqCtrlOp (t k v : Nat) (s : Device) : CmdOut :=
  if s.ecAway (bitsOf v 7 0) t then refuse s stNotOwner
  else done (uncut (RegName.addr .csCtrl k) (plainWrite .csCtrl k 0 0 v s))

/-- A write of CS_SPAN (R72): HI is 1 to 32,768. -/
def seqSpanOp (k v : Nat) (s : Device) : CmdOut :=
  if bitsOf v 31 16 = 0 ∨ 32768 < bitsOf v 31 16 then refuse s stBadArg else done (plainWrite .csSpan k 0 0 v s)

/-- A write of CS_JTGT (R101). -/
def jumpTargetOp (k v : Nat) (s : Device) : CmdOut :=
  if s.isBlockAt (storeOf k) (v % 2 ^ 15) then done (plainWrite .csJtgt k 0 0 v s) else refuse s stBadArg

/-- A write of lane selectors of gate g by session t (R103, R497). -/
def gateLanesOp (r : RegName) (t k g v : Nat) (s : Device) : CmdOut :=
  let x := bitsOf v 10 0
  let y := bitsOf v 26 16
  if !(validLane x) || !(validLane y) then refuse s stBadArg
  else if s.laneAway x t || s.laneAway y t then refuse s stNotOwner
  else done (plainWrite r k g 0 v s)

/-- A write of a configuration register of trigger engine n by session t (R255, R256, R259 to R261, R264, R284). -/
def tgSettingOp (r : RegName) (t n j v : Nat) (s : Device) : CmdOut :=
  let bad := match r with
    | .tgCaplen => decide (v % 2 ^ 32 < 2)
    | .tgTperiod => decide (v % 2 ^ 32 < 64)
    | .tgMc => bitsOf v 2 0 == 7
    | _ => false
  let away := match r with
    | .tgHoldec => s.ecAway (bitsOf v 31 24) t
    | .tgCap => s.seqAway (512 + bitsOf v 5 0) t || s.seqAway (512 + bitsOf v 13 8) t
    | _ => false
  if s.tgArmed n then refuse s stBusy
  else if bad then refuse s stBadArg
  else if away then refuse s stNotOwner
  else done (uncut (r.addr n j) (plainWrite r n j 0 v s))

/-- A write of a decision threshold unit by session t (R251, R497). -/
def dtOp (t u v : Nat) (s : Device) : CmdOut :=
  if s.laneAway (bitsOf v 10 0) t then refuse s stNotOwner else dtWriteOp u v s

/-- A write of TG_PUBn by session t (R266, R284). -/
def tgPubOp (t n v : Nat) (s : Device) : CmdOut :=
  if s.ecAway (bitsOf v 7 0) t then refuse s stNotOwner
  else done (uncut (RegName.addr .tgPub n) (plainWrite .tgPub n 0 0 v s))

/-- A write of DF_PUBc by session t (R230). -/
def dfPubOp (t c v : Nat) (s : Device) : CmdOut :=
  if s.laneAway (bitsOf v 9 0) t then refuse s stNotOwner else done (plainWrite .dfPub c 0 0 v s)

/-- A write of a forwarding entry: its last number is not below its first (R240, R269). -/
def rangeOp (r : RegName) (n v : Nat) (s : Device) : CmdOut :=
  if bitsOf v 15 8 < bitsOf v 7 0 then refuse s stBadArg else done (plainWrite r n 0 0 v s)

/-- A write of BN_CTRL by session t (R284, R334). -/
def benchCtrlBy (t v : Nat) (s : Device) : CmdOut :=
  if s.ecAway (bitsOf v 15 8) t then refuse s stNotOwner else benchCtrlOp v (uncut (RegName.addr .bnCtrl) s)

/-- A write of SEC_COLRD: the colophons before it are read (R503). -/
def colRdOp (v : Nat) (s : Device) : CmdOut :=
  done { s.putReg .secColrd (BitVec.ofNat 32 (v % 4096)) with
    colFill := ((s.reg .secColwr).toNat + 4096 - v % 4096) % 4096 }

/-- A register of stage ledger j may be written by session t (R319); DIE and PKG by all. -/
def Device.ledRegWritable (s : Device) (j t : Nat) : Bool := decide (16 ≤ j) || s.ledWritable j t

/-- A write of a register of the blocks below 0x0010_0000 by session t. -/
def writeLow (t : Nat) (r : RegName) (i j v : Nat) (s : Device) : CmdOut :=
  match r with
  | .tbCtrl => tbCtrlWrite v s
  | .tbSyncGenLo | .tbSyncGenHi => done (syncGenLand (plainWrite r i j 0 v s))
  | .tbOffset => offsetWrite j v s
  | .tbRateAdj => rateAdjWrite v s
  | .tbTaLo => alarmWriteOp i 0 v s
  | .tbTaHi => alarmWriteOp i 1 v s
  | .tbTaPer => alarmWriteOp i 2 (v % 2 ^ 32) s
  | .tbTaCtrl => alarmWriteOp i 3 v s
  | .evCtrl => evCtrlWrite v s
  | .evInject => evInjectOp v s
  | .evLoopch => loopUnmuteOp j v s
  | .evEc => evSlotWrite t i j v s
  | .evEcCfg => evCfgWrite t i v s
  | .evcCtrl => evcCtrlWrite t i v s
  | .budCtrl => budCtrlWrite v s
  | .budReserve => budReserveWrite v s
  | .budEsamp => budEsampWrite v s
  | .budLeadmax => budAtLeastOne .budLeadmax v s
  | .budHotlead => budAtLeastOne .budHotlead v s
  | .budCfg => ledgerCfgWrite t i v s
  | .budCLo | .budPcoolLo | .budPstatLo | .budTbase | .budTlim | .budLag | .budTmo => ledgerParamWrite t i r 0xFFFFFFFF v s
  | .budCHi | .budPcoolHi | .budPstatHi => ledgerParamWrite t i r 0xFFFF v s
  | .budAttn => attnWrite t i j v s
  | .budHlimLo | .budHlimHi | .budDecayLo | .budDecayHi | .budFloorLo | .budFloorHi | .budHLo | .budHHi | .budULo | .budUHi
  | .budTmod | .budTmeas | .budLstat | .budOwn | .budHlimeLo | .budHlimeHi =>
    if s.ledRegWritable i t then done (plainWrite r i j 0 v s) else refuse s stNotOwner
  | .bnCtrl => benchCtrlBy t v s
  | .bnPtConv => bnConvOp t i v s
  | .bnPtExc => bnExcOp t i v s
  | .bnSense => bnSenseOp t v s
  | .bnDisch => bnDischOp v s
  | .calCtrl => calCtrlOp v s
  | .calRefvHi => calRefvOp v s
  | .calRefvLo | .calRefvU | .calCommitper | .calPeriod | .calLimit => calLockedOp r i v s
  | .memMergeTmo => memSettingOp .memMergeTmo 16 v s
  | .memScrubPer => memSettingOp .memScrubPer 1 v s
  | .lkDevid => devidOp v s
  | .lnPctl => lnPctlOp i v s
  | .lnCtl => lnCtlOp i v s
  | .lkPctl => lkPctlOp i v s
  | .lkRtwait => rtwaitOp i v s
  | .ceNotify => if t = i then done (plainWrite r i j 0 v s) else refuse s stNotOwner
  | .secColrd => colRdOp v s
  | .thBroken0 => done (readmit 0 v (plainWrite r i j 0 v s))
  | .thBroken1 => done (readmit 1 (v % 2 ^ 16) (plainWrite r i j 0 v s))
  | r => done (plainWrite r i j 0 v s)

/-- A write of a register of the blocks from 0x0010_0000 up by session t. -/
def writeHigh (t : Nat) (r : RegName) (i j k v : Nat) (s : Device) : CmdOut :=
  match r with
  | .opMode => opModeOp t i v s
  | .opBias => done (stage i s.ssi 1 (v % 2 ^ 20) s)
  | .opTrim => done (stage i s.ssi 3 (v % 2 ^ 14) s)
  | .opBind => done (stage i s.ssi 2 (32 * j + v % 32) s)
  | .fmStrobe => formeStrobeOp t i v s
  | .fmMkCtrl => markerCtrlOp t i v s
  | .galCtrl => ringBaseWriteOp t i v s
  | .galRing => ringConfigWriteOp t i j 0 v s
  | .galRingRate => ringConfigWriteOp t i j 1 v s
  | .fmCarFreqHi => carFreqCommitOp t i j v s
  | .fmCarOfsHi => carOfsCommitOp t i j v s
  | .ipCtrl => ipCtrlOp t i v s
  | .ipCapCtrl => capCtrlOp i v s
  | .ipCapWr => capWrOp i v s
  | .ipSpoolBase | .ipSpoolSize => spoolOp r i v s
  | .ipSpoolRd => spoolRdOp i v s
  | .ipDprog => dprogWriteOp t i j [v] s
  | .dlCtrl => if 8 < bitsOf v 23 20 then refuse s stBadArg else done (plainWrite r i j 0 v s)
  | .dlKbase | .dlKlen => kernelRangeOp r i j v s
  | .csCtrl => seqCtrlOp t i v s
  | .csSpan => seqSpanOp i v s
  | .csJtgt => jumpTargetOp i v s
  | .csGateL01 | .csGateL23 => gateLanesOp r t i j v s
  | .tgCtrl => tgCtrlWriteOp t i v s
  | .tgS => tgStateWriteOp t i j 0 v s
  | .tgST => tgStateWriteOp t i j 1 v s
  | .tgSE => tgStateWriteOp t i j 2 v s
  | .tgHold | .tgHoldec | .tgCap | .tgCaplen | .tgCapdly | .tgLimit | .tgTperiod | .tgPat | .tgDc | .tgLevel | .tgMc | .tgMcThresh =>
    tgSettingOp r t i j v s
  | .dt => dtOp t i v s
  | .tgPub => tgPubOp t i v s
  | .tgFwd | .dfFwd => rangeOp r i v s
  | .dfPub => dfPubOp t i v s
  | r => done (plainWrite r i j k v s)

/-- A write of a register of a port or an input ends its idle slot, and a write of RANGE and CAPDEC ends any slot of the input
(R358). -/
def slotAfterWrite (r : RegName) (i a : Nat) (s : Device) : Device :=
  let b := a / 0x10000
  if 0x10 ≤ b ∧ b < 0x30 then endIdleSlot i s
  else if r = .ipCtrl then endSlots (512 + i) s.ssi s
  else if 0x40 ≤ b ∧ b < 0x50 then endIdleSlot (512 + i) s
  else s

/-- A write of register (r, i, j, k) by session t (R11, R24, R497). A refused write changes nothing. -/
def writeReg (t : Nat) (r : RegName) (i j k v : Nat) (s : Device) : CmdOut :=
  let a := r.addr i j k
  if !(s.mayWriteReg t i a) then refuse s stNotOwner
  else
    let s1 := remember r i j k s
    let o := if a < 0x100000 then writeLow t r i j v s1 else writeHigh t r i j k v s1
    if o.status = stOk then { o with st := slotAfterWrite r i a o.st } else { o with st := s, steps := 0 }

/-- REG_WRITE by session t: the register at the address, or a refusal where R31 knows none. -/
def regWriteOp (t a v : Nat) (s : Device) : CmdOut :=
  match findReg a with
  | none => refuse s stBadArg
  | some (r, i, j, k) => writeReg t r i j k v s

/-- The pairs of REG_WRITE_LIST in order, up to the first refused one (R466): what the pairs so far left, and how many. -/
def writePairs (t : Nat) : List (Nat × Nat) → Nat → Device → CmdOut
  | [], n, s => { st := s, at_ := s.ssi, steps := n }
  | (a, v) :: rest, n, s =>
    let o := regWriteOp t a v s
    if o.status ≠ stOk then { o with steps := n, detail := n } else writePairs t rest (n + 1) o.st

/-- REG_WRITE_LIST by session t (R466). -/
def regWriteListOp (t : Nat) (ps : List (Nat × Nat)) (s : Device) : CmdOut :=
  if ps.length = 0 ∨ 256 < ps.length then refuse s stBadLength else writePairs t ps 0 s

end Sys2Proof.Machine
end

