-- ==== Sys2Proof/Machine/Security.lean ====
section
/-! DEFINITION. The commands of the security group (spec/17_security.md): sessions, owner enrolment, ownership, certificates,
colophons and attestation. -/

namespace Sys2Proof.Machine

/-- The random source passed its start-up tests (R480). -/
def Device.drbgOk (s : Device) : Bool := s.flag F.secStatusDrbgOk

/-- A command that needs a random value is refused with BUSY while DRBG_OK is clear, where nothing else refuses it (R480). -/
def needRandom (op : Device → CmdOut) (s : Device) : CmdOut :=
  let o := op s
  if o.status = stOk ∧ !s.drbgOk then refuse s stBusy else o

/-! ### Sessions (R482 to R486) -/

/-- A session opens on a transport (R454, R483). -/
def newSession (via : Nat) (keys : List Byte) : Session := { isOpen := true, via := via, keys := keys }

/-- Bytes 0 to 135 of SESSION_OPEN's payload (R509). -/
def openSigned (r : OpenReq) : List Byte :=
  leBytes 1 r.s ++ leBytes 1 (b2n r.takeover) ++ zeros 2 ++ leBytes 4 r.openCtr ++ r.hostKey ++ r.hostNonce

/-- SESSION_OPEN succeeds: the device's ephemeral key and its nonce are random, the identity signs both ends' parts, and the keys follow from
both ends' ephemeral keys and nonces (R480, R484, R509). Its reply is not recorded, and goes under the new keys. -/
def openSession (c : Ctx) (r : OpenReq) (s : Device) : CmdOut :=
  let n := r.s
  let ctr := (s.reg .secOpenctr).toNat
  let (d, s1) := drawKey (closeSession n s)
  let (nonce, s2) := drawBytes 32 s1
  let (sig, s3) := identitySign (openSigned r ++ publicKey d ++ nonce) s2
  let (z, s3) := agree d r.hostKey s3
  let x := newSession c.via (sessionKeys n z r.hostNonce nonce)
  let s4 := ((s3.putSession n x).putReg .secOpenctr (BitVec.ofNat 32 (ctr + 1))).presentNow (ceEvent 8)
  let o := done s4 (publicKey d ++ nonce ++ sig)
  { o with st := s4.sendReply (mkReply s4 c 0x0C01 0 stOk 1 o.at_ 0 o.data), later := true }

/-- SESSION_OPEN (R483, R509). A refusal is not recorded either. -/
def sessionOpenOp (c : Ctx) (r : OpenReq) (s : Device) : CmdOut :=
  let no (st detail : Nat) : CmdOut :=
    { refuse (s.sendReply (mkReply s c 0x0C01 0 st 0 s.ssi detail [])) st detail with later := true }
  if 8 ≤ r.s ∨ r.s ≠ c.sess then no stBadArg 0
  else if r.openCtr ≠ (s.reg .secOpenctr).toNat then no stBadArg (s.reg .secOpenctr).toNat
  else if s.flag F.secStatusOwned && !r.sigOk then no stAuthFail 0
  else if !(s.flag F.secStatusOwned) && !r.sigZero then no stBadArg 136
  else if !s.drbgOk then no stBusy 0
  else if (s.session r.s).isOpen && !r.takeover then no stBusy 0
  else openSession c r s

/-- SESSION_CLOSE (R486): the reply goes under the old keys, then the session closes. -/
def sessionCloseOp (c : Ctx) (n : Nat) (s : Device) : CmdOut :=
  if n ≠ c.sess then refuse s stNotOwner
  else
    let s1 := s.sendReply (mkReply s c 0x0C02 0 stOk 1 s.ssi 0 [])
    { done (closeSession n s1) with later := true }

/-- Both owner digest slots are spent (R517). -/
def Device.ownSpent (s : Device) : Bool := s.fld F.thStartOwnspent == 3

/-- OWNER_ENROLL (R481, R482, R509): the digest goes into fuses, the sealed key record to the plate store (key 512), and after
the reply every session closes. -/
def ownerEnrollOp (c : Ctx) (key : List Byte) (sigOk : Bool) (s : Device) : CmdOut :=
  if s.flag F.secStatusOwned then refuse s stNotOwner
  else if !sigOk then refuse s stBadArg 96
  else if s.ownSpent || !s.drbgOk then refuse s stBusy
  else if !s.fuseOk then refuse s stThermal
  else
    let dig := sha384 key
    let s1 := forAllDo (List.range 12) (fun w t => t.putReg .secOwnerdig (BitVec.ofNat 32 (fieldB dig (4 * w) 4)) 0 w) s
    let s2 := plateWrite 512 2 0 key (s1.setFld F.secStatusOwned 1)
    let s3 := s2.sendReply (mkReply s2 c 0x0C03 0 stOk 1 s2.ssi 0 dig)
    { done (forAllDo (List.range 8) closeSession s3) with later := true }

/-! ### Ownership (R285, R496 to R499) -/

/-- The instances of a resource kind (R496). -/
def kindCount (kind : Nat) : Nat := [256, 512, 64, 16].getD kind 0

/-- Owner and attribute of instance i of a kind (R496). -/
def Device.ownerOf (s : Device) (kind i : Nat) : Nat × Bool :=
  match kind with
  | 0 => (s.fld F.evEcOwnOwner i, s.flag F.evEcOwnSealed i)
  | 1 => (s.seqOwner i, s.seqSealed i)
  | 2 => (s.seqOwner (512 + i), s.seqSealed (512 + i))
  | _ => (s.fld F.budOwnOwner i, s.flag F.budOwnSealed i)

/-- The word of an owner register. -/
def ownWord (owner attr : Nat) : Word := BitVec.ofNat 32 (256 * attr + owner)

/-- Give instance i of a kind an owner and an attribute. -/
def setOwner (kind owner attr i : Nat) (s : Device) : Device :=
  match kind with
  | 0 => s.putReg .evEcOwn (ownWord owner attr) i
  | 1 => s.putReg .secOwn (ownWord owner attr) 0 i
  | 2 => s.putReg .secOwn (ownWord owner attr) 0 (512 + i)
  | _ => s.putReg .budOwn (ownWord owner attr) i

/-- The instance is one that R499 refuses with BUSY. -/
def Device.ownBusy (s : Device) (kind i : Nat) : Bool :=
  match kind with
  | 0 => false
  | 1 => s.seqActive i
  | 2 => s.seqActive (512 + i)
  | _ => s.csBusy

/-- The sequencers of a program store (R71). -/
def storeSeqs (st : Nat) : List Nat := (List.range 8).map fun m => if st < 64 then 8 * st + m else 512 + 8 * (st - 64) + m

/-- The selections of channel n that stop when session t seals it (R278, R285): jump requests, block starts, trigger engines,
publications, the bench start and counters. -/
def Device.selectionsCut (s : Device) (n t : Nat) : List Nat :=
  let other (k : Nat) : Bool := s.seqOwner k != t
  let seqs := ((List.range 576).filter fun k => s.fld F.csCtrlJevSel k == n && other k).map fun k => RegName.addr .csCtrl k
  let starts := s.prog.flatMap fun (key, w) =>
    match SeqInstr.decode w with
    | some (.block _ _ _ _ true ec _) =>
      if ec = n then ((storeSeqs (key / 32768)).filter other).map fun k => startKey k (key % 32768) else []
    | _ => []
  let trig := (List.range 16).flatMap fun e =>
    ((List.range 16).flatMap fun x =>
      (if s.fld F.tgSCa e x = n then [RegName.addr .tgS e x] else []) ++
      (if s.fld F.tgSCb e x = n then [RegName.addr .tgS e x + 1] else []) ++
      (if s.fld F.tgSECe e x = n then [RegName.addr .tgSE e x] else [])) ++
    (if s.fld F.tgCtrlArmEc e = n then [RegName.addr .tgCtrl e] else []) ++
    (if s.fld F.tgHoldecEc e = n then [RegName.addr .tgHoldec e] else []) ++
    (if s.fld F.tgCtrlPbase e = n / 32 then [patternKey e (n % 32)] else []) ++
    (if s.fld F.tgPubSrc e = n then [RegName.addr .tgPub e] else [])
  let bench := if s.fld F.bnCtrlStartEc = n then [RegName.addr .bnCtrl] else []
  let counters := (s.ev.evcBy.filter fun (_, by_) => by_ != t).flatMap fun (i, _) =>
    (if s.fld F.evcCtrlSrc i = n then [RegName.addr .evcCtrl i] else []) ++
    (if s.fld F.evcCtrlSnapEc i = n then [RegName.addr .evcCtrl i + 1] else [])
  seqs ++ starts ++ trig ++ bench ++ counters

/-- Channel n becomes SEALED to session t (R285). -/
def sealCut (n t : Nat) (s : Device) : Device :=
  let keys := s.selectionsCut n t
  let waiting := (s.seqs.filter fun (k, q) => s.seqOwner k != t && (q.pres.bind Pres.ec) == some n).map Prod.fst
  let s1 := { s with ev := { s.ev with
    cut := (s.ev.cut ++ keys).eraseDups, lift := s.ev.lift.filter fun x => !(keys.contains x) } }
  let s2 := forAllDo waiting (fun k u => u.updSeq k fun q => { q with pres := q.pres.map fun p => { p with ec := some 256 } }) s1
  if keys.isEmpty && waiting.isEmpty then s2 else s2.setFlag F.evStatusSealcut

/-- The range of RES_SEAL and RES_RELEASE: the offset of the first field out of range (R466, R509). -/
def rangeFault (kind attr first count : Nat) : Option Nat :=
  if 4 ≤ kind then some 0
  else if 2 ≤ attr then some 1
  else if kindCount kind ≤ first then some 2
  else if count = 0 ∨ kindCount kind < first + count then some 4
  else none

/-- The first resource of a list that a change of ownership refuses, with its status (R499): may says whether its owner allows
the change. -/
def Device.ownFault (s : Device) (kind : Nat) (may : Nat → Bool) : List Nat → Option (Nat × Nat)
  | [] => none
  | i :: rest =>
    if !may i then some (i, stNotOwner) else if s.ownBusy kind i then some (i, stBusy) else s.ownFault kind may rest

/-- RES_SEAL by session t (R499). -/
def resSealOp (t kind attr first count : Nat) (s : Device) : CmdOut :=
  let is := (List.range count).map (first + ·)
  match rangeFault kind attr first count with
  | some d => refuse s stBadArg d
  | none =>
    match s.ownFault kind (fun i => let (o, a) := s.ownerOf kind i; o == t || (o == firmware && !a)) is with
    | some (i, st) => refuse s st i
    | none =>
        let s1 := forAllDo is (setOwner kind t attr) s
        let s2 := if kind = 0 ∧ attr = 1 then
            forAllDo (is.filter fun i => s.ownerOf 0 i != (t, true)) (fun i u => sealCut i t u) s1
          else s1
        done (s2.presentNow (ceEvent 14))

/-- RES_RELEASE by session t (R499). -/
def resReleaseOp (t kind attr first count : Nat) (s : Device) : CmdOut :=
  let is := (List.range count).map (first + ·)
  match rangeFault kind attr first count with
  | some d => refuse s stBadArg d
  | none =>
    match s.ownFault kind (fun i => (s.ownerOf kind i).1 == t) is with
    | some (i, st) => refuse s st i
    | none => done ((forAllDo is (setOwner kind firmware attr) s).presentNow (ceEvent 14))

/-! ### Certificates, colophons and attestation (R503, R504, R508, R509) -/

/-- CERT_READ: leaf, production or root certificate. -/
def certReadOp (n : Nat) (s : Device) : CmdOut := if 3 ≤ n then refuse s stBadArg 0 else done s (Config.cert n)

/-- COLOPHON_READ: up to count colophons from SEC_COLRD on. -/
def colophonReadOp (count : Nat) (peek : Bool) (s : Device) : CmdOut :=
  if count = 0 ∨ 64 < count then refuse s stBadArg 0
  else
    let rd := (s.reg .secColrd).toNat
    let n := min count s.colFill
    let data := (List.range n).flatMap fun j => sget [] s.colring ((rd + j) % 4096)
    if peek then done s data
    else done ({ s with colFill := s.colFill - n }.putReg .secColrd (BitVec.ofNat 32 ((rd + n) % 4096))) data

/-- The owner key digest, zeros while not OWNED (R479). -/
def Device.ownerDigest (s : Device) : List Byte :=
  (List.range 12).flatMap fun w => leBytes 4 (s.reg .secOwnerdig 0 w).toNat

/-- The attestation statement without its signature (R508). -/
def Device.statement (s : Device) (nonce : List Byte) : List Byte :=
  let bit (b : Bool) (n : Nat) : Nat := if b then 2 ^ n else 0
  leBytes 4 0x41545354 ++ leBytes 4 (s.reg .ident).toNat ++ leBytes 4 (s.reg .revision).toNat
    ++ leBytes 4 (s.reg .mcVersion).toNat ++ leBytes 4 (s.reg .mcSecver).toNat ++ leBytes 2 (s.fld F.lkDevidDevid)
    ++ leBytes 1 (bit (s.flag F.secStatusOwned) 0 + bit (s.flag F.tbCtrlSeal) 1 + bit (s.flag F.budCtrlSeal) 2
        + bit (s.flag F.calCtrlSeal) 3 + bit (s.flag F.mcStatusFallback) 4)
    ++ zeros 1 ++ serialBytes ++ s.nonceBytes ++ leBytes 16 s.deviceTime ++ leBytes 8 s.ssi ++ nonce ++ s.ownerDigest
    ++ s.calDigest ++ s.sealDigest (256 + 32) 32

/-- ATTEST (R508). -/
def attestOp (nonce : List Byte) (s : Device) : CmdOut :=
  if nonce.length ≠ 48 then refuse s stBadLength
  else
    needRandom (fun s =>
      let (sig, s1) := identitySign (s.statement nonce) s
      done s1 (s.statement nonce ++ sig)) s

end Sys2Proof.Machine
end

