-- ==== Sys2Proof/Machine/Commands.lean ====
section
/-! DEFINITION. The remaining commands of R466: identity, programs, run control, budget, link counts, microcode and the urgent
group. -/

namespace Sys2Proof.Machine

/-! ### Identity and summary -/

/-- IDENTIFY. -/
def identifyOp (s : Device) : CmdOut :=
  done s (leBytes 4 (s.reg .ident).toNat ++ leBytes 4 (s.reg .revision).toNat ++ leBytes 2 (s.fld F.lkDevidDevid) ++ zeros 2
    ++ leBytes 4 (s.reg .mcVersion).toNat ++ serialBytes)

/-- ECHO. -/
def echoOp (d : List Byte) (s : Device) : CmdOut := if 1024 < d.length then refuse s stBadLength else done s d

/-- SUMMARY. -/
def summaryOp (s : Device) : CmdOut :=
  let w (r : RegName) : List Byte := leBytes 4 (s.view r 0 0 0).toNat
  done s (w .ceStatus ++ w .memStatus ++ w .budStatus ++ w .dfStatus ++ w .calStatus ++ w .tbStatus ++ leBytes 8 s.ssi)

/-- LINK_STATS: the 18 words of a port's link registers. -/
def linkStatsOp (p : Nat) (s : Device) : CmdOut :=
  if 8 ≤ p then refuse s stBadArg 0
  else
    let w (r : RegName) : List Byte := leBytes 4 (s.view r p 0 0).toNat
    done s (w .lkPctl ++ w .lkPstat ++ w .lkCred0 ++ w .lkCred23 ++ w .lkPeerbuf ++ w .lkReplay ++ w .lkRtwait ++ w .lkRetrycnt
      ++ w .lkGiveup ++ w .lkV1retry ++ w .lkV1lost ++ w .lkLostfr ++ w .lkMisvc ++ w .lkSparecnt ++ w .lkFtx ++ w .lkFrx
      ++ w .lkUpcnt ++ w .lkHaltcnt)

/-! ### Programs (R73, R87, R113, R284, R308) -/

/-- The store that KIND and a number name. -/
def storeNo (kind n : Nat) : Nat := if kind = 0 then n else 64 + n

/-- Session t may load a store (R498). -/
def Device.storeWritable (s : Device) (kind n t : Nat) : Bool := if kind = 0 then s.formeWritable n t else s.groupWritable n t

/-- A sequencer of the store that counts overlaps a range with its span (R73). -/
def Device.spanBusy (s : Device) (st first n : Nat) : Bool :=
  (storeSeqs st).any fun k =>
    !(s.seqQuiet k) && decide (first < s.fld F.csSpanHi k) && decide (s.fld F.csSpanLo k < first + n)

/-- Write instructions into a store from an address on; words written are sound again and their START_EC counts anew (R285,
R374). -/
def writeProg (st first : Nat) (ins : List Nat) (s : Device) : Device :=
  let n := ins.length
  let keys := s.ev.cut.filter fun x => !(decide (2 ^ 32 ≤ x) && decide (x < 2 ^ 34) &&
    (storeSeqs st).contains ((x - 2 ^ 32) / 32768) && decide (first ≤ x % 32768) && decide (x % 32768 < first + n))
  { sramStored 2 st first n 4 s with
    prog := (ins.zipIdx.foldl (fun m x => sput m (32768 * st + first + x.2) x.1) s.prog)
    ev := { s.ev with cut := keys } }

/-- The session checks of an instruction to load: a START_EC channel or a lane SEALED to another session (R284, R497). -/
def Device.instrAway (s : Device) (t : Nat) : SeqInstr → Bool
  | .block _ _ _ _ true ec _ => s.ecAway ec t
  | .armdLane l _ _ => s.laneAway l t
  | _ => false

/-- The first instruction of a load that fails a check of R113 or R284, with its status; u is the state with the load in
place. -/
def loadFault (kind st first t : Nat) (s u : Device) : List Nat → Nat → Option (Nat × Nat)
  | [], _ => none
  | w :: rest, i =>
    match SeqInstr.decode w with
    | none => some (i, stBadArg)
    | some x =>
      if !(x.validFor kind) || !(u.targetOk st (first + i) x) then some (i, stBadArg)
      else if s.instrAway t x then some (i, stNotOwner)
      else loadFault kind st first t s u rest (i + 1)

/-- A block that a load touches cannot fit a ledger on a sequencer whose span holds it (R113, R308): its BLOCK's address. -/
def loadInfeasible (st first n : Nat) (u : Device) : Option Nat :=
  let blocks := ((u.loaded st 0 (first + n)).filter fun x => x.2.isBlock).map Prod.fst
  let touched := blocks.filter fun a => decide (first ≤ a) || u.blockOf st first == some a
  touched.find? fun a => (storeSeqs st).any fun k =>
    u.inSpan k a && (let b := u.blockFields k a; u.infeasible (u.blockVector k a) b.cls b.ess)

/-- The checks of PROG_LOAD (R73, R113, R466, R498): none, or status and DETAIL. -/
def progCheck (t kind n first : Nat) (ins : List Nat) (s : Device) : Option (Nat × Nat) :=
  let st := storeNo kind n
  if 2 ≤ kind then some (stBadArg, 0)
  else if (if kind = 0 then 64 else 8) ≤ n then some (stBadArg, 1)
  else if ins.length = 0 ∨ 32768 < ins.length then some (stBadArg, 4)
  else if 32768 < first + ins.length then some (stBadArg, 2)
  else if !(s.storeWritable kind n t) then some (stNotOwner, 0)
  else if s.spanBusy st first ins.length then some (stBusy, 0)
  else
    let u := writeProg st first ins s
    match loadFault kind st first t s u ins 0 with
    | some (i, e) => some (e, i)
    | none =>
      if kind = 0 then (loadInfeasible st first ins.length u).map fun a => (stInfeasible, a - first)
      else none

/-- Step i of PROG_LOAD: the checks before the first, then 256 instructions (R466). -/
def progStepOp (t kind n first : Nat) (ins : List Nat) (i : Nat) (s : Device) : CmdOut :=
  match (if i = 0 then progCheck t kind n first ins s else none) with
  | some (st, d) => refuse s st d
  | none => done (writeProg (storeNo kind n) (first + 256 * i) ((ins.drop (256 * i)).take 256) s)

/-- The committed steps of PROG_LOAD. -/
def progSteps (ins : List Nat) : Nat := max 1 (ceilDiv ins.length 256)

/-- PROG_LOAD as a whole. -/
def progLoadOp (t kind n first : Nat) (ins : List Nat) (s : Device) : CmdOut :=
  match progCheck t kind n first ins s with
  | some (st, d) => refuse s st d
  | none => { done (writeProg (storeNo kind n) first ins s) with steps := progSteps ins }

/-- PROG_READ. -/
def progReadOp (kind n first count : Nat) (s : Device) : CmdOut :=
  if 2 ≤ kind then refuse s stBadArg 0
  else if (if kind = 0 then 64 else 8) ≤ n then refuse s stBadArg 1
  else if count = 0 ∨ 32768 < count then refuse s stBadArg 4
  else if 32768 < first + count then refuse s stBadArg 2
  else done s ((List.range count).flatMap fun i => leBytes 8 (s.progWord (storeNo kind n) (first + i)))

/-! ### Run control (R51, R99, R101, R114) -/

/-- The entry address that an entry of RUN_START names. -/
def Device.entryOf (s : Device) (e : RunEntry) : Nat := if e.useReg then s.fld F.csEntry e.seq else e.entry

/-- The first entry of RUN_START that fails, with its index and status (R114). -/
def Device.entryFault (s : Device) (t : Nat) : List RunEntry → Nat → Option (Nat × Nat)
  | [], _ => none
  | e :: rest, i =>
    if 576 ≤ e.seq then some (i, stBadArg)
    else if !(s.seqWritable e.seq t) then some (i, stNotOwner)
    else if s.seqActive e.seq then some (i, stBusy)
    else if !(s.entryOk e.seq 32768 (s.entryOf e)) then some (i, stBadArg)
    else s.entryFault t rest (i + 1)

/-- RUN_START: every entry is checked, then all named sequencers enter PENDING in this cycle (R114, R466). -/
def runStartOp (t x : Nat) (es : List RunEntry) (s : Device) : CmdOut :=
  if es.length = 0 ∨ 64 < es.length then refuse s stBadArg 8
  else
    match s.entryFault t es 0 with
    | some (i, st) => refuse s st (16 + 4 * i)
    | none =>
      if s.fld F.tbStatusRegState = 1 then refuse s stBusy
      else done (forAllDo es (fun e u => startSeq e.seq (s.entryOf e) x u) s)

/-- RUN_JUMP with the effective index r (R99, R101). -/
def runJumpOp (t k tgt r : Nat) (s : Device) : CmdOut :=
  if 576 ≤ k then refuse s stBadArg 0
  else if !(s.isBlockAt (storeOf k) tgt) then refuse s stBadArg 2
  else if !(s.seqWritable k t) then refuse s stNotOwner
  else done (jumpRequest k r tgt [] s)

/-- RUN_STATUS: the STATE of every sequencer. -/
def runStatusOp (s : Device) : CmdOut := done s ((List.range 576).map fun k => BitVec.ofNat 8 (s.seqState k))

/-! ### Budget -/

/-- BUD_BLOCKINFO. -/
def budBlockinfoOp (t k addr : Nat) (s : Device) : CmdOut :=
  if 576 ≤ k then refuse s stBadArg 0
  else if 32768 ≤ addr || !(s.isBlockAt (storeOf k) addr) then refuse s stBadArg 2
  else if !(s.seqReadable k t) then refuse s stNotOwner
  else
    let b := s.blockFields k addr
    let vec := s.blockVector k addr
    done s (leBytes 8 (s.blockEnergy k addr) ++ leBytes 8 (s.blockSamples k addr) ++ vec.flatMap (leBytes 8)
      ++ leBytes 1 (b2n (s.infeasible vec b.cls b.ess)) ++ zeros 7)

/-! ### STOP, MUTE_ALL and ABORT (R115, R256, R467) -/

/-- STOP of sequencers and trigger engines. -/
def stopAll (ks es : List Nat) (s : Device) : Device :=
  forAllDo es (fun n t => tgChange n none t) (forAllDo ks stopSeq s)

/-- STOP by session t: what it may not write is skipped and counted (R467). -/
def stopOp (t cs rs tg : Nat) (s : Device) : CmdOut :=
  let named := bitsSet 512 cs ++ (bitsSet 64 rs).map (512 + ·)
  let mine := named.filter fun k => s.seqWritable k t
  let s1 := stopAll mine (bitsSet 16 tg) s
  let skipped := named.length - mine.length
  if skipped = 0 then done s1 else { done s1 with status := stNotOwner, detail := skipped }

/-- MUTE_ALL (R176, R467). -/
def muteAllOp (s : Device) : CmdOut := done (muteAllState s)

/-- What a stopped routine was waiting for is dropped, but for a class rewrite, which runs to its last line unanswered (R376). -/
def dropWaiting (r : Routine) (s : Device) : Device :=
  let ids := (s.mc.host.filter fun h => h.ctx = r.ctx ∧ h.opcode = r.opcode).map HostOp.id
  let s1 := forAllDo ids (fun id u => dropReqs 3 id (u.updMc fun m => { m with host := m.host.filter fun h => h.id != id })) s
  let gone := (s1.mc.hostw.filter fun w => w.ctx = r.ctx && r.opcode = 0x0A02).map HostWrite.id
  s1.updMc fun m => { m with
    hostw := m.hostw.filter fun w => !(gone.contains w.id)
    wait := m.wait.filter fun q => !(q.write && q.req == 3 && gone.contains q.id)
    setclass := m.setclass.map fun j => if r.opcode = 0x0A03 && j.ctx = some r.ctx then { j with ctx := none } else j }

/-- A routine stops short: it commits no further step and replies at once (R464, R465, R467). -/
def cutRoutine (cancelled : Bool) (s : Device) : Device :=
  match s.eng.running with
  | none => s
  | some r =>
    let r1 := { r with cancelled := cancelled, preempted := some (r.preempted.getD r.steps) }
    let s1 := dropWaiting r s
    let s2 := { s1 with eng := { s1.eng with running := none } }
    r1.reply { done s2 with steps := r.steps }

/-- ABORT by session t (R467). -/
def abortOp (t : Nat) (s : Device) : CmdOut :=
  let s1 := cancelTimed t s
  let s2 := if s1.eng.running.any fun r => r.ctx.sess == t then cutRoutine true s1 else s1
  done (stopAll ((List.range 576).filter fun k => s2.seqWritable k t) (List.range 16) s2)

/-! ### Microcode (R475, R476) -/

/-- MC_LOAD_BEGIN. -/
def mcBeginOp (len : Nat) (s : Device) : CmdOut :=
  if len < 256 ∨ 131072 < len then refuse s stBadArg 0
  else done ({ s with eng := { s.eng with stageLen := len, stage := [] } }.setFld F.mcStatusLoading 1)

/-- MC_LOAD_DATA. -/
def mcDataOp (ofs : Nat) (d : List Byte) (s : Device) : CmdOut :=
  if d.length = 0 ∨ 4096 < d.length then refuse s stBadLength
  else if !(s.flag F.mcStatusLoading) then refuse s stBusy
  else if s.eng.stageLen < ofs + d.length then refuse s stBadArg 0
  else
    let st := s.eng.stage.filter fun x => decide (x.1 < ofs) || decide (ofs + d.length ≤ x.1)
    done { s with eng := { s.eng with stage := st ++ d.zipIdx.map fun x => (ofs + x.2, x.1) } }

/-- The staged image. -/
def Engine.image (e : Engine) : List Byte :=
  (List.range e.stageLen).map fun i => ((e.stage.find? fun x => x.1 == i).map Prod.snd).getD 0

/-- The offset of the field that fails in a staged image, in the order of R476 (R475, R476). -/
def imageFault (img : List Byte) (sigOk : Bool) (minsec : Nat) : Option Nat :=
  let ns := fieldB img 12 2
  let nc := fieldB img 14 2
  if fieldB img 0 4 ≠ 0x4D434C51 then some 0
  else if ns = 0 ∨ 16384 < ns then some 12
  else if nc = 0 ∨ 2048 < nc ∨ img.length ≠ 256 + 4 * ns + 20 * nc then some 14
  else if sliceB img 16 48 ≠ sha384 (img.drop 256) then some 16
  else if !sigOk then some 64
  else if fieldB img 8 4 < minsec then some 8
  else none

/-- MC_LOAD_COMMIT. -/
def mcCommitOp (sigOk : Bool) (s : Device) : CmdOut :=
  let img := s.eng.image
  match imageFault img sigOk (s.reg .mcMinsec).toNat with
  | some d => refuse s stBadArg d
  | none =>
    if !s.plateOk then refuse s stThermal
    else
      let s1 := { s with eng := { s.eng with committed := img, stage := [], stageLen := 0 } }
      done (((s1.putReg .mcPending (BitVec.ofNat 32 (fieldB img 4 4))).setFld F.mcStatusLoading 0).setFld F.mcStatusPending 1)

/-- MC_INFO. -/
def mcInfoOp (s : Device) : CmdOut :=
  let w (r : RegName) : List Byte := leBytes 4 (s.reg r).toNat
  done s (w .mcVersion ++ w .mcPending ++ w .mcSecver ++ w .mcMinsec ++ w .mcStatus ++ zeros 12)

end Sys2Proof.Machine
end

