-- ==== Sys2Proof/Machine/CmdTable.lean ====
section
/-! DEFINITION. The table of commands (R466): the routine of each command, its opcode, the largest payload and the maximum
time of each opcode, and a command given to the device as a row of its own. -/

namespace Sys2Proof.Machine

/-- The engine takes commands: start-up is over (R519) and it has not halted (R392). -/
def Device.live (s : Device) : Bool := decide (s.phase = .running) && !s.eng.halted

/-- Opcode, largest payload (none: only the limit of the channel) and maximum time in µs of each command (R466). -/
def opTable : List (Nat × Option Nat × Nat) :=
  [(0x0101, some 0, 5), (0x0102, some 1024, 10), (0x0103, some 0, 10), (0x0201, some 4, 2), (0x0202, some 8, 2),
   (0x0203, some 8, 20), (0x0204, some 2048, 40), (0x0301, some 262152, 5000), (0x0302, some 8, 2000)] ++
  [(0x0401, none, 3000), (0x0402, none, 5000), (0x0403, some 12, 20), (0x0404, some 4, 20), (0x0405, some 4, 10),
   (0x0406, some 4, 10), (0x0501, some 272, 50), (0x0502, some 4, 10), (0x0503, some 8, 10), (0x0504, some 0, 20)] ++
  [(0x0601, some 131088, 1000), (0x0602, some 1032, 50), (0x0603, some 12, 1000), (0x0701, some 4, 50), (0x0702, some 68, 20),
   (0x0801, some 2, 200), (0x0802, some 4128, 50000), (0x0803, some 1, 1000), (0x0901, some 1, 10000), (0x0902, some 8, 100000),
   (0x0903, some 6, 20), (0x0904, some 1, 100000), (0x0905, some 24, 20)] ++
  [(0x0A01, some 8, 2000), (0x0A02, some 131088, 2000), (0x0A03, some 3, 10000), (0x0A04, some 1, 5000), (0x0A05, some 4, 20),
   (0x0A06, some 12, 100000), (0x0A07, some 2, 20), (0x0B01, some 1, 20)] ++
  [(0x0C01, some 232, 10000), (0x0C02, some 1, 20), (0x0C03, some 192, 200000), (0x0C04, some 6, 50), (0x0C05, some 6, 50),
   (0x0C06, some 1, 1000), (0x0C07, some 2, 1000), (0x0C08, some 48, 10000), (0x0D01, some 4, 100), (0x0D02, some 4104, 50),
   (0x0D03, some 0, 200000), (0x0D04, some 0, 5), (0x0F01, some 80, 2), (0x0F02, some 0, 2), (0x0F03, some 0, 5)]

/-- The row of an opcode; none where the opcode is not listed. -/
def opRow (op : Nat) : Option (Option Nat × Nat) := (opTable.find? fun x => x.1 == op).map Prod.snd

/-- TIMED is allowed on an opcode (R457). -/
def mayTime (op : Nat) : Bool := op == 0x0202 || op == 0x0204 || op == 0x0502 || op == 0x0503

/-- CAL_COMMIT draws a signature only where a set of the mask has changed (R366, R480). -/
def calCommitRandom (mask : Nat) (s : Device) : CmdOut :=
  if s.cal.changed.any (bitOf mask) then needRandom (calCommitOp mask) s else calCommitOp mask s

/-- CAL_TPOINT draws a signature only where it adds a set (R366, R480). -/
def calTpointRandom (n t : Nat) (s : Device) : CmdOut :=
  if t = 0 then calTpointOp n t s else needRandom (calTpointOp n t) s

/-- MEM_REPAIR_ADD of a payload. -/
def repairOp (r : Repair) (s : Device) : CmdOut := memRepairOp r.kind r.stack r.ch r.pc r.bg r.bank r.row s

/-- The routine of a command: its context, opcode and effect; none for what is no command packet. -/
def commandOf : Instr → Option (Ctx × Nat × (Device → CmdOut))
  | .identify c => some (c, 0x0101, identifyOp)
  | .echo c d => some (c, 0x0102, echoOp d)
  | .summary c => some (c, 0x0103, summaryOp)
  | .regRead c a => some (c, 0x0201, regReadOp c.sess a)
  | .regWrite c a v => some (c, 0x0202, regWriteOp c.sess a (v % 2 ^ 32))
  | .regReadMulti c a n => some (c, 0x0203, regReadMultiOp c.sess a n)
  | .regWriteList c ps => some (c, 0x0204, regWriteListOp c.sess ps)
  | .progLoad c k n a ins => some (c, 0x0301, progLoadOp c.sess k n a ins)
  | .progRead c k n a m => some (c, 0x0302, progReadOp k n a m)
  | .segLoad c f n home h d => some (c, 0x0401, segLoadOp c.sess f n home h d)
  | .libStore c line h d => some (c, 0x0402, libStoreOp line h d)
  | .segBind c f n home line => some (c, 0x0403, segBindOp c f n home line)
  | .segFetch c f n => some (c, 0x0404, segFetchOp c.sess f n)
  | .segFree c f n => some (c, 0x0405, segFreeOp c.sess f n)
  | .segInfo c f n => some (c, 0x0406, segInfoOp f n)
  | .runStart c x es => some (c, 0x0501, runStartOp c.sess x es)
  | .runJump c k tgt => some (c, 0x0502, fun s => runJumpOp c.sess k tgt (c.timed.getD s.issueIndex) s)
  | .outputEnable c m => some (c, 0x0503, outputEnableOp c.sess m)
  | .runStatus c => some (c, 0x0504, runStatusOp)
  | .kernLoad c i a taps => some (c, 0x0601, kernLoadOp c.sess i a taps)
  | .dprogLoad c i a ws => some (c, 0x0602, dprogLoadOp c.sess i a ws)
  | .kernRead c i a n => some (c, 0x0603, kernReadOp c.sess i a n)
  | .budBlockinfo c k a => some (c, 0x0701, budBlockinfoOp c.sess k a)
  | .budAttnWrite c p row => some (c, 0x0702, attnRowOp c.sess p row)
  | .benchRingRead c n => some (c, 0x0801, benchRingReadOp n)
  | .curveLoad c img => some (c, 0x0802, needRandom (curveLoadOp img))
  | .curveRead c n => some (c, 0x0803, curveReadOp n)
  | .calSetRead c n => some (c, 0x0901, calSetReadOp n)
  | .calTpoint c n t => some (c, 0x0902, calTpointRandom n t)
  | .calRun c m a b => some (c, 0x0903, calRunOp m a b)
  | .calCommit c m => some (c, 0x0904, calCommitRandom m)
  | .calXfer c n v u => some (c, 0x0905, calXferOp n v u)
  | .memRead c a n => some (c, 0x0A01, memReadOp c a n)
  | .memWrite c a d => some (c, 0x0A02, memWriteOp c a d)
  | .memSetclass c a n k => some (c, 0x0A03, memSetclassOp c a n k)
  | .memThaw c x => some (c, 0x0A04, memThawOp x)
  | .memDiag c line => some (c, 0x0A05, memDiagOp c.sess line)
  | .memRepairAdd c r => some (c, 0x0A06, repairOp r)
  | .memScrubNow c a n => some (c, 0x0A07, memScrubNowOp a n)
  | .linkStats c p => some (c, 0x0B01, linkStatsOp p)
  | .sessionOpen c r => some (c, 0x0C01, sessionOpenOp c r)
  | .sessionClose c n => some (c, 0x0C02, sessionCloseOp c n)
  | .ownerEnroll c key ok => some (c, 0x0C03, ownerEnrollOp c key ok)
  | .resSeal c k a x n => some (c, 0x0C04, resSealOp c.sess k a x n)
  | .resRelease c k a x n => some (c, 0x0C05, resReleaseOp c.sess k a x n)
  | .certRead c n => some (c, 0x0C06, certReadOp n)
  | .colophonRead c n peek => some (c, 0x0C07, colophonReadOp n peek)
  | .attest c nonce => some (c, 0x0C08, attestOp nonce)
  | .mcLoadBegin c n => some (c, 0x0D01, mcBeginOp n)
  | .mcLoadData c o d => some (c, 0x0D02, mcDataOp o d)
  | .mcLoadCommit c ok => some (c, 0x0D03, mcCommitOp ok)
  | .mcInfo c => some (c, 0x0D04, mcInfoOp)
  | .stop c cs rs tg => some (c, 0x0F01, stopOp c.sess cs rs tg)
  | .muteAll c => some (c, 0x0F02, muteAllOp)
  | .abort c => some (c, 0x0F03, abortOp c.sess)
  | _ => none

/-- The engine's own maximum time of a command in fabric cycles (R459, R466). -/
def maxCycles (op : Nat) (cmd : Instr) : Nat :=
  let us := match opRow op with | some (_, t) => t | none => 0
  500 * us * (match cmd with | .memSetclass _ _ n _ => n | _ => 1)

/-- A command given to the device as a row of its own: it runs from acceptance to its final reply (R452, R453), or waits in the
timed table (R458). TIMED on another opcode is refused as check 6 of R451 refuses it. -/
def direct (cmd : Instr) (c : Ctx) (opcode : Nat) (op : Device → CmdOut) (s : Device) : Device :=
  if !s.live then s
  else if c.timed.isSome && !(mayTime opcode) then (refuse s stBadArg).finish c opcode
  else runTimed c opcode cmd op s

/-- A REG_WRITE given as a row of its own. -/
def regRow (c : Ctx) (r : RegName) (i j v : Nat) (s : Device) : Device :=
  direct (.regWrite c (r.addr i j) v) c 0x0202 (writeReg c.sess r i j 0 (v % 2 ^ 32)) s

/-- v with bit b clear. -/
def offBit (v b : Nat) : Nat := if bitOf v b then v - 2 ^ b else v

/-- An effect on the device, whatever waits in the queue. -/
def State.act (f : Device → Device) (s : State) : State := { s with dev := f s.dev }

/-- A happening of the running device; in reset, during start-up and after a stop it has no effect (R516, R519, R522). -/
def awake (f : Device → Device) (s : Device) : Device := if s.phase = .running then f s else s

/-- The register that word w of an alarm is (R64). -/
def alarmReg (w : Fin 4) : RegName :=
  if w.val = 0 then .tbTaLo else if w.val = 1 then .tbTaHi else if w.val = 2 then .tbTaPer else .tbTaCtrl

end Sys2Proof.Machine
end

