-- ==== Sys2Proof/Machine/Layout.lean ====
section
/-! DEFINITION. The payload layouts of the commands (R466, R509): from the bytes of a payload to the command. -/

namespace Sys2Proof.Machine

/-- A payload as its opcode's layout reads it: whether its length is the layout's, the command, and the bits that must be 0
(byte offset, mask over the four bytes from it). -/
structure Laid where
  fits : Bool
  cmd : Instr
  resv : List (Nat × Nat) := []
  deriving DecidableEq, Repr

/-- Whole bytes [a, b] that must be 0. -/
def resvBytes (a b : Nat) : List (Nat × Nat) := (List.range (b + 1 - a)).map fun i => (a + i, 255)

/-- The offset of the first reserved bits that are not 0. -/
def Laid.resvFault (l : Laid) (d : List Byte) : Option Nat :=
  (l.resv.find? fun x => (fieldB d x.1 4) &&& x.2 != 0).map Prod.fst

/-- n numbers of w bytes from byte a on. -/
def numsB (d : List Byte) (a w n : Nat) : List Nat := (List.range n).map fun i => fieldB d (a + w * i) w

/-- The header fields of SEG_LOAD and LIB_STORE, with the offset of KIND. -/
def headB (d : List Byte) (koff : Nat) : SegHead := ⟨fieldB d 8 4, fieldB d 12 4, fieldB d koff 1, fieldB d 16 4⟩

/-- The entry of RUN_START in a word. -/
def entryB (w : Nat) : RunEntry := ⟨bitsOf w 9 0, bitsOf w 30 16, bitOf w 31⟩

/-- A tap in four bytes: I first (R221). -/
def tapB (w : Nat) : Int × Int := (toSigned 16 (w % 65536), toSigned 16 (w / 65536))

/-- SESSION_OPEN's payload (R509). -/
def openB (d : List Byte) (sigOk : Bool) : OpenReq :=
  { s := fieldB d 0 1, takeover := bitOf (fieldB d 1 1) 0, openCtr := fieldB d 4 4,
    sigZero := (sliceB d 136 96).all (· == 0), sigOk := sigOk, hostKey := sliceB d 8 96, hostNonce := sliceB d 104 32 }

/-- Groups 0x01 to 0x03. -/
def laidLow (op : Nat) (c : Ctx) (d : List Byte) : Option Laid :=
  let n := d.length
  let f := fieldB d
  if op = 0x0101 then some { fits := n == 0, cmd := .identify c }
  else if op = 0x0102 then some { fits := decide (n ≤ 1024), cmd := .echo c d }
  else if op = 0x0103 then some { fits := n == 0, cmd := .summary c }
  else if op = 0x0201 then some { fits := n == 4, cmd := .regRead c (f 0 4) }
  else if op = 0x0202 then some { fits := n == 8, cmd := .regWrite c (f 0 4) (f 4 4) }
  else if op = 0x0203 then some { fits := n == 8, cmd := .regReadMulti c (f 0 4) (f 4 4) }
  else if op = 0x0204 then
    some { fits := n % 8 == 0 && n != 0, cmd := .regWriteList c ((List.range (n / 8)).map fun i => (f (8 * i) 4, f (8 * i + 4) 4)) }
  else if op = 0x0301 then
    some { fits := n == 8 + 8 * f 4 4, cmd := .progLoad c (f 0 1) (f 1 1) (f 2 2) (numsB d 8 8 ((n - 8) / 8)) }
  else if op = 0x0302 then some { fits := n == 8, cmd := .progRead c (f 0 1) (f 1 1) (f 2 2) (f 4 4) }
  else none

/-- Groups 0x04 to 0x07. -/
def laidMid (op : Nat) (c : Ctx) (d : List Byte) : Option Laid :=
  let n := d.length
  let f := fieldB d
  if op = 0x0401 then
    some { fits := n == 24 + f 16 4 * sampleBytes (f 1 1), cmd := .segLoad c (f 0 1) (f 2 2) (f 4 4) (headB d 1) (d.drop 24), resv := resvBytes 20 23 }
  else if op = 0x0402 then
    some { fits := n == 24 + f 16 4 * sampleBytes (f 4 1), cmd := .libStore c (f 0 4) (headB d 4) (d.drop 24),
           resv := resvBytes 5 7 ++ resvBytes 20 23 }
  else if op = 0x0403 then some { fits := n == 12, cmd := .segBind c (f 0 1) (f 2 2) (f 4 4) (f 8 4), resv := [(1, 255)] }
  else if op = 0x0404 then some { fits := n == 4, cmd := .segFetch c (f 0 1) (f 2 2), resv := [(1, 255)] }
  else if op = 0x0405 then some { fits := n == 4, cmd := .segFree c (f 0 1) (f 2 2), resv := [(1, 255)] }
  else if op = 0x0406 then some { fits := n == 4, cmd := .segInfo c (f 0 1) (f 2 2), resv := [(1, 255)] }
  else if op = 0x0501 then
    some { fits := n == 16 + 4 * f 8 2, cmd := .runStart c (f 0 8) ((numsB d 16 4 ((n - 16) / 4)).map entryB),
           resv := resvBytes 10 15 ++ (List.range ((n - 16) / 4)).map fun i => (16 + 4 * i, 0xFC00) }
  else if op = 0x0502 then some { fits := n == 4, cmd := .runJump c (f 0 2) (f 2 2) }
  else if op = 0x0503 then some { fits := n == 8, cmd := .outputEnable c (f 0 8) }
  else if op = 0x0504 then some { fits := n == 0, cmd := .runStatus c }
  else if op = 0x0601 then
    some { fits := n == 16 + 4 * f 8 4, cmd := .kernLoad c (f 0 1) (f 4 4) ((numsB d 16 4 ((n - 16) / 4)).map tapB),
           resv := resvBytes 1 3 ++ resvBytes 12 15 }
  else if op = 0x0602 then
    some { fits := n == 8 + 4 * f 2 2, cmd := .dprogLoad c (f 0 1) (f 1 1) (numsB d 8 4 ((n - 8) / 4)), resv := resvBytes 4 7 }
  else if op = 0x0603 then some { fits := n == 12, cmd := .kernRead c (f 0 1) (f 4 4) (f 8 4), resv := resvBytes 1 3 }
  else if op = 0x0701 then some { fits := n == 4, cmd := .budBlockinfo c (f 0 2) (f 2 2) }
  else if op = 0x0702 then some { fits := n == 68, cmd := .budAttnWrite c (f 0 2) (numsB d 4 4 16), resv := resvBytes 2 3 }
  else none

/-- Groups 0x08 to 0x0B. -/
def laidHigh (op : Nat) (c : Ctx) (d : List Byte) : Option Laid :=
  let n := d.length
  let f := fieldB d
  if op = 0x0801 then some { fits := n == 2, cmd := .benchRingRead c (f 0 2) }
  else if op = 0x0802 then some { fits := n == 32 + 16 * f 4 2, cmd := .curveLoad c d }
  else if op = 0x0803 then some { fits := n == 1, cmd := .curveRead c (f 0 1) }
  else if op = 0x0901 then some { fits := n == 1, cmd := .calSetRead c (f 0 1) }
  else if op = 0x0902 then some { fits := n == 8, cmd := .calTpoint c (f 0 1) (f 4 4), resv := resvBytes 1 3 }
  else if op = 0x0903 then some { fits := n == 6, cmd := .calRun c (f 0 2) (f 2 2) (f 4 2) }
  else if op = 0x0904 then some { fits := n == 1, cmd := .calCommit c (f 0 1) }
  else if op = 0x0905 then some { fits := n == 24, cmd := .calXfer c (f 0 1) (f 8 8) (f 16 8), resv := resvBytes 1 7 }
  else if op = 0x0A01 then some { fits := n == 8, cmd := .memRead c (f 0 4) (f 4 4) }
  else if op = 0x0A02 then some { fits := n == 16 + f 8 4, cmd := .memWrite c (f 0 8) (d.drop 16), resv := resvBytes 12 15 }
  else if op = 0x0A03 then some { fits := n == 3, cmd := .memSetclass c (f 0 1) (f 1 1) (f 2 1) }
  else if op = 0x0A04 then some { fits := n == 1, cmd := .memThaw c (f 0 1) }
  else if op = 0x0A05 then some { fits := n == 4, cmd := .memDiag c (f 0 4) }
  else if op = 0x0A06 then
    some { fits := n == 12, cmd := .memRepairAdd c ⟨f 0 1, f 1 1, f 2 1, f 3 1, f 4 1, f 5 1, f 8 4⟩, resv := resvBytes 6 7 }
  else if op = 0x0A07 then some { fits := n == 2, cmd := .memScrubNow c (f 0 1) (f 1 1) }
  else if op = 0x0B01 then some { fits := n == 1, cmd := .linkStats c (f 0 1) }
  else none

/-- Groups 0x0C, 0x0D and 0x0F. -/
def laidTop (op : Nat) (c : Ctx) (sigOk : Bool) (d : List Byte) : Option Laid :=
  let n := d.length
  let f := fieldB d
  if op = 0x0C01 then some { fits := n == 232, cmd := .sessionOpen c (openB d sigOk), resv := (1, 0xFE) :: resvBytes 2 3 }
  else if op = 0x0C02 then some { fits := n == 1, cmd := .sessionClose c (f 0 1) }
  else if op = 0x0C03 then some { fits := n == 192, cmd := .ownerEnroll c (d.take 96) sigOk }
  else if op = 0x0C04 then some { fits := n == 6, cmd := .resSeal c (f 0 1) (f 1 1) (f 2 2) (f 4 2) }
  else if op = 0x0C05 then some { fits := n == 6, cmd := .resRelease c (f 0 1) (f 1 1) (f 2 2) (f 4 2) }
  else if op = 0x0C06 then some { fits := n == 1, cmd := .certRead c (f 0 1) }
  else if op = 0x0C07 then some { fits := n == 2, cmd := .colophonRead c (f 0 1) (bitOf (f 1 1) 0), resv := [(1, 0xFE)] }
  else if op = 0x0C08 then some { fits := n == 48, cmd := .attest c d }
  else if op = 0x0D01 then some { fits := n == 4, cmd := .mcLoadBegin c (f 0 4) }
  else if op = 0x0D02 then some { fits := decide (9 ≤ n) && decide (n ≤ 4104), cmd := .mcLoadData c (f 0 4) (d.drop 8), resv := resvBytes 4 7 }
  else if op = 0x0D03 then some { fits := n == 0, cmd := .mcLoadCommit c sigOk }
  else if op = 0x0D04 then some { fits := n == 0, cmd := .mcInfo c }
  else if op = 0x0F01 then
    some { fits := n == 80, cmd := .stop c (f 0 64) (f 64 8) (f 72 2), resv := resvBytes 74 79 }
  else if op = 0x0F02 then some { fits := n == 0, cmd := .muteAll c }
  else if op = 0x0F03 then some { fits := n == 0, cmd := .abort c }
  else none

/-- The command that a payload spells under an opcode; none where the opcode is not listed. -/
def layout (op : Nat) (c : Ctx) (sigOk : Bool) (d : List Byte) : Option Laid :=
  match laidLow op c d with
  | some l => some l
  | none => match laidMid op c d with
    | some l => some l
    | none => match laidHigh op c d with
      | some l => some l
      | none => laidTop op c sigOk d

end Sys2Proof.Machine
end

