-- ==== Sys2Proof/Machine/SramScrub.lean ====
section
/-! DEFINITION. The SRAM scrub (R374, R392, R395): the errors that its row brings to a word's cells, what they change of the data as
they are delivered, and what it does with a word that is wrong. -/

namespace Sys2Proof.Machine

/-- Bytes changed where an error pattern's delivered data differ. -/
def xorBytes (x : List Byte) (b : List Byte) : List Byte := b.zipIdx.map fun y => y.1 ^^^ x.getD y.2 0

/-- n bytes of a byte memory change. -/
def xorCells (x : List Byte) (a : Nat) (m : List Host.Cell) : List Host.Cell := cellPuts m a (xorBytes x (cellGets m a x.length))

/-- A number of some bytes changes. -/
def xorNat (x : List Byte) (v : Nat) : Nat := v ^^^ leNat x

/-- Part j of some bytes, w bytes wide. -/
def partB (x : List Byte) (j w : Nat) : List Byte := sliceB x (w * j) w

/-- The delivered data of a word change by 32 bytes (R370, R374). -/
def xorWord (region inst word : Nat) (x : List Byte) (s : Device) : Device :=
  match region with
  | 0 => { s with galley := xorCells x (galByte inst word) s.galley }
  | 1 => { s with galley := xorCells x (galByte inst (s.segArea inst + word)) s.galley }
  | 2 => { s with prog := (List.range 4).foldl (fun m j =>
      let k := 32768 * inst + 4 * word + j; sput m k (xorNat (partB x j 8) (sget 0 m k))) s.prog }
  | 3 => { s with kernels := (List.range 8).foldl (fun m j =>
      let k := 32768 * inst + 8 * word + j
      sput m k (sget (0 : Word) m k ^^^ BitVec.ofNat 32 (leNat (partB x j 4)))) s.kernels }
  | 4 => (List.range 8).foldl (fun t j =>
      let a := 8 * word + j
      t.putReg .ipDprog (t.reg .ipDprog inst a ^^^ BitVec.ofNat 32 (leNat (partB x j 4))) inst a) s
  | 5 =>
    let y := s.input inst
    s.putInput inst { y with ring := y.ring.zipIdx.map fun (r, j) =>
      if (y.gone + j) % 1024 = word then { r with flip := if r.flip.isEmpty then x else xorBytes x r.flip } else r }
  | 6 =>
    let y := s.input inst
    s.putInput inst { y with held := y.held.zipIdx.map fun (l, j) =>
      if (y.drained + j) % 512 = word then (l.1, xorBytes x l.2.1, l.2.2) else l }
  | 7 => s.updBench fun b => { b with ring := (List.range 2).foldl (fun m j =>
      let k := 2 * word + j; sput m k (xorBytes (partB x j 16) (sget (zeros 16) m k))) b.ring }
  | _ => s

/-- A word's cells take errors: its error pattern grows, and the data that it delivers change with it. -/
def sramTake (region inst word : Nat) (errs : List (Nat × Nat)) (s : Device) : Device :=
  if errs.isEmpty then s
  else
    let was := s.sramErrsAt region inst word
    let now := was ++ errs
    let d (e : List (Nat × Nat)) : List Byte := natBytes (errDecode (sramClass region) e).data
    let x := xorBytes (d was) (d now)
    let s1 := putSramErrs region inst word now s
    if x.all (· == 0) then s1 else xorWord region inst word x s1

/-- The next word to leave the capture buffer of input i takes errors (R190, R391). -/
def bufferTakes (i : Nat) (errs : List (Nat × Nat)) (s : Device) : Device := sramTake 6 i (s.input i).drained errs s

/-- What an uncorrectable word that scrub reads does beside the counts (R374, R392); in the other regions it is the user of the word
that meets it. -/
def sramEffect (region inst word : Nat) (s : Device) : Device :=
  match region with
  | 0 => galleyLost inst word s
  | 3 | 4 => faultSeq (512 + inst) s
  | 9 | 10 | 11 => { s with eng := { s.eng with halted := true } }
  | _ => s

/-- SRAM_SCRUB reads one word, whose cells have taken errors since (byte number, bits): a corrected word is rewritten, and the last word
of the last region completes a pass (R395). -/
def sramScrubOp (region inst word : Nat) (errs : List (Nat × Nat)) (s0 : Device) : Device :=
  let s := sramTake region inst word errs s0
  if !(s.flag F.memCtrlSramScrubEn) then s
  else
    let e := s.sramErrsAt region inst word
    let d := errDecode (sramClass region) e
    let s1 :=
      if e.isEmpty then s
      else if d.bad then sramEffect region inst word (sramBadWord region inst word s)
      else if d.fixed then putSramErrs region inst word [] (sramCorrected s)
      else s
    if region = 11 ∧ word = 73727 then s1.addFld F.memSramPasses 1 else s1

/-- The first uncorrectable word of the command engine's stores: region, instance 0 and word (R374, R392). -/
def Device.workBad (s : Device) : Option (Nat × Nat) :=
  (s.sramErrs.filter fun x => decide (sramKey 9 0 0 ≤ x.1) && (errDecode 0 x.2).bad).head?.map fun x =>
    (x.1 / 2 ^ 17 / 128, x.1 % 2 ^ 17)

/-- The command engine meets an uncorrectable word of its stores and halts (R392). -/
def engineWord (s : Device) : Device :=
  match s.workBad with
  | some (r, w) => sramEffect r 0 w (sramBadWord r 0 w s)
  | none => s

end Sys2Proof.Machine
end

