-- ==== Sys2Proof/Machine/Engine.lean ====
section
/-! DEFINITION. The command engine (spec/16_commands_firmware.md): the checks of an arriving packet, the replay window,
acceptance, committed steps, the timed table, URGENT commands, timeouts and the MGMT SPI. -/

namespace Sys2Proof.Machine

/-! ### Checks of an arriving packet (R450, R451, R454, R489) -/

/-- The context of a packet. -/
def packetCtx (p : Packet) : Ctx := ⟨p.sess, p.via, p.seq, p.ack, if p.timed then some p.execAt else none⟩

/-- A packet may be opened without keys (R483). -/
def opensSession (p : Packet) : Bool := p.opcode == 0x0C01

/-- The COUNT under which a packet's tag verifies for an open session on its own transport, among the 16 tried (R485, R487, R489). -/
def Device.tagCount (s : Device) (r : RawPacket) (sess : Nat) : Option Nat :=
  let x := s.session sess
  if x.isOpen ∧ x.via = r.via then x.tagCount r.vc (x.rx.getD (vcSlot r.vc) 0) r.header r.body r.tag else none

/-- The payload frames of a packet decrypted under its COUNT; in clear where none verifies, and of SESSION_OPEN (R483, R487). -/
def Device.plain (s : Device) (r : RawPacket) (sess : Nat) (count : Option Nat) : List Byte :=
  match (if fieldB r.header 0 2 = 0x0C01 then none else count) with
  | some c => let x := s.session sess; counterMode (x.key 0) (x.iv 0 r.vc c) 0 r.body
  | none => r.body

/-- What the engine reads of a packet: the fields of its header frame (R449), the COUNT of its tag, and its payload. -/
def Device.openPacket (s : Device) (r : RawPacket) : Packet :=
  let f := fieldB r.header
  let fl := f 4 1
  let c := if f 0 2 = 0x0C01 then (if r.tag = zeros 16 then some 0 else none) else s.tagCount r (fl % 8)
  { via := r.via, vc := r.vc, opcode := f 0 2, dest := f 2 2, sess := fl % 8, urgent := bitOf fl 3, ack := bitOf fl 4, timed := bitOf fl 5,
    resvOk := decide (f 0 2 < 2 ^ 15) && decide (fl < 64) && f 5 3 == 0 && f 24 8 == 0,
    seq := f 8 4, length := f 12 4, execAt := f 16 8, frames := 2 + ceilDiv r.body.length 32, tag := c, sigOk := r.sigOk,
    payload := sliceB (s.plain r (fl % 8) c) 0 (min (f 12 4) 1048576) }

/-- The URGENT bit of a packet's header frame (R449). -/
def isUrgent (r : RawPacket) : Bool := bitOf (fieldB r.header 4 1) 3

/-- The session expects the COUNT after the one accepted (R489). -/
def countRx (n vc c : Nat) (s : Device) : Device :=
  let x := s.session n
  s.putSession n { x with rx := listSet x.rx (vcSlot vc) (c + 1) }

/-- A packet that fails a check is answered, and the reply is recorded or not (R451). -/
def answerCheck (p : Packet) (record : Bool) (status detail : Nat) (s : Device) : Device :=
  let r := mkReply s (packetCtx p) p.opcode 0 status 0 s.ssi detail []
  if record && !(opensSession p) then (s.sendReply r).recordReply r else s.sendReply r

/-- The tag fails (R451, R490). -/
def tagFails (p : Packet) (s : Device) : Device :=
  let up := (s.session p.sess).isOpen
  if p.vc = 3 then if up then s.addFld F.secSessfail 1 p.sess else s
  else
    let s1 := ((s.addFld F.ceAuthfail 1).setFlag F.ceAlertAuth).presentNow (ceEvent 0)
    if up then answerCheck p false stAuthFail 0 s1 else s1

/-- LENGTH or the frame count breaks R450. -/
def packetTooLong (p : Packet) : Bool :=
  let top := if p.vc = 3 then 1048576 else 4096
  let own := match opRow p.opcode with | some (some n, _) => n | _ => top
  decide (top < p.length) || decide (own < p.length) || p.frames != 2 + ceilDiv p.length 32

/-- d of R454. -/
def seqDist (q h : Nat) : Int := toSigned 32 ((q + 2 ^ 32 - h) % 2 ^ 32)

/-- What the replay window says of a sequence number (R454). -/
inductive SeqJudge where
  | fresh
  | stale
  | staleAgain
  | again (m : SeqMark)
  deriving DecidableEq, Repr

def Session.judge (x : Session) (q : Nat) : SeqJudge :=
  let d := seqDist q x.h
  if 0 < d then .fresh
  else if d ≤ -4096 then .stale
  else match sfind x.marks q with
    | some m => .again m
    | none => if x.first && decide (2 ^ 32 - 4096 ≤ q) then .staleAgain else .fresh

/-- A reply sent with DUP set counts (R455). -/
def countDup (s : Device) : Device := (s.addFld F.ceDups 1).monitor 269 1

/-- A reply of status STALE_SEQ counts (R478). -/
def countStale (s : Device) : Device := (s.addFld F.ceStale 1).presentNow (ceEvent 1)

/-- A packet whose number is not new is answered by the window (R454, R455). -/
def answerSeq (p : Packet) (j : SeqJudge) (s : Device) : Device :=
  match j with
  | .fresh => s
  | .stale => answerCheck p false stStaleSeq 0 (countStale s)
  | .staleAgain =>
    let s1 := countDup (countStale s)
    s1.sendReply (mkReply s1 (packetCtx p) p.opcode flDup stStaleSeq 0 s.ssi 0 [])
  | .again .executing =>
    let s1 := countDup s
    s1.sendReply (mkReply s1 (packetCtx p) p.opcode flDup stDup 0 s.ssi 0 [])
  | .again (.recorded status flags steps at_ detail data len op) =>
    let s1 := countDup s
    s1.sendReply { mkReply s1 (packetCtx p) op (flags ||| flDup) status steps at_ detail data with length := len }

/-- Checks 4 to 7 of R451: status and DETAIL of the first that fails. -/
def lateChecks (p : Packet) (s : Device) : Option (Nat × Nat) :=
  let urgentOk := !p.urgent || (p.opcode / 256 == 0x0F && (p.vc == 0 || p.via == 8))
  let timedOk := !p.timed || (mayTime p.opcode && !p.urgent)
  if p.dest ≠ s.fld F.lkDevidDevid ∧ p.dest ≠ 0x3FFF then some (stBadArg, s.fld F.lkDevidDevid)
  else if (opRow p.opcode).isNone then some (stBadOpcode, 0)
  else if !p.resvOk || !urgentOk || !timedOk || (!p.timed && p.execAt != 0) then some (stBadArg, 0)
  else if p.timed then
    if 64 ≤ s.eng.timed.length ∨ s.fld F.tbStatusRegState = 1 then some (stBusy, 0)
    else if s.ssi + timedMax < p.execAt then some (stBadArg, 0)
    else none
  else none

/-- A new packet passes R451: H moves, numbers outside the window are dropped, and the number is marked (R454). -/
def takeSeq (p : Packet) (s : Device) : Device :=
  if opensSession p then s
  else
    let x := s.session p.sess
    let h := if 0 < seqDist p.seq x.h then p.seq else x.h
    let inside (q : Nat) : Bool := decide (-4096 < seqDist q h) && decide (seqDist q h ≤ 0)
    s.putSession p.sess { x with
      h := h, first := x.first && !(decide (4095 ≤ h) && decide (h < 2 ^ 31))
      marks := sput (x.marks.filter fun m => inside m.1) p.seq .executing }

/-- A packet that passes every check joins its queue (R452, R461). -/
def enqueue (p : Packet) (s : Device) : Device :=
  if p.urgent then
    if 4 ≤ s.eng.urgq.length then
      answerCheck p true stBusy 0 ((s.setFlag F.ceAlertUrgentFull).presentNow (ceEvent 6))
    else { s with eng := { s.eng with urgq := s.eng.urgq ++ [(p, s.cycle)] } }
  else { s with eng := { s.eng with queue := s.eng.queue ++ [p] } }

/-- Checks 2 to 7 of R451, once the tag has verified. -/
def judgeRest (p : Packet) (s : Device) : Device :=
  let j : SeqJudge := if opensSession p then .fresh else (s.session p.sess).judge p.seq
  if packetTooLong p then answerCheck p false stBadLength 0 s
  else if j ≠ .fresh then answerSeq p j s
  else match lateChecks p s with
    | some (status, detail) => answerCheck p true status detail s
    | none => enqueue p (takeSeq p s)

/-- A packet arrives (R451). SESSION_OPEN has a tag of zeros (R483). -/
def judgePacket (p : Packet) (s : Device) : Device :=
  if !s.live then s
  else match p.tag with
    | some c => judgeRest p (if opensSession p then s else countRx p.sess p.vc c s)
    | none => tagFails p s

/-! ### Packets on the link ports and on the MGMT SPI (R430, R437, R438, R472) -/

/-- The packet that the frames of a port spell, its tag frame last (R430). -/
def packetOf (p vc : Nat) (sigOk : Bool) (fs : List (List Byte)) : RawPacket :=
  { via := p, vc := vc, header := fs.headD [], body := (fs.drop 1).dropLast.flatten, tag := sliceB (fs.getLastD []) 0 16, sigOk := sigOk }

/-- The refill packet that a header frame and its data spell (R147). -/
def refillOf (h data : List Byte) : Refill :=
  let f := fieldB h
  { sess := f 2 1 % 8, forme := f 3 1 % 64, ring := f 4 1 % 16, count := f 5 1, pos := f 8 4,
    resvOk := decide (f 0 2 < 2 ^ 14) && decide (f 2 1 < 8) && decide (f 3 1 < 64) && decide (f 4 1 < 16) && f 6 2 == 0
      && fieldB h 12 20 == 0,
    data := data }

/-- A refill packet arrives: one whose tag fails counts against its session (R490). -/
def refillPacketOp (r : RawPacket) (s : Device) : Device :=
  if !s.live then s
  else
    let n := fieldB r.header 2 1 % 8
    match s.tagCount r n with
    | some c => refillOp (refillOf r.header (s.plain r n (some c))) (countRx n 2 c s)
    | none => if (s.session n).isOpen then s.addFld F.secSessfail 1 n else s

/-- A packet is read and judged (R451). -/
def judgeRaw (r : RawPacket) (s : Device) : Device := judgePacket (s.openPacket r) s

/-- A packet completes on a host port: judged, or kept in the link buffer while the queue is full (R450). An URGENT packet is read
out ahead (R461). -/
def portPacket (p : Nat) (r : RawPacket) (s : Device) : Device :=
  if (s.queueRoom && (s.link p).waitp.isEmpty) || (isUrgent r && r.vc == 0) then judgeRaw r s
  else s.updLink p fun x => { x with waitp := x.waitp ++ [r] }

/-- Packets waiting at port p are judged while the queue has room; then the credits kept with them go back (R437, R450). -/
def drainPort (p : Nat) : Nat → Device → Device
  | 0, s => s
  | n + 1, s =>
    match (s.link p).waitp with
    | [] => if s.queueRoom then s.updLink p fun x => { x with back := (List.zipWith (· + ·) x.back x.owe), owe := [0, 0, 0] } else s
    | k :: rest => if s.queueRoom then drainPort p n (judgeRaw k (s.updLink p fun x => { x with waitp := rest })) else s

/-- The packet that the MGMT SPI holds is judged once the queue has room (R472). -/
def drainSpi (s : Device) : Device :=
  match s.eng.put with
  | some k => if s.queueRoom then judgeRaw k { s with eng := { s.eng with put := none } } else s
  | none => s

/-- Room in the queue lets waiting packets in. -/
def drainAll (s : Device) : Device :=
  drainSpi (forAllDo (List.range 8) (fun p t => drainPort p ((t.link p).waitp.length + 1) t) s)

/-- An attestation message on a peer-role port (R491): what verifies of its signature and of its certificates is open. -/
def attestMessage (r : RawPacket) (s : Device) : Device :=
  let payload := sliceB r.body 0 (min (fieldB r.header 12 4) r.body.length)
  let (n, s1) := s.draw
  match fieldB r.header 0 2 with
  | 0x7F01 => s1.mail (.helloRx (Fin.ofNat 8 r.via) ⟨payload, n % 2 == 1, n / 2 % 2 == 1⟩)
  | 0x7F02 => s1.mail (.finishRx (Fin.ofNat 8 r.via) ⟨payload, r.tag⟩ (n % 2 == 1))
  | _ => s

/-- The frames of a packet on a channel of port p, complete with its tag frame. -/
def packetDone (p vc : Nat) (sigOk : Bool) (fs : List (List Byte)) (s : Device) : Device :=
  if s.isPeer p then attestMessage (packetOf p vc sigOk fs) s
  else if vc = 2 then refillPacketOp (packetOf p 2 sigOk fs) s
  else portPacket p (packetOf p vc sigOk fs) s

/-- FRAME_RX (R425, R438, R439): the good expected frame is delivered; any other expected arrival is a failure, and a frame already
taken is ignored. -/
def frameRxOp (p : Nat) (f : Frame) (s : Device) : Device :=
  if !(s.linkOpen p) then s
  else if frameGood f && frameSeq f == (s.link p).expect then
    match deliverFrame p f s with
    | (s1, some fs) => packetDone p (frameVc f) f.sigOk fs s1
    | (s1, none) => if frameVc f = 1 then tagFrameOp p (frameTags f) s1 else s1
  else frameFailure p (frameGood f) s

/-! ### Acceptance and committed steps (R452, R458, R464) -/

/-- A refusal for reserved payload bits that are not 0, unless the routine itself refuses a field that stands before them. -/
def judgeResv (resv : Option Nat) (op : Device → CmdOut) (s : Device) : CmdOut :=
  match resv with
  | none => op s
  | some d =>
    let o := op s
    if o.status = stBadArg ∧ o.detail < d then o else refuse s stBadArg d

/-- The final reply of a routine. SESSION_OPEN's is not recorded (R483). -/
def Routine.answer (r : Routine) (o : CmdOut) : Device :=
  if r.opcode = 0x0C01 then
    let o1 := r.outcome o
    if o.later then o.st else o.st.sendReply (mkReply o1.st r.ctx r.opcode r.flags o1.status o1.steps o1.at_ o1.detail o1.data)
  else r.reply o

/-- The next step of a routine: what it answers, and whether it was the last. -/
def Routine.step (r : Routine) (s : Device) : CmdOut × Bool :=
  match r.cmd with
  | .progLoad c k n a ins =>
    let o := progStepOp c.sess k n a ins r.steps s
    (o, decide (progSteps ins ≤ r.steps + 1))
  | .regWriteList c ps =>
    match ps[r.steps]? with
    | some (a, v) =>
      let o := regWriteOp c.sess a (v % 2 ^ 32) s
      ({ o with detail := if o.status = stOk then 0 else r.steps }, decide (ps.length ≤ r.steps + 1))
    | none => (refuse s stBadLength, true)
  | cmd =>
    match commandOf cmd with
    | some (_, _, op) => (judgeResv r.resv op s, true)
    | none => (refuse s stBadOpcode, true)

/-- Too many SPI replies wait for another SPI packet to be taken up (R472). -/
def Device.spiFull (s : Device) : Bool := decide (16 < (s.eng.out.filter fun r => r.via == 8).length)

/-- The first packet of the queue that may be taken up, and the rest. -/
def takePacket (full : Bool) : List Packet → Option (Packet × List Packet)
  | [] => none
  | p :: rest =>
    if full && p.via == 8 then (takePacket full rest).map fun x => (x.1, p :: x.2) else some (p, rest)

/-- A packet is taken up: its payload is read by its layout; a TIMED command is checked in full and waits, any other becomes
the routine that runs (R452, R458). -/
def takeUp (p : Packet) (s : Device) : Device :=
  let c := packetCtx p
  match layout p.opcode c p.sigOk p.payload with
  | none => answerCheck p true stBadOpcode 0 s
  | some l =>
    let r : Routine := { cmd := l.cmd, ctx := c, opcode := p.opcode, accepted := s.cycle, index := s.ssi, resv := l.resvFault p.payload }
    if !l.fits then r.answer (refuse (s.accept c p.opcode) stBadLength)
    else if p.timed then
      match commandOf l.cmd with
      | some (_, _, op) => runTimed c p.opcode l.cmd (judgeResv r.resv op) s
      | none => r.answer (refuse (s.accept c p.opcode) stBadOpcode)
    else
      let s1 := s.accept c p.opcode
      { s1 with eng := { s1.eng with running := some r } }

/-- COMMAND_ACCEPT (R452): the engine takes up the next packet once the routine before it has ended. -/
def commandAcceptOp (s : Device) : Device :=
  if !s.live || s.eng.running.isSome || s.eng.urgent.isSome || !s.eng.urgq.isEmpty then s
  else if s.workBad.isSome then engineWord s
  else match takePacket s.spiFull s.eng.queue with
    | some (p, rest) => drainAll (takeUp p { s with eng := { s.eng with queue := rest } })
    | none => s

/-- Register n of the engine's bank or of its shadow (R474). -/
def Device.bankReg (s : Device) (shadow : Bool) (n : Nat) : Word := Config.bank (if shadow then s.eng.shadow else s.eng.bank) n

/-- A step has run: its case words leave free contents in the bank they use (R463, R474). -/
def useBank (shadow : Bool) (s : Device) : Device :=
  { s with
    free := s.free + 1
    eng := if shadow then { s.eng with shadow := s.free } else { s.eng with bank := s.free } }

/-- The urgent routine commits its one step and replies (R461). -/
def urgentStep (r : Routine) (s0 : Device) : Device :=
  let s := useBank true s0
  let (o, _) := r.step { s with eng := { s.eng with urgent := none } }
  r.answer o

/-- COMMITTED_STEP (R464): the urgent routine first, else the routine that runs. After the last step, or a step that fails, the
final reply goes out. -/
def committedStepOp (s : Device) : Device :=
  if !s.live then s
  else match s.eng.urgent, s.eng.running with
    | some r, _ => urgentStep r s
    | none, some r =>
      if r.paused.isSome || r.waiting then s
      else
        let (o, last) := r.step (useBank false s)
        if o.status ≠ stOk then
          r.answer { o with st := { o.st with eng := { o.st.eng with running := none } }, steps := r.steps }
        else if (o.later && o.st.mc.host.any fun h => h.ctx == r.ctx && h.opcode == r.opcode)
            || (o.later && (r.opcode == 0x0A02 || r.opcode == 0x0A03)) then
          { o.st with eng := { o.st.eng with running := some { r with waiting := true } } }
        else if last then
          r.answer { o with st := { o.st with eng := { o.st.eng with running := none } }, steps := r.steps + 1 }
        else { o.st with eng := { o.st.eng with running := some { r with steps := r.steps + 1 } } }
    | none, none => s

/-! ### URGENT commands (R461 to R465) -/

/-- The routine that runs is preempted; one of group 0x05 stops short (R463 to R465). -/
def preemptRunning (s : Device) : Device :=
  match s.eng.running with
  | none => s
  | some r =>
    if r.paused.isSome then s
    else
      let r1 := { r with preempted := some (r.preempted.getD r.steps), paused := some s.cycle }
      let s1 := ({ s with eng := { s.eng with running := some r1 } }.addFld F.cePreempts 1).presentNow (ceEvent 3)
      if r.opcode / 256 = 0x05 then cutRoutine false s1 else s1

/-- URGENT_PREEMPT (R461, R463): the next urgent packet is taken up. -/
def urgentPreemptOp (s : Device) : Device :=
  if !s.live || s.eng.urgent.isSome then s
  else match s.eng.urgq with
    | [] => s
    | (p, at_) :: rest =>
      let s1 := { s with eng := { s.eng with urgq := rest } }
      let c := packetCtx p
      match layout p.opcode c p.sigOk p.payload with
      | none => answerCheck p true stBadOpcode 0 s1
      | some l =>
        let r : Routine := { cmd := l.cmd, ctx := c, opcode := p.opcode, accepted := at_, index := s.ssi, resv := l.resvFault p.payload }
        let s2 := preemptRunning s1
        let s3 := s2.accept c p.opcode
        if !l.fits then r.answer (refuse s3 stBadLength)
        else { s3 with eng := { s3.eng with urgent := some r } }

/-- ROUTINE_RESUME (R463): no urgent packet is left, and the preempted routine goes on. -/
def routineResumeOp (s : Device) : Device :=
  if !s.live || s.eng.urgent.isSome || !s.eng.urgq.isEmpty then s
  else match s.eng.running with
    | some r =>
      match r.paused with
      | some t => { s with eng := { s.eng with running := some { r with paused := none, away := r.away + (s.cycle - t) } } }
      | none => s
    | none => s

/-! ### Timeouts (R459, R460) -/

/-- A routine has run for its maximum time, preemptions excluded. -/
def Device.routineLate (s : Device) (r : Routine) : Bool :=
  r.paused.isNone && decide (maxCycles r.opcode r.cmd + r.away ≤ s.cycle - r.accepted)

/-- The routine whose time is up: the urgent one first. -/
def Device.lateRoutine (s : Device) : Option Routine :=
  if !s.live then none
  else match s.eng.urgent, s.eng.running with
    | some r, x => if s.routineLate r then some r else x.filter s.routineLate
    | none, x => x.filter s.routineLate

/-- COMMAND_TIMEOUT (R460). -/
def commandTimeoutOp (s : Device) : Device :=
  match s.lateRoutine with
  | none => s
  | some r =>
    let s1 := ((((dropWaiting r s).addFld F.ceTimeouts 1).setFlag F.ceAlertTimeout).presentNow (ceEvent 2))
    let s2 := if s.eng.urgent = some r then { s1 with eng := { s1.eng with urgent := none } }
      else { s1 with eng := { s1.eng with running := none } }
    r.answer { refuse s2 stTimeout with steps := r.steps }

/-! ### The timed table (R23, R458) -/

/-- The timed entry is due: RUN_JUMP is dispatched 64 cycles ahead of its index, the others land in the cycle that holds it, one that
was accepted with less than 64 cycles to go too (DESIGN CHOICE, log entry 94). -/
def Device.timedDue (s : Device) (e : Timed) : Bool :=
  decide (s.cycleOf e.execAt ≤ s.cycle + (if e.opcode = 0x0502 then 64 else 0))

/-- The reply of a TIMED command: LATE where its effect came after its index (R23, R458). -/
def timedReply (e : Timed) (late : Bool) (o : CmdOut) : Device :=
  let o1 := { o with at_ := max e.execAt o.st.ssi }
  if late ∧ o.status = stOk then { o1 with st := o.st.presentNow (ceEvent 4), status := stLate }.finish e.ctx e.opcode
  else o1.finish e.ctx e.opcode

/-- TIMED_DISPATCH of entry n. -/
def timedDispatchOp (n : Nat) (s : Device) : Device :=
  if !s.live then s
  else match s.eng.timed.find? fun e => e.id == n with
    | none => s
    | some e =>
      if !(s.timedDue e) then s
      else
        let s1 := { s with eng := { s.eng with timed := s.eng.timed.filter fun x => x.id != n } }
        match commandOf e.cmd with
        | some (_, _, op) => timedReply e (e.late || decide (s.cycleOf e.execAt < s.cycle)) (op s1)
        | none => s1

/-! ### The MGMT SPI (R472) -/

/-- SPI_PUT. -/
def spiPutOp (p : RawPacket) (s : Device) : Device :=
  if !s.live then s
  else if s.eng.put.isSome then s.addFld F.ceSpidrop 1
  else if s.queueRoom || isUrgent p then judgeRaw { p with via := 8, vc := 0 } s
  else { s with eng := { s.eng with put := some { p with via := 8, vc := 0 } } }

/-- The first reply for the MGMT SPI is taken out of the queue. -/
def popSpi : List Reply → Option (Reply × List Reply)
  | [] => none
  | r :: rest => if r.via = 8 then some (r, rest) else (popSpi rest).map fun x => (x.1, r :: x.2)

/-- A reply or notice leaves by the MGMT SPI: its length, then header, payload and tag in whole frames (R448, R472). -/
def spiSend (r : Reply) (s : Device) : Device :=
  let x := s.session r.sess
  let (ct, tag) := x.protect 0 (x.next 0) r.header ((chunksOf 32 (r.data.length + 1) r.data).flatMap fun d => sliceB d 0 32)
  let body := r.header ++ ct ++ sliceB tag 0 32
  countTx r.sess 0 { s with spiOut := leBytes 4 body.length ++ body }

/-- SPI_GET: the next reply, else the next notice, leaves the device; length 0 where none waits. -/
def spiGetOp (s : Device) : Device :=
  let s0 := { s with spiOut := zeros 4 }
  match popSpi s.eng.out with
  | some (r, rest) => spiSend r { s with eng := { s.eng with out := rest } }
  | none =>
    match chooseOne (s.noticesOn 8) s with
    | (some n, s1) => match s1.takeNotice n with
      | some (r, s2) => spiSend r s2
      | none => s0
    | (none, _) => s0

/-- The SPI STAT byte (R472, R522, R523). -/
def Device.spiStat (s : Device) : Nat :=
  b2n ((s.eng.out.any fun r => r.via == 8) || !(s.noticesOn 8).isEmpty) + 2 * b2n (decide (s.phase = .running)) + 4 * b2n s.eng.halted
    + 8 * b2n s.eng.put.isSome

/-- SPI_STAT. -/
def spiStatOp (s : Device) : Device := { s with spiOut := [BitVec.ofNat 8 s.spiStat] }

/-- COMMAND_PACKET: a whole packet arrives on a host link in UP, or on the MGMT SPI (R448). -/
def commandPacketOp (p : RawPacket) (s : Device) : Device :=
  if p.via = 8 then spiPutOp p s
  else if p.via < 8 ∧ !(s.isPeer p.via) ∧ s.lstate p.via = 3 ∧ (p.vc = 0 ∨ p.vc = 3) then portPacket p.via p s
  else s

end Sys2Proof.Machine
end

