-- ==== Sys2Proof/WellFormed.lean ====
section
/-! DEFINITION. Which commands and happenings are well formed: every operand lies within the width that its layout, register or
wire gives it. exec does not ask for it: it is what a sender can send. -/

namespace Sys2Proof

/-- A number of w bits. -/
def fitsIn (w n : Nat) : Bool := decide (n < 2 ^ w)

/-- A session, a transport, a sequence number and an index (R448, R449, R483). -/
def Ctx.wf (c : Ctx) : Bool :=
  fitsIn 3 c.sess && decide (c.via ≤ 8) && fitsIn 32 c.seq && (match c.timed with | some x => fitsIn 64 x | none => true)

/-- The frames of R430 and R448: a header, whole payload frames, a tag. -/
def RawPacket.wf (p : RawPacket) : Bool :=
  decide (p.via ≤ 8) && decide (p.vc ≤ 3) && p.header.length == 32 && p.body.length % 32 == 0 && p.tag.length == 16

/-- A region of SRAM, its instance and a word that it may hold (R374). -/
def sramPlaceOk (region inst word : Nat) : Bool :=
  match [(64, 32768), (64, 32768), (72, 8192), (64, 4096), (64, 32), (64, 1024), (64, 512), (1, 2048), (8, 2048), (1, 2048), (1, 2048),
      (1, 73728)][region]? with
  | some (n, w) => decide (inst < n) && decide (word < w)
  | none => false

/-- Samples of a word of an input: 32 at most, of 12 bits (R182). -/
def wordOk (xs : List Int) : Bool := decide (xs.length ≤ 32) && xs.all fun x => decide (-2048 ≤ x) && decide (x ≤ 2047)

/-- Errors of a stored word: a byte of its 36 and the bits that turn (R370). -/
def errorsOk (e : List (Nat × Nat)) : Bool := e.all fun x => decide (x.1 < 36) && decide (x.2 < 256)

/-- The header fields of R138. -/
def SegHead.wf (h : SegHead) : Bool := fitsIn 32 h.len && fitsIn 32 h.rate && fitsIn 8 h.kind && fitsIn 32 h.m

def RunEntry.wf (e : RunEntry) : Bool := fitsIn 10 e.seq && fitsIn 15 e.entry

def OpenReq.wf (r : OpenReq) : Bool := fitsIn 8 r.s && fitsIn 32 r.openCtr && r.hostKey.length == 96 && r.hostNonce.length == 32

def Vc1Block.wf (b : Vc1Block) : Bool := fitsIn 64 b.bits

def Repair.wf (r : Repair) : Bool :=
  fitsIn 8 r.kind && fitsIn 8 r.stack && fitsIn 8 r.ch && fitsIn 8 r.pc && fitsIn 8 r.bg && fitsIn 8 r.bank && fitsIn 32 r.row

def AlignBlock.wf (b : AlignBlock) : Bool := fitsIn 64 b.body && b.body % 256 == 0x78

/-- A head block, and the data blocks that came before the frame was over (R428). -/
def Frame.wf (f : Frame) : Bool := fitsIn 64 f.head && f.head % 256 == 0x80 && decide (f.blocks.length ≤ 4) && f.blocks.all fun b => fitsIn 64 b.2

def LinkBlock.wf (b : LinkBlock) : Bool := fitsIn 12 b.ackseq && fitsIn 9 b.cr0 && fitsIn 9 b.cr2 && fitsIn 9 b.cr3

/-- A 16-bit signed value. -/
def signed16 (z : Int) : Bool := decide (-32768 ≤ z) && decide (z < 32768)

/-- A list of numbers of w bits, n at most. -/
def listIn (n w : Nat) (l : List Nat) : Bool := decide (l.length ≤ n) && l.all (fitsIn w)

/-- The command or happening is well formed: the writes of a register, the other commands of R466, the happenings with operands
of their own, and those with none but an instance, which always are. -/
def Instr.wf : Instr → Bool
  | .regWrite c a v => c.wf && fitsIn 32 a && fitsIn 32 v
  | .tbRateAdjWrite c v | .tbOffsetStage c _ v | .tbOffsetCommit c v | .tbSeal c v | .syncArm c v | .syncDisarm c v
  | .linkCheckStart c v | .alarmWrite c _ _ v | .carrierFreqCommit c _ _ v | .carrierOfsCommit c _ _ v | .ringBaseWrite c _ v
  | .ringConfigWrite c _ _ _ v | .markerCtrlWrite c _ v | .opModeWrite c _ v | .formeStrobeWrite c _ v | .ipCtrlWrite c _ v
  | .capCtrlWrite c _ v | .dprogRegWrite c _ _ v | .dtWrite c _ v | .tgArm c _ v | .tgDisarm c _ v | .evInject c v
  | .loopUnmute c _ v | .evcClear c _ v | .evcSnapshot c _ v | .ledgerCommit c _ v | .ledgerEnable c _ v | .budSeal c v
  | .benchRunSet c v | .benchRunClear c v | .bnExcWrite c _ v | .bnConvWrite c _ v | .calRefvCommit c v | .calSeal c v
  | .lnPortEnable c _ v | .lnPortDisable c _ v | .lnCtlWrite c _ v | .lkRoleWrite c _ v | .devidWrite c v | .linkRestart c _ v =>
    c.wf && fitsIn 32 v
  | .regRead c a | .latchingRead c a => c.wf && fitsIn 32 a
  | .regReadMulti c a n => c.wf && fitsIn 32 a && fitsIn 32 n
  | .regWriteList c ps => c.wf && decide (ps.length ≤ 256) && ps.all fun p => fitsIn 32 p.1 && fitsIn 32 p.2
  | .segLoad c f seg home h d => c.wf && fitsIn 8 f && fitsIn 16 seg && fitsIn 32 home && h.wf && decide (d.length ≤ 1048576)
  | .libStore c line h d => c.wf && fitsIn 32 line && h.wf && decide (d.length ≤ 1048576)
  | .segBind c f seg home line => c.wf && fitsIn 8 f && fitsIn 16 seg && fitsIn 32 home && fitsIn 32 line
  | .segFetch c f seg | .segFree c f seg | .segInfo c f seg => c.wf && fitsIn 8 f && fitsIn 16 seg
  | .outputEnable c m => c.wf && fitsIn 64 m
  | .kernLoad c i a taps => c.wf && fitsIn 8 i && fitsIn 32 a && taps.all fun t => signed16 t.1 && signed16 t.2
  | .dprogLoad c i a ws => c.wf && fitsIn 8 i && fitsIn 8 a && listIn 256 32 ws
  | .kernRead c i a n => c.wf && fitsIn 8 i && fitsIn 32 a && fitsIn 32 n
  | .benchRingRead c n => c.wf && fitsIn 16 n
  | .curveLoad c img => c.wf && decide (img.length ≤ 4128)
  | .curveRead c n | .calSetRead c n | .calCommit c n | .memThaw c n | .linkStats c n | .sessionClose c n | .certRead c n
  | .colophonRead c n _ => c.wf && fitsIn 8 n
  | .calTpoint c n t => c.wf && fitsIn 8 n && fitsIn 32 t
  | .calRun c m a b => c.wf && fitsIn 16 m && fitsIn 16 a && fitsIn 16 b
  | .calXfer c n v u => c.wf && fitsIn 8 n && fitsIn 64 v && fitsIn 64 u
  | .memRead c a n => c.wf && fitsIn 32 a && fitsIn 32 n
  | .memWrite c a d => c.wf && fitsIn 64 a && decide (d.length ≤ 131072)
  | .memSetclass c a n k => c.wf && fitsIn 8 a && fitsIn 8 n && fitsIn 8 k
  | .memDiag c line => c.wf && fitsIn 32 line
  | .memRepairAdd c r => c.wf && r.wf
  | .memScrubNow c a n => c.wf && fitsIn 8 a && fitsIn 8 n
  | .identify c | .summary c | .runStatus c | .muteAll c | .abort c | .mcInfo c | .mcLoadCommit c _ => c.wf
  | .echo c d => c.wf && decide (d.length ≤ 1024)
  | .progLoad c k n a ins => c.wf && fitsIn 8 k && fitsIn 8 n && fitsIn 16 a && listIn 32768 64 ins
  | .progRead c k n a m => c.wf && fitsIn 8 k && fitsIn 8 n && fitsIn 16 a && fitsIn 32 m
  | .runStart c x es => c.wf && fitsIn 64 x && decide (es.length ≤ 64) && es.all RunEntry.wf
  | .runJump c k t => c.wf && fitsIn 16 k && fitsIn 16 t
  | .budBlockinfo c k a => c.wf && fitsIn 16 k && fitsIn 16 a
  | .budAttnWrite c p row => c.wf && fitsIn 16 p && row.length == 16 && listIn 16 32 row
  | .stop c a b d => c.wf && fitsIn 512 a && fitsIn 64 b && fitsIn 16 d
  | .mcLoadBegin c n => c.wf && fitsIn 32 n
  | .mcLoadData c o d => c.wf && fitsIn 32 o && decide (d.length ≤ 4096)
  | .sessionOpen c r => c.wf && r.wf
  | .ownerEnroll c k _ => c.wf && k.length == 96
  | .resSeal c k a f n | .resRelease c k a f n => c.wf && fitsIn 8 k && fitsIn 8 a && fitsIn 16 f && fitsIn 16 n
  | .attest c x => c.wf && x.length == 48
  | .timingBlockRx _ b _ | .decisionFrameRx _ b | .revokeFrameRx _ b | .eventFrameRx _ b => b.wf
  | .refillPacket p => p.wf
  | .adcOvr _ xs | .decimatedSample _ xs => wordOk xs
  | .captureEnd _ xs errs => wordOk xs && errorsOk errs
  | .alignBlockRx _ b => b.wf
  | .laneBlockRx _ h b => fitsIn 2 h && fitsIn 64 b
  | .calDue n => decide (n < 13)
  | .linitRx _ b => fitsIn 2 b.kind && fitsIn 8 b.buf0 && fitsIn 8 b.buf2 && fitsIn 8 b.buf3
  | .finishRx _ f _ => f.tag.length == 16
  | .vc1TagFrameRx _ f => decide (f.tags.length ≤ 2) && f.tags.all fun t => fitsIn 32 t.1 && fitsIn 96 t.2
  | .frameRx _ f => f.wf
  | .linkBlockRx _ b => b.wf
  | .retryRx _ n => fitsIn 12 n
  | .retry1Rx _ v => fitsIn 12 v
  | .spareRx _ l => fitsIn 4 l
  | .commandPacket p | .spiPut p => p.wf
  | .sramScrub r i w e => sramPlaceOk r i w && errorsOk e
  | .stackTempReport _ t => fitsIn 32 t
  | .startupCalibration l => l.all fun n => decide (n < 8)
  | .sensorRead ts => ts.length == 48
  | .startupSensors reads => reads.length == 10 && reads.all fun ts => ts.length == 48
  | .timedDispatch _ | .syncEdge .. | .registrationApply | .syncGenPulse | .timingExchangeTimeout _ | .linkCheckDone
  | .alarmFire _ | .nop _ | .block _ | .blockStart _ | .blockRepresent _ | .endBlock _ | .yieldBlock _ | .goto _ | .loop _
  | .endl _ | .jcond _ | .armd _ | .wait _ | .play _ | .cplay _ | .setf _ | .setp _ | .setport _ | .strobe _ | .mark _
  | .emit _ | .win _ | .capt _ | .underrunAbort _ | .jumpTakeEffect _ | .safeIntervalEnd _ | .fetchStart _ | .fetchDone _
  | .demodProgramStart _ | .demodNop _ | .demodMac _ | .demodSkip _ | .demodRep _ | .demodSetkp _ | .demodSetps _
  | .demodAdd _ | .demodClr _ | .demodEnd _ | .finishStep _ | .recordMove _ | .vc1BlockSend _
  | .tagTimeout _ | .triggerEdge .. | .heldEdgePresent _ | .triggerTransition _ | .triggerTimerExpire .. | .holdoffEnd _
  | .tgCaptureStart _ | .remoteEventDeliver _ | .channelActivation _ | .ledgerStale _ | .benchBreak | .benchDischarge
  | .benchLeadCheck _ | .benchMake | .excitationOn | .warmUpEnd | .conversionEnd _ | .excMonitorCheck .. | .mainsEdge _
  | .mainsTimeout | .benchCalVisit | .calStepStart _ | .calStepDone .. | .calCommitPeriod | .calXferDone _ | .setclassDone
  | .mergeTimeout _ | .dramReadReturn .. | .caParityError .. | .dramNoResponse _ | .refreshDue _ | .scrubRead
  | .helloRx .. | .signalDetect _ | .signalLoss _ | .cdrLock _ | .cdrUnlock _ | .eqSearchStep .. | .alignTime _ | .linitSend _
  | .attestTimeout _ | .frameSend _ | .linkBlockSend _ | .retryResend _ | .giveup _ | .spareResend _
  | .resetBlockRx _ | .linkTimeout _ | .commandAccept | .commandTimeout | .urgentPreempt | .routineResume | .spiGet
  | .spiStat | .colophonSigned | .colophonDeferredIssue _ | .resetAssert _ | .resetRelease | .startupFuses _
  | .startupClocks .. | .clockLockTimeout | .startupMemory .. | .startupSecurity _ | .proof _ | .startupMicrocode ..
  | .release _ | .syntheticUndecidedWord _ | .dramCommandSlot | .committedStep => true

end Sys2Proof
end

