-- ==== Sys2Proof/Machine/Tick.lean ====
section
/-! DEFINITION. What a fabric cycle does by itself (DESIGN CHOICE): the end of the cycle, the start of the next one, and the
happenings of the device's own that are due in it, which join the queue in a fixed order. -/

namespace Sys2Proof.Machine

/-- The end of a fabric cycle: the word at the output lands, the samples and steps of the demod lanes, captures, triggers and
counters. -/
def endCycle (s : Device) : Device :=
  let s1 := outputCycle s
  let s2 := wordsLand (captureStarts (s1.ssi + 32) s1)
  let s3 := forAllDo (s2.lanes.map Prod.fst) laneCycle s2
  portsSend (ledgersEnd (evcLand (trigEnd (capturesDone (capturesTake (brokenInputs s3))))))

/-- The next fabric cycle begins: what the last one's register writes and device writes left for collisions is forgotten (R12, R13,
R24), and so are the input samples that nothing takes in any more. -/
def nextCycle (s : Device) : Device :=
  { s with cycle := s.cycle + 1, hwNow := [], addNow := [], former := [], placed := [], inputs := s.inputsNext }

/-- REGISTRATION_APPLY (R53, R54): W and d take effect together, and the bench keeps its place in time. -/
def registrationApply (s : Device) : Device :=
  if s.registrationDue then
    let s1 := registrationOp s
    benchShift (32 * (s1.tb.W - s.tb.W)) s1
  else s

/-- CHANNEL_ACTIVATION (R275, R276): at most one activation of a channel in a cycle; the bench is one of its consumers
(R334). -/
def activationOp (n : Nat) (s : Device) : Device :=
  if (sfind s.ev.act n).isSome then s
  else
    let s1 := channelActivationOp n s
    match sfind s1.ev.act n with
    | some a => benchStartEvent n a.stamp s1
    | none => s1

/-- What lands at the start of a fabric cycle, first by first. -/
def startCycle (s : Device) : Device :=
  let s1 := alarmLand (rateLand (offsetLand (registrationApply s)))
  let s2 := ledgersCool (routerLand s1)
  let s3 := colophonsDue (closeCut (writeResults s2))
  let s4 := schedulerAnswers (verdictStage (seqLand (gangLand (syntheticLand s3))))
  laneLand (linkLand (calLand (benchLand (fetchFaults (carriersWord s4)))))

/-- A row for each number of a list. -/
def rowsOf {n : Nat} [NeZero n] (l : List Nat) (f : Fin n → Instr) : List Instr := l.map fun i => f (Fin.ofNat n i)

/-- The row of an instruction that a channel or read-out sequencer issues. -/
def instrRow (k : Nat) : SeqInstr → Instr
  | .nop => .nop (Fin.ofNat 576 k)
  | .block .. => .block (Fin.ofNat 576 k)
  | .endB => .endBlock (Fin.ofNat 576 k)
  | .yieldB => .yieldBlock (Fin.ofNat 576 k)
  | .goto _ => .goto (Fin.ofNat 576 k)
  | .loop .. => .loop (Fin.ofNat 576 k)
  | .endl .. => .endl (Fin.ofNat 576 k)
  | .jcond .. => .jcond (Fin.ofNat 576 k)
  | .armdLane .. => .armd (Fin.ofNat 576 k)
  | .armdGate _ => .armd (Fin.ofNat 576 k)
  | .wait .. => .wait (Fin.ofNat 576 k)
  | .play .. => .play (Fin.ofNat 512 k)
  | .stream .. => .play (Fin.ofNat 512 k)
  | .cplay .. => .cplay (Fin.ofNat 512 k)
  | .setf .. => .setf (Fin.ofNat 512 k)
  | .setp .. => .setp (Fin.ofNat 512 k)
  | .setport .. => .setport (Fin.ofNat 512 k)
  | .strobe => .strobe (Fin.ofNat 512 k)
  | .mark .. => .mark (Fin.ofNat 512 k)
  | .emit _ => .emit (Fin.ofNat 576 k)
  | .win .. => .win (Fin.ofNat 64 (k - 512))
  | .capt .. => .capt (Fin.ofNat 64 (k - 512))

/-- The channels that an event of the last router cycle selects. -/
def Device.activeChannels (s : Device) : List Nat :=
  if s.ev.prev.isEmpty then [] else (List.range 256).filter fun n => !(s.eventsFor n).isEmpty

/-- Due in the time base, the router and the trigger block. -/
def dueEvents (s : Device) : List Instr :=
  let act := s.activeChannels
  rowsOf (((List.range 16).filter fun n => (s.transition n).isSome)) .triggerTransition
    ++ rowsOf ((s.trig.held.filter fun x => decide (x.2 < s.ssi + 32)).map Prod.fst).eraseDups .heldEdgePresent
    ++ rowsOf ((List.range 16).filter fun n => (s.alarmFires n).isSome) .alarmFire
    ++ rowsOf act .channelActivation
    ++ ((List.range 16).flatMap fun n => rowsOf ((List.range 4).filter (s.timerDue n)) (.triggerTimerExpire (Fin.ofNat 16 n)))
    ++ rowsOf ((List.range 16).filter fun n => s.holdoffDue n act.contains) .holdoffEnd
    ++ rowsOf ((List.range 16).filter s.tgCaptureDue) .tgCaptureStart
    ++ rowsOf ((s.trig.remote.filter fun x => decide (x.2.1 < s.ssi + 32)).map Prod.fst).eraseDups .remoteEventDeliver
    ++ (if s.genDue then [.syncGenPulse] else [])

/-- Due in the sequencers, the galleys and the read-out. -/
def dueSequencers (s : Device) : List Instr :=
  let ks := s.seqs.map Prod.fst
  rowsOf (ks.filter s.blockStartDue) .blockStart
    ++ rowsOf (ks.filter fun k => (s.jumpAt k).isSome) .jumpTakeEffect
    ++ rowsOf (ks.filter s.representDue) .blockRepresent
    ++ (ks.filterMap fun k => (s.nextInstr k).map (instrRow k))
    ++ rowsOf (ks.filter fun k => (s.abortAt k).isSome) .underrunAbort
    ++ rowsOf ((s.ports.filter fun x => match x.2.safe with | some g => decide (g.stop ≤ s.ssi) | none => false).map Prod.fst)
      .safeIntervalEnd
    ++ rowsOf ((s.formes.map Prod.fst).filter s.fetchComplete) .fetchDone
    ++ rowsOf ((s.formes.filter fun x => !x.2.busy && !x.2.fetchq.isEmpty).map Prod.fst) .fetchStart
    ++ rowsOf ((s.inputs.filter fun x => !x.2.ring.isEmpty).map Prod.fst) .recordMove
    ++ rowsOf ((s.lanes.filter fun x => x.2.colWait.isSome && s.colRoom).map Prod.fst) .colophonDeferredIssue

/-- Due in the budget scheduler, the bench and the calibration engine. -/
def dueBench (s : Device) : List Instr :=
  rowsOf ((List.range 18).filter s.staleDue) .ledgerStale
    ++ (if s.breakDue then [.benchBreak] else [])
    ++ (if s.phaseOver .brk then [.benchDischarge] else [])
    ++ (if s.makeDue then [.benchMake] else [])
    ++ (if s.phaseOver .make then [.excitationOn] else [])
    ++ (if s.phaseOver .warm then [.warmUpEnd] else [])
    ++ (if s.mainsLate then [.mainsTimeout] else [])
    ++ (if s.calVisitDue then [.benchCalVisit] else [])
    ++ rowsOf ((List.range 9).filter s.stepDue) .calStepStart
    ++ ((List.range 13).filter s.calDueNow).map .calDue
    ++ (if s.commitDue then [.calCommitPeriod] else [])

/-- Due in the DRAM controller. -/
def dueDram (s : Device) : List Instr :=
  rowsOf ((List.range 64).filter s.refreshDue) .refreshDue
    ++ ((s.mc.merge.filter s.mergeLate).map fun e => .mergeTimeout e.num)
    ++ rowsOf ((s.mc.chans.filter fun x => !x.2.flight.isEmpty).map Prod.fst) (fun p => .dramReadReturn p [])
    ++ (if s.busyChans.isEmpty && (s.mc.setclass.isNone || s.classDone || s.flag F.memStatusFrozen) then [] else [.dramCommandSlot])
    ++ (if s.classDone then [.setclassDone] else [])

/-- Due on the links and in the command engine. -/
def dueLinks (s : Device) : List Instr :=
  let ps := List.range 8
  (if s.checkOver then [.linkCheckDone] else [])
    ++ rowsOf (ps.filter s.alignDue) .alignTime ++ rowsOf (ps.filter s.linkLate) .linkTimeout
    ++ rowsOf (ps.filter s.linitDue) .linitSend ++ rowsOf (ps.filter s.attestLate) .attestTimeout
    ++ rowsOf (ps.filter s.tagLate) .tagTimeout ++ rowsOf (ps.filter s.giveupDue) .giveup
    ++ rowsOf (ps.filter s.retryDue) .retryResend ++ rowsOf (ps.filter s.spareDue) .spareResend
    ++ rowsOf (ps.filter s.exchangeLate) .timingExchangeTimeout
    ++ rowsOf (ps.filter s.vc1Due) .vc1BlockSend
    ++ rowsOf (ps.filter s.linkBlockDue) .linkBlockSend
    ++ rowsOf (ps.flatMap fun p => List.replicate (s.framesDue p) p) .frameSend
    ++ rowsOf (ps.filter fun p => !(s.slotsBare p).isEmpty) .syntheticUndecidedWord
    ++ (if s.lateRoutine.isSome then [.commandTimeout] else [])

/-- The device's own happenings of a cycle, in the order in which they join the queue. -/
def dueRows (s : Device) : List Instr :=
  ((s.eng.timed.filter s.timedDue).map fun e => .timedDispatch e.id)
    ++ dueEvents s ++ dueSequencers s ++ dueBench s ++ dueDram s ++ dueLinks s

/-- One fabric cycle passes (DESIGN CHOICE): what an empty queue does in place of idling. During start-up, and where it
stopped, only the count of the locked clock moves (R33); in reset nothing does. -/
def passCycle (s : Device) : Device :=
  match s.phase with
  | .running => startCycle (nextCycle (endCycle s))
  | .starting d | .stopped _ d => if bitOf d 2 then nextCycle s else s
  | .inReset => s

/-- A cycle passes; what the port streams brought in it, which a wire can carry only well formed, and what is due in the new one join the
queue. -/
def tick (s : State) : State :=
  let d := passCycle s.dev
  { pending := s.pending ++ (if d.phase = .running then d.inbox.filter Instr.wf ++ dueRows d else []), dev := { d with inbox := [] } }

end Sys2Proof.Machine
end

