-- ==== Sys2Proof/Machine/BenchRows.lean ====
section
/-! DEFINITION. The meanings of the rows of the bench channels (spec/11_bench_channels.md). -/

namespace Sys2Proof.Machine

/-- BENCH_RUN_SET (R334): Setting RUN starts a bench pass in CONT or SINGLE mode. -/
def execBenchRunSet (c : Ctx) (v : Nat) (s : State) : Host.Outcome State Fault Refusal :=
  .next (s.act (regRow c .bnCtrl 0 0 (orBit v 0)))

/-- BENCH_RUN_CLEAR (R335): Clearing RUN ends the pass at the next bench tick and abandons the visit in flight. -/
def execBenchRunClear (c : Ctx) (v : Nat) (s : State) : Host.Outcome State Fault Refusal :=
  .next (s.act (regRow c .bnCtrl 0 0 (offBit v 0)))

/-- BREAK (R325): A visit begins with Break: the switches of the previous point open and its excitation goes to zero. -/
def execBenchBreak (s : State) : Host.Outcome State Fault Refusal :=
  .next (s.act (awake breakOp))

/-- DISCHARGE (R325): Break ends and Discharge ties the converter input and leads to ground for BN_DISCH. -/
def execBenchDischarge (s : State) : Host.Outcome State Fault Refusal :=
  .next (s.act (awake dischargeOp))

/-- LEAD_CHECK (R325): Discharge ends and the four leads of a BX point are checked for opens. -/
def execBenchLeadCheck (opens : Bool) (s : State) : Host.Outcome State Fault Refusal :=
  .next (s.act (awake (leadCheckOp opens)))

/-- MAKE (R325): The switches of the new point close. -/
def execBenchMake (s : State) : Host.Outcome State Fault Refusal :=
  .next (s.act (awake makeOp))

/-- EXCITATION_ON (R325): At the end of Make the excitation is applied at positive polarity and the modulator warms up. -/
def execExcitationOn (s : State) : Host.Outcome State Fault Refusal :=
  .next (s.act (awake excitationOp))

/-- WARM_UP_END (R326): The 200 µs modulator warm-up ends and conversions begin. -/
def execWarmUpEnd (s : State) : Host.Outcome State Fault Refusal :=
  .next (s.act (awake warmUpOp))

/-- CONVERSION_END (R328): A conversion's aperture ends; it is discarded or summed, may reverse the excitation, and may complete the visit's entry. -/
def execConversionEnd (code : Int) (s : State) : Host.Outcome State Fault Refusal :=
  .next (s.act (awake (conversionOp code)))

/-- EXC_MONITOR_CHECK (R332): Every 100 µs the excitation monitor checks source and sense, and may end the visit with a fault. -/
def execExcMonitorCheck (vsrc : Rat) (imon : Rat) (vsense : Rat) (s : State) : Host.Outcome State Fault Refusal :=
  .next (s.act (awake (monitorCheckOp vsrc imon vsense)))

/-- BN_EXC_WRITE (R331): A write to BN_PTn_EXC during the point's visit aborts the conversion and restarts settling. -/
def execBnExcWrite (c : Ctx) (n : Fin 32) (v : Nat) (s : State) : Host.Outcome State Fault Refusal :=
  .next (s.act (regRow c .bnPtExc n 0 v))

/-- BN_CONV_WRITE (R337): A write to BN_PTn_CONV is checked for curve and excitation pairing and applies at the next visit. -/
def execBnConvWrite (c : Ctx) (n : Fin 32) (v : Nat) (s : State) : Host.Outcome State Fault Refusal :=
  .next (s.act (regRow c .bnPtConv n 0 v))

/-- MAINS_EDGE (R327): A rising edge at MAINS_SENSE updates the tracked PLC length. -/
def execMainsEdge (tick : Nat) (s : State) : Host.Outcome State Fault Refusal :=
  .next (s.act (awake (mainsEdgeOp tick)))

/-- MAINS_TIMEOUT (R327): No mains edge for 50 ms sets MAINS_LOST and reverts the PLC to 200,000 ticks. -/
def execMainsTimeout (s : State) : Host.Outcome State Fault Refusal :=
  .next (s.act (awake mainsTimeoutOp))

/-- BENCH_CAL_VISIT (R336): A calibration visit is inserted between two bench passes. -/
def execBenchCalVisit (s : State) : Host.Outcome State Fault Refusal :=
  .next (s.act (awake calVisitOp))

/-- BENCH_RING_READ (R341): Command that returns bench ring entries and advances BN_RING_RD. -/
def execBenchRingRead (c : Ctx) (count : Nat) (s : State) : Host.Outcome State Fault Refusal :=
  .next (s.act (direct (.benchRingRead c count) c 0x0801 (benchRingReadOp count)))

/-- CURVE_LOAD (R341): Command that checks a user curve, writes it to the plate store and seals it. -/
def execCurveLoad (c : Ctx) (image : List Byte) (s : State) : Host.Outcome State Fault Refusal :=
  .next (s.act (direct (.curveLoad c image) c 0x0802 (needRandom (curveLoadOp image))))

/-- CURVE_READ (R341): Command that returns a user curve image and its seal. -/
def execCurveRead (c : Ctx) (n : Nat) (s : State) : Host.Outcome State Fault Refusal :=
  .next (s.act (direct (.curveRead c n) c 0x0803 (curveReadOp n)))

end Sys2Proof.Machine
end

