-- ==== Sys2Proof/Machine/BudgetRows.lean ====
section
/-! DEFINITION. The meanings of the rows of the budget scheduler (spec/10_budget_scheduler.md). -/

namespace Sys2Proof.Machine

/-- LEDGER_COMMIT (R295): Writing COMMIT checks and applies a ledger's staged parameters. -/
def execLedgerCommit (c : Ctx) (j : Fin 18) (v : Nat) (s : State) : Host.Outcome State Fault Refusal :=
  .next (s.act (regRow c .budCfg j 0 (orBit v 28)))

/-- LEDGER_ENABLE (R296): A CFG write that changes EN enables a ledger, zeroing H and U, or disables it. -/
def execLedgerEnable (c : Ctx) (j : Fin 18) (v : Nat) (s : State) : Host.Outcome State Fault Refusal :=
  .next (s.act (regRow c .budCfg j 0 v))

/-- BUD_SEAL (R299): Setting BUD_CTRL.SEAL locks DIE, PKG and BUD_ESAMP until reset. -/
def execBudSeal (c : Ctx) (v : Nat) (s : State) : Host.Outcome State Fault Refusal :=
  .next (s.act (regRow c .budCtrl 0 0 (orBit v 0)))

/-- LEDGER_STALE (R317): A ledger passes its measurement deadline; STALE is set and an event produced. -/
def execLedgerStale (j : Fin 18) (s : State) : Host.Outcome State Fault Refusal :=
  .next (s.act (awake (staleOp j)))

/-- BUD_BLOCKINFO (R466): Command that returns a block's E, N_act and energy vector. -/
def execBudBlockinfo (c : Ctx) (k : Nat) (addr : Nat) (s : State) : Host.Outcome State Fault Refusal :=
  .next (s.act (direct (.budBlockinfo c k addr) c 0x0701 (budBlockinfoOp c.sess k addr)))

/-- BUD_ATTN_WRITE (R303): Command that writes one attenuation table row in one cycle. -/
def execBudAttnWrite (c : Ctx) (p : Nat) (row : List Nat) (s : State) : Host.Outcome State Fault Refusal :=
  .next (s.act (direct (.budAttnWrite c p row) c 0x0702 (attnRowOp c.sess p row)))

end Sys2Proof.Machine
end

