-- ==== Sys2Proof/Machine/CalRows.lean ====
section
/-! DEFINITION. The meanings of the rows of calibration (spec/12_calibration.md). -/

namespace Sys2Proof.Machine

/-- CAL_STEP_START (R357): The calibration engine starts a step in a slot for the oldest due class. -/
def execCalStepStart (d : Fin 9) (s : State) : Host.Outcome State Fault Refusal :=
  .next (s.act (awake (stepStartOp d)))

/-- CAL_STEP_DONE (R360): A calibration step completes and is accepted into the bracketing sets, or rejected. -/
def execCalStepDone (d : Fin 9) (m : CalMeas) (s : State) : Host.Outcome State Fault Refusal :=
  .next (s.act (awake (stepDoneOp d m.m (m.ratio1, m.ratio2))))

/-- CAL_DUE (R368): An instance passes 744 hours without an accepted step, and its CAL_DUE bit is set. -/
def execCalDue (n : Nat) (s : State) : Host.Outcome State Fault Refusal :=
  .next (s.act (awake (calDueOp n)))

/-- CAL_COMMIT_PERIOD (R366): At each CAL_COMMITPER period a changed set is committed, or COMMIT_PENDING is set. -/
def execCalCommitPeriod (s : State) : Host.Outcome State Fault Refusal :=
  .next (s.act (awake commitPeriodOp))

/-- CAL_REFV_COMMIT (R355): A write to CAL_REFV_HI commits REFV and its uncertainty and clears NOREF. -/
def execCalRefvCommit (c : Ctx) (v : Nat) (s : State) : Host.Outcome State Fault Refusal :=
  .next (s.act (regRow c .calRefvHi 0 0 v))

/-- CAL_SEAL (R367): Setting CAL_CTRL.SEAL locks REFV, periods, limits and IDLECAL until reset. -/
def execCalSeal (c : Ctx) (v : Nat) (s : State) : Host.Outcome State Fault Refusal :=
  .next (s.act (regRow c .calCtrl 0 0 (orBit v 0)))

/-- CAL_SET_READ (R367): Command that returns a sealed calibration set and its signature. -/
def execCalSetRead (c : Ctx) (n : Nat) (s : State) : Host.Outcome State Fault Refusal :=
  .next (s.act (direct (.calSetRead c n) c 0x0901 (calSetReadOp n)))

/-- CAL_TPOINT (R362): Command that adds or removes a calibration set. -/
def execCalTpoint (c : Ctx) (n : Nat) (t : Nat) (s : State) : Host.Outcome State Fault Refusal :=
  .next (s.act (direct (.calTpoint c n t) c 0x0902 (calTpointRandom n t)))

/-- CAL_RUN (R367): Command that marks instances due at once. -/
def execCalRun (c : Ctx) (mask : Nat) (first : Nat) (last : Nat) (s : State) : Host.Outcome State Fault Refusal :=
  .next (s.act (direct (.calRun c mask first last) c 0x0903 (calRunOp mask first last)))

/-- CAL_COMMIT (R366): Command that commits calibration sets now. -/
def execCalCommit (c : Ctx) (mask : Nat) (s : State) : Host.Outcome State Fault Refusal :=
  .next (s.act (direct (.calCommit c mask) c 0x0904 (calCommitRandom mask)))

/-- CAL_XFER (R367): Command that schedules a comparison of RINT with an external standard. -/
def execCalXfer (c : Ctx) (n : Nat) (v : Nat) (u : Nat) (s : State) : Host.Outcome State Fault Refusal :=
  .next (s.act (direct (.calXfer c n v u) c 0x0905 (calXferOp n v u)))

/-- CAL_XFER_DONE (R367): The RINT transfer comparison completes in a bench gap and its notice is sent. -/
def execCalXferDone (r : Option Nat) (s : State) : Host.Outcome State Fault Refusal :=
  .next (s.act (awake (xferDoneOp r)))

end Sys2Proof.Machine
end

