-- ==== Sys2Proof/Machine/EngineRows.lean ====
section
/-! DEFINITION. The meanings of the rows of the command engine (spec/16_commands_firmware.md). -/

namespace Sys2Proof.Machine

/-- COMMAND_PACKET (R451): A command packet arrives and is judged: tag, length, sequence, destination, opcode, flags. -/
def execCommandPacket (p : RawPacket) (s : State) : Host.Outcome State Fault Refusal :=
  .next (s.act (awake (commandPacketOp p)))

/-- COMMAND_ACCEPT (R452): The engine takes up the next checked packet in arrival order and runs its routine. -/
def execCommandAccept (s : State) : Host.Outcome State Fault Refusal :=
  .next (s.act (awake commandAcceptOp))

/-- COMMITTED_STEP (R464): A sort with COMMIT set closes a committed step of the running routine, and the sort that ends the routine sends its final reply. -/
def execCommittedStep (s : State) : Host.Outcome State Fault Refusal :=
  .next (s.act (awake committedStepOp))

/-- COMMAND_TIMEOUT (R460): A routine reaching its maximum time stops at a step boundary and replies TIMEOUT. -/
def execCommandTimeout (s : State) : Host.Outcome State Fault Refusal :=
  .next (s.act (awake commandTimeoutOp))

/-- URGENT_PREEMPT (R463): An urgent packet preempts the running routine at a case-word boundary and runs in the shadow bank. -/
def execUrgentPreempt (s : State) : Host.Outcome State Fault Refusal :=
  .next (s.act (awake urgentPreemptOp))

/-- ROUTINE_RESUME (R463): After an urgent routine the preempted routine resumes at its case word. -/
def execRoutineResume (s : State) : Host.Outcome State Fault Refusal :=
  .next (s.act (awake routineResumeOp))

/-- IDENTIFY (R466): Command that returns IDENT, REVISION, DEVID, MC_VERSION and serial number. -/
def execIdentify (c : Ctx) (s : State) : Host.Outcome State Fault Refusal :=
  .next (s.act (direct (.identify c) c 0x0101 identifyOp))

/-- ECHO (R466): Command that returns its payload. -/
def execEcho (c : Ctx) (data : List Byte) (s : State) : Host.Outcome State Fault Refusal :=
  .next (s.act (direct (.echo c data) c 0x0102 (echoOp data)))

/-- SUMMARY (R466): Command that returns six status registers and the sample index. -/
def execSummary (c : Ctx) (s : State) : Host.Outcome State Fault Refusal :=
  .next (s.act (direct (.summary c) c 0x0103 summaryOp))

/-- PROG_LOAD (R113): Command that checks and loads pulse program instructions and recomputes block energies. -/
def execProgLoad (c : Ctx) (kind : Nat) (n : Nat) (first : Nat) (ins : List Nat) (s : State) : Host.Outcome State Fault Refusal :=
  .next (s.act (direct (.progLoad c kind n first ins) c 0x0301 (progLoadOp c.sess kind n first ins)))

/-- PROG_READ (R466): Command that reads pulse program instructions. -/
def execProgRead (c : Ctx) (kind : Nat) (n : Nat) (first : Nat) (count : Nat) (s : State) : Host.Outcome State Fault Refusal :=
  .next (s.act (direct (.progRead c kind n first count) c 0x0302 (progReadOp kind n first count)))

/-- RUN_START (R114): Command that enters named sequencers into PENDING with a start index. -/
def execRunStart (c : Ctx) (x : Nat) (es : List RunEntry) (s : State) : Host.Outcome State Fault Refusal :=
  .next (s.act (direct (.runStart c x es) c 0x0501 (runStartOp c.sess x es)))

/-- RUN_JUMP (R101): Command that makes a jump request to a BLOCK target. -/
def execRunJump (c : Ctx) (k : Nat) (tgt : Nat) (s : State) : Host.Outcome State Fault Refusal :=
  .next (s.act (direct (.runJump c k tgt) c 0x0502 (fun u => runJumpOp c.sess k tgt (c.timed.getD u.issueIndex) u)))

/-- RUN_STATUS (R466): Command that returns the STATE of every sequencer. -/
def execRunStatus (c : Ctx) (s : State) : Host.Outcome State Fault Refusal :=
  .next (s.act (direct (.runStatus c) c 0x0504 runStatusOp))

/-- STOP (R115): Urgent command that stops named sequencers and trigger engines. -/
def execStop (c : Ctx) (cs : Nat) (rs : Nat) (tg : Nat) (s : State) : Host.Outcome State Fault Refusal :=
  .next (s.act (direct (.stop c cs rs tg) c 0x0F01 (stopOp c.sess cs rs tg)))

/-- ABORT (R467): Urgent command that stops the session's resources, cancels its TIMED commands and its routine. -/
def execAbort (c : Ctx) (s : State) : Host.Outcome State Fault Refusal :=
  .next (s.act (direct (.abort c) c 0x0F03 (abortOp c.sess)))

/-- SPI_PUT (R472): MGMT SPI transaction that shifts in one command packet. -/
def execSpiPut (p : RawPacket) (s : State) : Host.Outcome State Fault Refusal :=
  .next (s.act (awake (spiPutOp p)))

/-- SPI_GET (R472): MGMT SPI transaction that shifts out the next reply or notice. -/
def execSpiGet (s : State) : Host.Outcome State Fault Refusal :=
  .next (s.act (awake spiGetOp))

/-- SPI_STAT (R472): MGMT SPI transaction that shifts out the status byte. -/
def execSpiStat (s : State) : Host.Outcome State Fault Refusal :=
  .next (s.act (spiStatOp))

/-- MC_LOAD_BEGIN (R476): Command that discards any staged microcode and sets LOADING. -/
def execMcLoadBegin (c : Ctx) (len : Nat) (s : State) : Host.Outcome State Fault Refusal :=
  .next (s.act (direct (.mcLoadBegin c len) c 0x0D01 (mcBeginOp len)))

/-- MC_LOAD_DATA (R476): Command that writes bytes into the microcode stage. -/
def execMcLoadData (c : Ctx) (ofs : Nat) (data : List Byte) (s : State) : Host.Outcome State Fault Refusal :=
  .next (s.act (direct (.mcLoadData c ofs data) c 0x0D02 (mcDataOp ofs data)))

/-- MC_LOAD_COMMIT (R476): Command that verifies the staged image and writes it to the plate store. -/
def execMcLoadCommit (c : Ctx) (sigOk : Bool) (s : State) : Host.Outcome State Fault Refusal :=
  .next (s.act (direct (.mcLoadCommit c sigOk) c 0x0D03 (mcCommitOp sigOk)))

/-- MC_INFO (R466): Command that returns the microcode version registers. -/
def execMcInfo (c : Ctx) (s : State) : Host.Outcome State Fault Refusal :=
  .next (s.act (direct (.mcInfo c) c 0x0D04 mcInfoOp))

end Sys2Proof.Machine
end

