-- ==== Sys2Proof/Machine/FeedbackRows.lean ====
section
/-! DEFINITION. The meanings of the rows of decisions across devices (spec/07_feedback.md) and the VC1 blocks that carry them. -/

namespace Sys2Proof.Machine

/-- VC1_BLOCK_SEND (R234): The next queued VC1 block is sent in a reserved slot. -/
def execVc1BlockSend (p : Fin 8) (s : State) : Host.Outcome State Fault Refusal :=
  .next (s.act (awake (vc1SendOp p)))

/-- DECISION_FRAME_RX (R236): A decision frame is received, checked, and delivered to XDc and forwarded, or dropped. -/
def execDecisionFrameRx (p : Fin 8) (b : Vc1Block) (s : State) : Host.Outcome State Fault Refusal :=
  .next (s.act (awake (vc1Row p 1 b 0)))

/-- REVOKE_FRAME_RX (R246): A revoke frame taints the received words of its channel from DUE on and is forwarded. -/
def execRevokeFrameRx (p : Fin 8) (b : Vc1Block) (s : State) : Host.Outcome State Fault Refusal :=
  .next (s.act (awake (vc1Row p 4 b 0)))

/-- VC1_TAG_FRAME_RX (R495): A VC1 tag frame is received, and the tags of its blocks are verified. -/
def execVc1TagFrameRx (p : Fin 8) (t : TagFrame) (s : State) : Host.Outcome State Fault Refusal :=
  .next (s.act (awake (tagFrameOp p t.tags)))

/-- TAG_TIMEOUT (R495): No tag arrives within 8,192 samples of a VC1 block acted on, which is a tag failure. -/
def execTagTimeout (p : Fin 8) (s : State) : Host.Outcome State Fault Refusal :=
  .next (s.act (awake (tagTimeoutOp p)))

/-- SYNTHETIC_UNDECIDED_WORD (R242): In every fabric cycle while a port is down, each enabled remote slot accepted on it receives a synthetic UNDECIDED word with A equal to the cycle's issue index plus 64, which ARMD may latch and DT units count and activate on. -/
def execSyntheticUndecidedWord (p : Fin 8) (s : State) : Host.Outcome State Fault Refusal :=
  .next (s.act (awake (syntheticOp p)))

end Sys2Proof.Machine
end

