-- ==== Sys2Proof/Machine/LaneRows.lean ====
section
/-! DEFINITION. The meanings of the rows of the lanes (spec/14_lane_physical_layer.md). -/

namespace Sys2Proof.Machine

/-- LN_PORT_ENABLE (R408): Setting LN_PCTL.EN starts a port's transmit and receive sides. -/
def execLnPortEnable (c : Ctx) (p : Fin 8) (v : Nat) (s : State) : Host.Outcome State Fault Refusal :=
  .next (s.act (regRow c .lnPctl p 0 (orBit v 0)))

/-- LN_PORT_DISABLE (R408): Clearing LN_PCTL.EN returns the port to electrical idle. -/
def execLnPortDisable (c : Ctx) (p : Fin 8) (v : Nat) (s : State) : Host.Outcome State Fault Refusal :=
  .next (s.act (regRow c .lnPctl p 0 (offBit v 0)))

/-- SIGNAL_DETECT (R409): Signal detect asserts on a lane, which goes to SEARCH or CDR. -/
def execSignalDetect (n : Fin 72) (s : State) : Host.Outcome State Fault Refusal :=
  .next (s.act (awake (signalDetectOp n)))

/-- SIGNAL_LOSS (R409): Loss of signal detect returns a lane to NOSIG. -/
def execSignalLoss (n : Fin 72) (s : State) : Host.Outcome State Fault Refusal :=
  .next (s.act (awake (signalLossOp n)))

/-- CDR_LOCK (R409): Clock recovery locks and the lane enters HUNT. -/
def execCdrLock (n : Fin 72) (s : State) : Host.Outcome State Fault Refusal :=
  .next (s.act (awake (cdrLockOp n)))

/-- CDR_UNLOCK (R409): Loss of clock recovery lock returns the lane to CDR. -/
def execCdrUnlock (n : Fin 72) (s : State) : Host.Outcome State Fault Refusal :=
  .next (s.act (awake (cdrUnlockOp n)))

/-- EQ_SEARCH_STEP (R417): After 50 µs at one CTLE value the eye margin is measured and the next value set; the search ends with the best value. -/
def execEqSearchStep (n : Fin 72) (margin : Nat) (s : State) : Host.Outcome State Fault Refusal :=
  .next (s.act (awake (eqStepOp n margin)))

/-- LANE_BLOCK_RX (R410): A 66-bit block is received; its header drives HUNT and LOCKED, and control blocks are sorted. -/
def execLaneBlockRx (n : Fin 72) (hdr : Nat) (body : Nat) (s : State) : Host.Outcome State Fault Refusal :=
  .next (s.act (awake (laneBlockOp n hdr body)))

/-- ALIGN_BLOCK_RX (R412): An ALIGN block places and deskews a lane, and the port state is judged. -/
def execAlignBlockRx (n : Fin 72) (b : AlignBlock) (s : State) : Host.Outcome State Fault Refusal :=
  .next (s.act (awake (alignBlockOp n b)))

/-- ALIGN_TIME (R407): Every 16,384 block times all nine pairs send ALIGN, and any pending lane move to the spare is made. -/
def execAlignTime (p : Fin 8) (s : State) : Host.Outcome State Fault Refusal :=
  .next (s.act (awake (alignTimeOp p)))

/-- LN_CTL_WRITE (R416): A write to LN_CTL sets equaliser, swing, polarity, loop, test pattern and TXOFF, or is refused on a placed lane. -/
def execLnCtlWrite (c : Ctx) (n : Fin 72) (v : Nat) (s : State) : Host.Outcome State Fault Refusal :=
  .next (s.act (regRow c .lnCtl n 0 v))

end Sys2Proof.Machine
end

