-- ==== Sys2Proof/Machine/LinkRows.lean ====
section
/-! DEFINITION. The meanings of the rows of the links (spec/15_links_flow_control.md). -/

namespace Sys2Proof.Machine

/-- LK_ROLE_WRITE (R425): A write of LK_PCTL.ROLE, refused unless the port is disabled. -/
def execLkRoleWrite (c : Ctx) (p : Fin 8) (v : Nat) (s : State) : Host.Outcome State Fault Refusal :=
  .next (s.act (regRow c .lkPctl p 0 v))

/-- DEVID_WRITE (R436): A write of LK_DEVID, refused while any port is enabled. -/
def execDevidWrite (c : Ctx) (v : Nat) (s : State) : Host.Outcome State Fault Refusal :=
  .next (s.act (regRow c .lkDevid 0 0 v))

/-- LINIT_SEND (R435): In INIT a LINIT block is sent every 1 µs. -/
def execLinitSend (p : Fin 8) (s : State) : Host.Outcome State Fault Refusal :=
  .next (s.act (awake (linitSendOp p)))

/-- LINIT_RX (R435): A LINIT block is received; INIT completes to UP or ATTEST, or ROLEMIS is set. -/
def execLinitRx (p : Fin 8) (b : LinitBlock) (s : State) : Host.Outcome State Fault Refusal :=
  .next (s.act (awake (linitRxOp p b)))

/-- HELLO_RX (R491): A peer's attestation HELLO is received and checked. -/
def execHelloRx (p : Fin 8) (h : Hello) (s : State) : Host.Outcome State Fault Refusal :=
  .next (s.act (awake (helloRxOp p h)))

/-- FINISH_RX (R492): A peer's FINISH is received; attestation succeeds to UP with link keys, or fails to HALT. -/
def execFinishRx (p : Fin 8) (f : Finish) (sigOk : Bool) (s : State) : Host.Outcome State Fault Refusal :=
  .next (s.act (awake (finishRxOp p f sigOk)))

/-- ATTEST_TIMEOUT (R492): Attestation not complete within 100 ms fails and takes the link to HALT. -/
def execAttestTimeout (p : Fin 8) (s : State) : Host.Outcome State Fault Refusal :=
  .next (s.act (awake (attestTimeoutOp p)))

/-- FRAME_SEND (R437): A frame is sent when a credit of its channel and replay room allow. -/
def execFrameSend (p : Fin 8) (s : State) : Host.Outcome State Fault Refusal :=
  .next (s.act (awake (frameSendOp p)))

/-- FRAME_RX (R438): A frame is received; a good expected frame is delivered, otherwise retry begins. -/
def execFrameRx (p : Fin 8) (f : Frame) (s : State) : Host.Outcome State Fault Refusal :=
  .next (s.act (awake (frameRxOp p f)))

/-- LINK_BLOCK_SEND (R433): A LINK block is sent after 64 non-reserved slots, or when no frame waits. -/
def execLinkBlockSend (p : Fin 8) (s : State) : Host.Outcome State Fault Refusal :=
  .next (s.act (awake (linkBlockSendOp p)))

/-- LINK_BLOCK_RX (R437): A LINK block returns credits and acknowledges frames. -/
def execLinkBlockRx (p : Fin 8) (b : LinkBlock) (s : State) : Host.Outcome State Fault Refusal :=
  .next (s.act (awake (linkBlockRxOp p b)))

/-- RETRY_RX (R440): A RETRY rewinds the transmitter to the named frame. -/
def execRetryRx (p : Fin 8) (n : Nat) (s : State) : Host.Outcome State Fault Refusal :=
  .next (s.act (awake (retryRxOp p n)))

/-- RETRY_RESEND (R439): In PENDING, a further RETRY is sent after 1 µs without the expected frame. -/
def execRetryResend (p : Fin 8) (s : State) : Host.Outcome State Fault Refusal :=
  .next (s.act (awake (retryResendOp p)))

/-- GIVEUP (R439): 4 µs after the first RETRY the receiver gives up and sends SPARE or RESET. -/
def execGiveup (p : Fin 8) (s : State) : Host.Outcome State Fault Refusal :=
  .next (s.act (awake (giveupOp p)))

/-- RETRY1_RX (R441): A RETRY1 requeues the VC1 block of the named reserved slot, or counts V1LOST. -/
def execRetry1Rx (p : Fin 8) (v : Nat) (s : State) : Host.Outcome State Fault Refusal :=
  .next (s.act (awake (retry1RxOp p v)))

/-- SPARE_RX (R442): A SPARE makes the transmitter skip the logical lane, rewind, and move it to the spare at the next alignment time. -/
def execSpareRx (p : Fin 8) (lane : Nat) (s : State) : Host.Outcome State Fault Refusal :=
  .next (s.act (awake (spareRxOp p lane)))

/-- SPARE_RESEND (R442): SPARE is repeated every 1 µs until the lane has moved. -/
def execSpareResend (p : Fin 8) (s : State) : Host.Outcome State Fault Refusal :=
  .next (s.act (awake (spareResendOp p)))

/-- RESET_BLOCK_RX (R434): A RESET block takes the link to DOWN. -/
def execResetBlockRx (p : Fin 8) (s : State) : Host.Outcome State Fault Refusal :=
  .next (s.act (awake (resetBlockOp p)))

/-- LINK_TIMEOUT (R434): No valid LINK or LINIT block for 8 µs takes the link to DOWN. -/
def execLinkTimeout (p : Fin 8) (s : State) : Host.Outcome State Fault Refusal :=
  .next (s.act (awake (linkTimeoutOp p)))

/-- LINK_RESTART (R434): Writing 1 to LK_PCTL.RESTART takes a halted link to DOWN. -/
def execLinkRestart (c : Ctx) (p : Fin 8) (v : Nat) (s : State) : Host.Outcome State Fault Refusal :=
  .next (s.act (regRow c .lkPctl p 0 (orBit v 1)))

/-- LINK_STATS (R466): Command that returns a port's link registers latched in one cycle. -/
def execLinkStats (c : Ctx) (p : Nat) (s : State) : Host.Outcome State Fault Refusal :=
  .next (s.act (direct (.linkStats c p) c 0x0B01 (linkStatsOp p)))

end Sys2Proof.Machine
end

