-- ==== Sys2Proof/Machine/MemoryRows.lean ====
section
/-! DEFINITION. The meanings of the rows of memory and its integrity (spec/13_memory_integrity.md). -/

namespace Sys2Proof.Machine

/-- MEM_READ (R399): Command that reads DRAM lines. -/
def execMemRead (c : Ctx) (first : Nat) (count : Nat) (s : State) : Host.Outcome State Fault Refusal :=
  .next (s.act (direct (.memRead c first count) c 0x0A01 (memReadOp c first count)))

/-- MEM_WRITE (R382): Command that writes DRAM bytes, whole lines directly and part lines into the merge buffer. -/
def execMemWrite (c : Ctx) (addr : Nat) (data : List Byte) (s : State) : Host.Outcome State Fault Refusal :=
  .next (s.act (direct (.memWrite c addr data) c 0x0A02 (memWriteOp c addr data)))

/-- MEM_SETCLASS (R376): Command that rewrites granules under a new protection class. -/
def execMemSetclass (c : Ctx) (first : Nat) (count : Nat) (cls : Nat) (s : State) : Host.Outcome State Fault Refusal :=
  .next (s.act (direct (.memSetclass c first count cls) c 0x0A03 (memSetclassOp c first count cls)))

/-- SETCLASS_DONE (R376): The class rewrite completes and the final reply is sent. -/
def execSetclassDone (s : State) : Host.Outcome State Fault Refusal :=
  .next (s.act (awake setclassDoneOp))

/-- MEM_THAW (R390): Command that resumes a frozen DRAM controller, optionally rewriting the failing line. -/
def execMemThaw (c : Ctx) (action : Nat) (s : State) : Host.Outcome State Fault Refusal :=
  .next (s.act (direct (.memThaw c action) c 0x0A04 (memThawOp action)))

/-- MEM_DIAG (R399): Command that returns a line as stored with its check bytes and syndrome. -/
def execMemDiag (c : Ctx) (line : Nat) (s : State) : Host.Outcome State Fault Refusal :=
  .next (s.act (direct (.memDiag c line) c 0x0A05 (memDiagOp c.sess line)))

/-- MEM_REPAIR_ADD (R397): Command that records a DRAM repair entry in the fuse map. -/
def execMemRepairAdd (c : Ctx) (r : Repair) (s : State) : Host.Outcome State Fault Refusal :=
  .next (s.act (direct (.memRepairAdd c r) c 0x0A06 (repairOp r)))

/-- MEM_SCRUB_NOW (R399): Command that scrubs the named granules at once. -/
def execMemScrubNow (c : Ctx) (first : Nat) (count : Nat) (s : State) : Host.Outcome State Fault Refusal :=
  .next (s.act (direct (.memScrubNow c first count) c 0x0A07 (memScrubNowOp first count)))

/-- MERGE_TIMEOUT (R382): A merge entry that has stood MEM_MERGE_TMO cycles is written by read-modify-write. -/
def execMergeTimeout (n : Nat) (s : State) : Host.Outcome State Fault Refusal :=
  .next (s.act (awake (mergeTimeoutOp n)))

/-- DRAM_READ_RETURN (R386): DRAM read data return and are decoded: delivered, corrected, or the controller freezes. -/
def execDramReadReturn (pc : Fin 64) (errs : List (Nat × Nat)) (s : State) : Host.Outcome State Fault Refusal :=
  .next (s.act (awake (memReturnOp pc errs)))

/-- CA_PARITY_ERROR (R387): A stack reports a command and address parity error, which freezes the controller. -/
def execCaParityError (st : Fin 2) (ch : Fin 16) (s : State) : Host.Outcome State Fault Refusal :=
  .next (s.act (awake (caParityOp st ch)))

/-- DRAM_NO_RESPONSE (R387): A stack returns no data within 256 cycles of a read, which freezes the controller. -/
def execDramNoResponse (pc : Fin 64) (s : State) : Host.Outcome State Fault Refusal :=
  .next (s.act (awake (noResponseOp pc)))

/-- REFRESH_DUE (R385): A t_REFI elapses for a pseudo-channel, raising its refresh debt and forcing a refresh at debt 8. -/
def execRefreshDue (pc : Fin 64) (s : State) : Host.Outcome State Fault Refusal :=
  .next (s.act (awake (refreshDueOp pc)))

/-- STACK_TEMP_REPORT (R384): Every 1 ms a stack's temperature report sets the refresh rate and STACK_HOT. -/
def execStackTempReport (st : Fin 2) (t : Nat) (s : State) : Host.Outcome State Fault Refusal :=
  .next (s.act (awake (stackTempOp st t)))

/-- SCRUB_READ (R393): The DRAM scrub reads the next line in a free slot and queues any correction for write-back. -/
def execScrubRead (s : State) : Host.Outcome State Fault Refusal :=
  .next (s.act (awake scrubReadOp))

/-- SRAM_SCRUB (R395): An SRAM macro is scrubbed in an idle port cycle, and corrected words are rewritten. -/
def execSramScrub (region : Nat) (inst : Nat) (word : Nat) (errs : List (Nat × Nat)) (s : State) : Host.Outcome State Fault Refusal :=
  .next (s.act (awake (sramScrubOp region inst word errs)))

/-- DRAM_COMMAND_SLOT (R379): In each command slot every pseudo-channel switches between READ and WRITE mode and issues one precharge, activate, read or write command from its bank queues in rotation order, closing rows under R380. -/
def execDramCommandSlot (s : State) : Host.Outcome State Fault Refusal :=
  .next (s.act (awake memSlotOp))

end Sys2Proof.Machine
end

