-- ==== Sys2Proof/Machine/ReadoutRows.lean ====
section
/-! DEFINITION. The meanings of the rows of the read-out chain (spec/06_readout_chain.md). -/

namespace Sys2Proof.Machine

/-- IP_CTRL_WRITE (R183): A write to IP_CTRL sets RANGE and CAPDEC, or is refused with BUSY when RANGE would change during an open window. -/
def execIpCtrlWrite (c : Ctx) (i : Fin 64) (v : Nat) (s : State) : Host.Outcome State Fault Refusal :=
  .next (s.act (regRow c .ipCtrl i 0 v))

/-- ADC_OVR (R184): A corrected code at full scale sets ADC_OVR and marks the windows and captures that hold it CLIP. -/
def execAdcOvr (i : Fin 64) (xs : List Int) (s : State) : Host.Outcome State Fault Refusal :=
  .next (s.act (awake (adcOvrOp i xs)))

/-- CAP_CTRL_WRITE (R187): A write that sets IP_CAP_CTRL.EN is checked against the BARE class of the capture area. -/
def execCapCtrlWrite (c : Ctx) (i : Fin 64) (v : Nat) (s : State) : Host.Outcome State Fault Refusal :=
  .next (s.act (regRow c .ipCapCtrl i 0 v))

/-- DECIMATED_SAMPLE (R199): A decimated sample enters the lane's buffer, or is discarded with LAG when the buffer is full. -/
def execDecimatedSample (l : Fin 1024) (xs : List Int) (s : State) : Host.Outcome State Fault Refusal :=
  .next (s.act (awake fun d => sampleEnter l (wordBrought (l / 16) xs d)))

/-- DEMOD_PROGRAM_START (R200): A lane's program starts for a window after the previous result is latched and its first sample has arrived. -/
def execDemodProgramStart (l : Fin 1024) (s : State) : Host.Outcome State Fault Refusal :=
  .next (s.act (awake (programStartOp l)))

/-- DEMOD_NOP (R201): Demodulation instruction that does nothing. -/
def execDemodNop (l : Fin 1024) (s : State) : Host.Outcome State Fault Refusal :=
  .next (s.act (awake (demodOp l fun d => match d with | .nop => true | _ => false)))

/-- DEMOD_MAC (R203): Demodulation instruction that accumulates sample times kernel, with saturation. -/
def execDemodMac (l : Fin 1024) (s : State) : Host.Outcome State Fault Refusal :=
  .next (s.act (awake (demodOp l fun d => match d with | .mac .. => true | _ => false)))

/-- DEMOD_SKIP (R201): Demodulation instruction that discards COUNT samples. -/
def execDemodSkip (l : Fin 1024) (s : State) : Host.Outcome State Fault Refusal :=
  .next (s.act (awake (demodOp l fun d => match d with | .skip .. => true | _ => false)))

/-- DEMOD_REP (R204): Demodulation instruction that runs the next LEN instructions COUNT times from the repeat cache. -/
def execDemodRep (l : Fin 1024) (s : State) : Host.Outcome State Fault Refusal :=
  .next (s.act (awake (demodOp l fun d => match d with | .rep .. => true | _ => false)))

/-- DEMOD_SETKP (R202): Demodulation instruction that sets the kernel pointer. -/
def execDemodSetkp (l : Fin 1024) (s : State) : Host.Outcome State Fault Refusal :=
  .next (s.act (awake (demodOp l fun d => match d with | .setkp _ => true | _ => false)))

/-- DEMOD_SETPS (R201): Demodulation instruction that sets the pre-shift. -/
def execDemodSetps (l : Fin 1024) (s : State) : Host.Outcome State Fault Refusal :=
  .next (s.act (awake (demodOp l fun d => match d with | .setps _ => true | _ => false)))

/-- DEMOD_ADD (R201): Demodulation instruction that adds or subtracts a shifted accumulator. -/
def execDemodAdd (l : Fin 1024) (s : State) : Host.Outcome State Fault Refusal :=
  .next (s.act (awake (demodOp l fun d => match d with | .add .. => true | _ => false)))

/-- DEMOD_CLR (R201): Demodulation instruction that clears an accumulator and its SAT bit. -/
def execDemodClr (l : Fin 1024) (s : State) : Host.Outcome State Fault Refusal :=
  .next (s.act (awake (demodOp l fun d => match d with | .clr _ => true | _ => false)))

/-- DEMOD_END (R206): Demodulation instruction that latches the result accumulator and discards the rest of the window. -/
def execDemodEnd (l : Fin 1024) (s : State) : Host.Outcome State Fault Refusal :=
  .next (s.act (awake (demodOp l fun d => match d with | .endP => true | _ => false)))

/-- FINISH_STEP (R207): At the finish step the result goes to the discriminator; the state is formed, the record written and the decision word placed. -/
def execFinishStep (l : Fin 1024) (s : State) : Host.Outcome State Fault Refusal :=
  .next (s.act (awake (finishStepOp l)))

/-- RECORD_MOVE (R217): The record mover moves records from the ring to a bulk packet or the spool once credit, session or spool room allows. -/
def execRecordMove (i : Fin 64) (s : State) : Host.Outcome State Fault Refusal :=
  .next (s.act (awake (recordMoveOp i)))

/-- KERN_LOAD (R222): Command that writes complex taps into an input's kernel store. -/
def execKernLoad (c : Ctx) (i : Nat) (first : Nat) (taps : List (Int × Int)) (s : State) : Host.Outcome State Fault Refusal :=
  .next (s.act (direct (.kernLoad c i first taps) c 0x0601 (kernLoadOp c.sess i first taps)))

/-- DPROG_LOAD (R208): Command that writes the demodulation program store. -/
def execDprogLoad (c : Ctx) (i : Nat) (first : Nat) (words : List Nat) (s : State) : Host.Outcome State Fault Refusal :=
  .next (s.act (direct (.dprogLoad c i first words) c 0x0602 (dprogLoadOp c.sess i first words)))

/-- DPROG_REG_WRITE (R208): A REG_WRITE of IP_DPROG_a is checked and refused while a window is open. -/
def execDprogRegWrite (c : Ctx) (i : Fin 64) (a : Fin 256) (v : Nat) (s : State) : Host.Outcome State Fault Refusal :=
  .next (s.act (regRow c .ipDprog i a v))

/-- KERN_READ (R466): Command that reads kernel taps. -/
def execKernRead (c : Ctx) (i : Nat) (first : Nat) (count : Nat) (s : State) : Host.Outcome State Fault Refusal :=
  .next (s.act (direct (.kernRead c i first count) c 0x0603 (kernReadOp c.sess i first count)))

end Sys2Proof.Machine
end

