-- ==== Sys2Proof/Machine/RegisterRows.lean ====
section
/-! DEFINITION. The meanings of the rows of the register commands of group 0x02 and the timed table. -/

namespace Sys2Proof.Machine

/-- REG_READ (R31): Command that reads one register; an RC field is cleared in the same fabric cycle. -/
def execRegRead (c : Ctx) (addr : Nat) (s : State) : Host.Outcome State Fault Refusal :=
  .next (s.act (direct (.regRead c addr) c 0x0201 (regReadOp c.sess addr)))

/-- LATCHING_READ (R45): A read of the low word of a multi-word register latches the remaining words for the reads that follow. -/
def execLatchingRead (c : Ctx) (addr : Nat) (s : State) : Host.Outcome State Fault Refusal :=
  .next (s.act (direct (.regRead c addr) c 0x0201 (regReadOp c.sess addr)))

/-- REG_WRITE (R24): Command that writes one register with no behaviour of its own; it lands at the start of a fabric cycle under its access code. -/
def execRegWrite (c : Ctx) (addr : Nat) (v : Nat) (s : State) : Host.Outcome State Fault Refusal :=
  .next (s.act (direct (.regWrite c addr v) c 0x0202 (regWriteOp c.sess addr (v % 2 ^ 32))))

/-- REG_READ_MULTI (R466): Command that reads up to 256 consecutive registers. -/
def execRegReadMulti (c : Ctx) (first : Nat) (count : Nat) (s : State) : Host.Outcome State Fault Refusal :=
  .next (s.act (direct (.regReadMulti c first count) c 0x0203 (regReadMultiOp c.sess first count)))

/-- REG_WRITE_LIST (R466): Command that writes up to 256 address and value pairs in order; it stops at the first refused pair. -/
def execRegWriteList (c : Ctx) (pairs : List (Nat × Nat)) (s : State) : Host.Outcome State Fault Refusal :=
  .next (s.act (direct (.regWriteList c pairs) c 0x0204 (regWriteListOp c.sess pairs)))

/-- TIMED_DISPATCH (R458): A pending TIMED command is dispatched from the timed table and takes effect at EXEC_AT, or late with status LATE. -/
def execTimedDispatch (n : Nat) (s : State) : Host.Outcome State Fault Refusal :=
  .next (s.act (timedDispatchOp n))

end Sys2Proof.Machine
end

