-- ==== Sys2Proof/Machine/RouterRows.lean ====
section
/-! DEFINITION. The meanings of the rows of the event router and the event counters (spec/09_event_routing_and_counters.md). -/

namespace Sys2Proof.Machine

/-- CHANNEL_ACTIVATION (R275): Events presented to a channel in one cycle form one activation in the next router cycle and reach its consumers. -/
def execChannelActivation (n : Fin 256) (s : State) : Host.Outcome State Fault Refusal :=
  .next (s.act (awake (activationOp n)))

/-- EV_INJECT (R286): A write to EV_INJECT presents host-injection events. -/
def execEvInject (c : Ctx) (v : Nat) (s : State) : Host.Outcome State Fault Refusal :=
  .next (s.act (regRow c .evInject 0 0 v))

/-- LOOP_UNMUTE (R281): Writing 1 to a bit of EV_LOOPCH unmutes that channel from the next router cycle. -/
def execLoopUnmute (c : Ctx) (w : Fin 8) (v : Nat) (s : State) : Host.Outcome State Fault Refusal :=
  .next (s.act (regRow c .evLoopch 0 w v))

/-- EVC_CLEAR (R290): Writing CLR sets a counter's count to 0 before the additions of that cycle. -/
def execEvcClear (c : Ctx) (n : Fin 64) (v : Nat) (s : State) : Host.Outcome State Fault Refusal :=
  .next (s.act (regRow c .evcCtrl n 0 (orBit v 0)))

/-- EVC_SNAPSHOT (R289): Writing SNAP copies the count and stamp into EVC_SNAP and EVC_SNAPT. -/
def execEvcSnapshot (c : Ctx) (n : Fin 64) (v : Nat) (s : State) : Host.Outcome State Fault Refusal :=
  .next (s.act (regRow c .evcCtrl n 0 (orBit v 1)))

end Sys2Proof.Machine
end

