-- ==== Sys2Proof/Machine/SecurityRows.lean ====
section
/-! DEFINITION. The meanings of the rows of security and attested results (spec/17_security.md). -/

namespace Sys2Proof.Machine

/-- SESSION_OPEN (R483): Command that opens a session with owner signature and derives its keys. -/
def execSessionOpen (c : Ctx) (r : OpenReq) (s : State) : Host.Outcome State Fault Refusal :=
  .next (s.act (direct (.sessionOpen c r) c 0x0C01 (sessionOpenOp c r)))

/-- SESSION_CLOSE (R486): Command that closes the sender's session. -/
def execSessionClose (c : Ctx) (n : Nat) (s : State) : Host.Outcome State Fault Refusal :=
  .next (s.act (direct (.sessionClose c n) c 0x0C02 (sessionCloseOp c n)))

/-- OWNER_ENROLL (R481): Command that enrols the owner key once and closes every session. -/
def execOwnerEnroll (c : Ctx) (key : List Byte) (sigOk : Bool) (s : State) : Host.Outcome State Fault Refusal :=
  .next (s.act (direct (.ownerEnroll c key sigOk) c 0x0C03 (ownerEnrollOp c key sigOk)))

/-- RES_SEAL (R499): Command that sets resources to the sending session with an attribute. -/
def execResSeal (c : Ctx) (kind : Nat) (attr : Nat) (first : Nat) (count : Nat) (s : State) : Host.Outcome State Fault Refusal :=
  .next (s.act (direct (.resSeal c kind attr first count) c 0x0C04 (resSealOp c.sess kind attr first count)))

/-- RES_RELEASE (R499): Command that returns resources to FIRMWARE. -/
def execResRelease (c : Ctx) (kind : Nat) (attr : Nat) (first : Nat) (count : Nat) (s : State) : Host.Outcome State Fault Refusal :=
  .next (s.act (direct (.resRelease c kind attr first count) c 0x0C05 (resReleaseOp c.sess kind attr first count)))

/-- CERT_READ (R509): Command that returns one certificate of the identity chain. -/
def execCertRead (c : Ctx) (n : Nat) (s : State) : Host.Outcome State Fault Refusal :=
  .next (s.act (direct (.certRead c n) c 0x0C06 (certReadOp n)))

/-- COLOPHON_READ (R509): Command that returns colophons from the ring. -/
def execColophonRead (c : Ctx) (count : Nat) (peek : Bool) (s : State) : Host.Outcome State Fault Refusal :=
  .next (s.act (direct (.colophonRead c count peek) c 0x0C07 (colophonReadOp count peek)))

/-- ATTEST (R508): Command that returns a signed attestation statement. -/
def execAttest (c : Ctx) (nonce : List Byte) (s : State) : Host.Outcome State Fault Refusal :=
  .next (s.act (direct (.attest c nonce) c 0x0C08 (attestOp nonce)))

/-- COLOPHON_SIGNED (R503): A colophon is signed and written to the colophon ring. -/
def execColophonSigned (s : State) : Host.Outcome State Fault Refusal :=
  .next (s.act (awake colophonSignedOp))

/-- COLOPHON_DEFERRED_ISSUE (R503): A deferred colophon is issued once the queue or ring has room. -/
def execColophonDeferredIssue (l : Fin 1024) (s : State) : Host.Outcome State Fault Refusal :=
  .next (s.act (awake (colophonDeferredOp l)))

end Sys2Proof.Machine
end

