-- ==== Sys2Proof/Machine/SequencerRows.lean ====
section
/-! DEFINITION. The meanings of the rows of the channel and read-out sequencers (spec/03_pulse_programs.md). -/

namespace Sys2Proof.Machine

/-- NOP (R75): Sequencer instruction that does nothing but uses one issue. -/
def execNop (k : Fin 576) (s : State) : Host.Outcome State Fault Refusal :=
  .next (s.act (awake fun s => match s.nextInstr k with
    | some .nop => seqNop k (s.seq k).npc s
    | _ => s))

/-- BLOCK (R80): Sequencer instruction that presents a block to the budget scheduler with a candidate start index. -/
def execBlock (k : Fin 576) (s : State) : Host.Outcome State Fault Refusal :=
  .next (s.act (awake fun s => match s.nextInstr k with
    | some (.block ..) => seqBlock k (s.seq k).npc s
    | _ => s))

/-- BLOCK_START (R305): An admitted block reaches its start index; its energy vector is charged to the ledgers and BLOCK_START is produced. -/
def execBlockStart (k : Fin 576) (s : State) : Host.Outcome State Fault Refusal :=
  .next (s.act (awake (blockStartOp k)))

/-- BLOCK_REPRESENT (R312): A deferred block is presented again with candidate T0 + 32 × L_def once it lies within 8,192 samples of the issue index. -/
def execBlockRepresent (k : Fin 576) (s : State) : Host.Outcome State Fault Refusal :=
  .next (s.act (awake (representOp k)))

/-- END (R92): Sequencer instruction that closes the block and takes the sequencer to STOPPED. -/
def execEndBlock (k : Fin 576) (s : State) : Host.Outcome State Fault Refusal :=
  .next (s.act (awake fun s => match s.nextInstr k with
    | some .endB => seqEnd k (s.seq k).npc s
    | _ => s))

/-- YIELD (R84): Sequencer instruction that ends an alternate and presents the deferred block again, or acts as END. -/
def execYieldBlock (k : Fin 576) (s : State) : Host.Outcome State Fault Refusal :=
  .next (s.act (awake fun s => match s.nextInstr k with
    | some .yieldB => seqYield k (s.seq k).npc s
    | _ => s))

/-- GOTO (R92): Sequencer instruction that jumps to its target address. -/
def execGoto (k : Fin 576) (s : State) : Host.Outcome State Fault Refusal :=
  .next (s.act (awake fun s => match s.nextInstr k with
    | some (.goto t) => seqGoto k (s.seq k).npc t s
    | _ => s))

/-- LOOP (R550): Sequencer instruction that sets REMAIN of its loop counter to COUNT. -/
def execLoop (k : Fin 576) (s : State) : Host.Outcome State Fault Refusal :=
  .next (s.act (awake fun s => match s.nextInstr k with
    | some (.loop r n) => seqLoop k (s.seq k).npc r n s
    | _ => s))

/-- ENDL (R550): Sequencer instruction that decrements its counter and jumps to TARGET, or falls through. -/
def execEndl (k : Fin 576) (s : State) : Host.Outcome State Fault Refusal :=
  .next (s.act (awake fun s => match s.nextInstr k with
    | some (.endl r t) => seqEndl k (s.seq k).npc r t s
    | _ => s))

/-- JCOND (R111): Sequencer instruction that stalls until the verdict is known, then issues together with the first instruction of the chosen path. -/
def execJcond (k : Fin 576) (s : State) : Host.Outcome State Fault Refusal :=
  .next (s.act (awake fun s => match s.nextInstr k with
    | some (.jcond pol t) => jcondOp k (s.seq k).npc pol t s
    | _ => s))

/-- ARMD (R106): Sequencer instruction that discards the old verdict, arms a lane or gate condition and latches qualifying words. -/
def execArmd (k : Fin 576) (s : State) : Host.Outcome State Fault Refusal :=
  .next (s.act (awake fun s => match s.nextInstr k with
    | some (.armdLane l m d) => seqArmd k (s.seq k).npc (fun u => armLane k l m d (u.seq k).t u) s
    | some (.armdGate g) => seqArmd k (s.seq k).npc (fun u => armGate k g (u.seq k).t u) s
    | _ => s))

/-- WAIT (R92): Sequencer instruction that advances T by COUNT and may announce idle time to calibration. -/
def execWait (k : Fin 576) (s : State) : Host.Outcome State Fault Refusal :=
  .next (s.act (awake fun s => match s.nextInstr k with
    | some (.wait an n) => seqWait k (s.seq k).npc an n s
    | _ => s))

/-- PLAY (R144): Sequencer instruction that starts a galley or stream segment on a voice at T. -/
def execPlay (k : Fin 512) (s : State) : Host.Outcome State Fault Refusal :=
  .next (s.act (awake fun s => match s.nextInstr k with
    | some (.play ad v sg g) => seqPlay k (s.seq k).npc ad v sg g s
    | some (.stream ad v r g n) => seqStream k (s.seq k).npc ad v r g n s
    | _ => s))

/-- CPLAY (R109): Sequencer instruction that plays SEGA or SEGB according to the verdict V. -/
def execCplay (k : Fin 512) (s : State) : Host.Outcome State Fault Refusal :=
  .next (s.act (awake fun s => match s.nextInstr k with
    | some (.cplay ad v x y g) => seqCplay k (s.seq k).npc ad v x y g s
    | _ => s))

/-- SETF (R126): Sequencer instruction that sets a carrier's frequency word from index T. -/
def execSetf (k : Fin 512) (s : State) : Host.Outcome State Fault Refusal :=
  .next (s.act (awake fun s => match s.nextInstr k with
    | some (.setf c f) => seqSetf k (s.seq k).npc c f s
    | _ => s))

/-- SETP (R126): Sequencer instruction that sets or adds to a carrier's phase offset from index T. -/
def execSetp (k : Fin 512) (s : State) : Host.Outcome State Fault Refusal :=
  .next (s.act (awake fun s => match s.nextInstr k with
    | some (.setp c ad p) => seqSetp k (s.seq k).npc c ad p s
    | _ => s))

/-- SETPORT (R169): Sequencer instruction that stages a mode, bias or voice binding for its port at T. -/
def execSetport (k : Fin 512) (s : State) : Host.Outcome State Fault Refusal :=
  .next (s.act (awake fun s => match s.nextInstr k with
    | some (.setport kd v) => seqSetport k (s.seq k).npc kd v s
    | _ => s))

/-- STROBE (R95): Sequencer instruction that makes a forme load strobe at T, applying every value staged to all eight ports. -/
def execStrobe (k : Fin 512) (s : State) : Host.Outcome State Fault Refusal :=
  .next (s.act (awake fun s => match s.nextInstr k with
    | some .strobe => seqStrobe k (s.seq k).npc s
    | _ => s))

/-- MARK (R153): Sequencer instruction that sets a marker bit over [T + OFFSET, T + OFFSET + LENGTH). -/
def execMark (k : Fin 512) (s : State) : Host.Outcome State Fault Refusal :=
  .next (s.act (awake fun s => match s.nextInstr k with
    | some (.mark b o n) => seqMark k (s.seq k).npc b o n s
    | _ => s))

/-- EMIT (R92): Sequencer instruction that produces an event on output OUT stamped at T, with LATE when it issues late. -/
def execEmit (k : Fin 576) (s : State) : Host.Outcome State Fault Refusal :=
  .next (s.act (awake fun s => match s.nextInstr k with
    | some (.emit o) => seqEmit k (s.seq k).npc o s
    | _ => s))

/-- WIN (R97): Read-out instruction that opens an integration window on the chosen tones, or is refused on overlap. -/
def execWin (i : Fin 64) (s : State) : Host.Outcome State Fault Refusal :=
  .next (s.act (awake fun s => match s.nextInstr (512 + i) with
    | some (.win ad t n) => seqWin (512 + i) (s.seq (512 + i)).npc ad t n s
    | _ => s))

/-- CAPT (R186): Read-out instruction that starts a raw capture, or is not started for want of units or enable. -/
def execCapt (i : Fin 64) (s : State) : Host.Outcome State Fault Refusal :=
  .next (s.act (awake fun s => match s.nextInstr (512 + i) with
    | some (.capt ad n) => seqCapt (512 + i) (s.seq (512 + i)).npc ad n s
    | _ => s))

/-- CAPTURE_END (R188): A capture reaches its end or cut index, and its header line is written after its data. -/
def execCaptureEnd (i : Fin 64) (xs : List Int) (errs : List (Nat × Nat)) (s : State) : Host.Outcome State Fault Refusal :=
  .next (s.act (awake fun d => captureEndOp i (bufferTakes i errs (wordBrought i xs d))))

/-- UNDERRUN_ABORT (R88): After an underrun in a block with UPOL set, the sequencer and its gang enter ABORTED at the block's end index. -/
def execUnderrunAbort (k : Fin 576) (s : State) : Host.Outcome State Fault Refusal :=
  .next (s.act (awake (underrunAbortOp k)))

/-- JUMP_TAKE_EFFECT (R100): A pending jump takes effect at the first boundary past its commit point: the block ends, later actions are withdrawn and the target is presented. -/
def execJumpTakeEffect (k : Fin 576) (s : State) : Host.Outcome State Fault Refusal :=
  .next (s.act (awake (jumpTakeOp k)))

end Sys2Proof.Machine
end

