-- ==== Sys2Proof/Machine/StartRows.lean ====
section
/-! DEFINITION. The meanings of the rows of reset, start-up and temperature (spec/18_power_thermal_startup.md). -/

namespace Sys2Proof.Machine

/-- RESET_ASSERT (R516): RESET_N falls for 1 µs or more: ports mute, lanes go idle and volatile state is lost. -/
def execResetAssert (ns : Nat) (s : State) : Host.Outcome State Fault Refusal :=
  .next (s.act (resetAssertOp ns))

/-- RESET_RELEASE (R519): RESET_N rises and start-up begins with the fuse read. -/
def execResetRelease (s : State) : Host.Outcome State Fault Refusal :=
  .next (s.act (resetReleaseOp))

/-- STARTUP_FUSES (R519): Stage 1 completes: the fuse map is read and verified. -/
def execStartupFuses (ok : Bool) (s : State) : Host.Outcome State Fault Refusal :=
  .next (s.act (startupFusesOp ok))

/-- STARTUP_CLOCKS (R519): Stage 2 completes: the PLLs lock and SAMPLECOUNT begins. -/
def execStartupClocks (ok : Bool) (laneOk : Bool) (s : State) : Host.Outcome State Fault Refusal :=
  .next (s.act (startupClocksOp ok laneOk))

/-- CLOCK_LOCK_TIMEOUT (R519): A PLL not locked within 2 ms stops start-up with code 2. -/
def execClockLockTimeout (s : State) : Host.Outcome State Fault Refusal :=
  .next (s.act (clockTimeoutOp))

/-- STARTUP_SENSORS (R519): Stage 3 completes: the sensors are cross-checked and the offsets set. -/
def execStartupSensors (reads : List (List (Option Nat))) (s : State) : Host.Outcome State Fault Refusal :=
  .next (s.act (startupSensorsOp reads))

/-- STARTUP_MEMORY (R396): Stage 4 completes: repairs, training, checker test and memory fill. -/
def execStartupMemory (ok : Bool) (checkers : Bool) (s : State) : Host.Outcome State Fault Refusal :=
  .next (s.act (startupMemoryOp ok checkers))

/-- STARTUP_SECURITY (R519): Stage 5 completes: entropy tests, BOOTNONCE, and key and certificate checks. -/
def execStartupSecurity (r : SecStart) (s : State) : Host.Outcome State Fault Refusal :=
  .next (s.act (startupSecurityOp r))

/-- PROOF (R520): Stage 6 completes: island crossings are measured and sample words aligned. -/
def execProof (ok : Bool) (s : State) : Host.Outcome State Fault Refusal :=
  .next (s.act (proofOp ok))

/-- STARTUP_CALIBRATION (R521): Stage 7 completes: calibration seals are verified and sets loaded. -/
def execStartupCalibration (pass : List Nat) (s : State) : Host.Outcome State Fault Refusal :=
  .next (s.act (startupCalOp pass))

/-- STARTUP_MICROCODE (R477): Stage 8 completes: microcode is loaded and checked, or the factory image runs. -/
def execStartupMicrocode (sigOk : Bool) (romOk : Bool) (s : State) : Host.Outcome State Fault Refusal :=
  .next (s.act (startupMicrocodeOp sigOk romOk))

/-- RELEASE (R519): Chain heads are formed, registers take their reset values and the command engine is released. -/
def execRelease (us : Nat) (s : State) : Host.Outcome State Fault Refusal :=
  .next (s.act (releaseOp us))

/-- SENSOR_READ (R526): Every 100 µs all sensors are read and cross-checked, and TJ is published. -/
def execSensorRead (ts : List (Option Nat)) (s : State) : Host.Outcome State Fault Refusal :=
  .next (s.act (awake (sensorReadOp ts)))

end Sys2Proof.Machine
end

