-- ==== Sys2Proof/Machine/TimeRows.lean ====
section
/-! DEFINITION. The meanings of the rows of the time base (spec/02_time_and_registration.md). -/

namespace Sys2Proof.Machine

/-- TB_RATE_ADJ_WRITE (R43): A write to RATE_ADJ takes effect at the next fabric cycle, and OFFSET is compensated so that DeviceTime does not step. -/
def execTbRateAdjWrite (c : Ctx) (v : Nat) (s : State) : Host.Outcome State Fault Refusal :=
  .next (s.act (regRow c .tbRateAdj 0 0 v))

/-- TB_OFFSET_STAGE (R44): A write to TB_OFFSET0, TB_OFFSET1 or TB_OFFSET2 stages its word. -/
def execTbOffsetStage (c : Ctx) (w : Fin 3) (v : Nat) (s : State) : Host.Outcome State Fault Refusal :=
  .next (s.act (regRow c .tbOffset 0 w v))

/-- TB_OFFSET_COMMIT (R44): A write to TB_OFFSET3 stages its word and commits all four staged words at the next fabric cycle, which sets STEP and increments TB_STEPCOUNT. -/
def execTbOffsetCommit (c : Ctx) (v : Nat) (s : State) : Host.Outcome State Fault Refusal :=
  .next (s.act (regRow c .tbOffset 0 3 v))

/-- TB_SEAL (R46): Setting TB_CTRL.SEAL locks OFFSET and RATE_ADJ until reset. -/
def execTbSeal (c : Ctx) (v : Nat) (s : State) : Host.Outcome State Fault Refusal :=
  .next (s.act (regRow c .tbCtrl 0 0 (orBit v 8)))

/-- SYNC_ARM (R51): Setting SYNC_ARM arms SYNC capture, or is refused with BUSY while sequencers run, alarms are enabled or TIMED commands are pending. -/
def execSyncArm (c : Ctx) (v : Nat) (s : State) : Host.Outcome State Fault Refusal :=
  .next (s.act (regRow c .tbCtrl 0 0 (orBit v 0)))

/-- SYNC_DISARM (R52): Writing 0 to SYNC_ARM disarms capture and restores the former REG_STATE. -/
def execSyncDisarm (c : Ctx) (v : Nat) (s : State) : Host.Outcome State Fault Refusal :=
  .next (s.act (regRow c .tbCtrl 0 0 (offBit v 0)))

/-- SYNC_EDGE (R50): A rising edge at SYNC_IN is stamped to 1/256 sample, or ignored as short or too fast. -/
def execSyncEdge (stamp : Nat) (high : Nat) (s : State) : Host.Outcome State Fault Refusal :=
  .next (s.act (awake (syncEdgeOp stamp high)))

/-- REGISTRATION_APPLY (R53): The new W and d take effect at the first word at least 2,048 samples after the SYNC stamp; REG_STATE becomes REGISTERED. -/
def execRegistrationApply (s : State) : Host.Outcome State Fault Refusal :=
  .next (s.act (awake registrationApply))

/-- SYNC_GEN_PULSE (R49): In GENERATE mode SYNC_OUT rises at system index TB_SYNC_GEN for 1,024 samples. -/
def execSyncGenPulse (s : State) : Host.Outcome State Fault Refusal :=
  .next (s.act (awake syncGenOp))

/-- LINK_CHECK_START (R58): Setting LINKCHK starts 64 timing exchanges on every peer port that is up. -/
def execLinkCheckStart (c : Ctx) (v : Nat) (s : State) : Host.Outcome State Fault Refusal :=
  .next (s.act (regRow c .tbCtrl 0 0 (orBit v 1)))

/-- TIMING_BLOCK_RX (R443): A VC1 timing block (REQ, RSP, FOLLOW_D or FOLLOW_S) is received; a REQ is answered and completed exchanges are recorded. -/
def execTimingBlockRx (p : Fin 8) (b : Vc1Block) (stamp : Nat) (s : State) : Host.Outcome State Fault Refusal :=
  .next (s.act (awake (vc1Row p 3 b stamp)))

/-- TIMING_EXCHANGE_TIMEOUT (R443): An exchange that is not complete within 10 µs of its REQ is dropped. -/
def execTimingExchangeTimeout (p : Fin 8) (s : State) : Host.Outcome State Fault Refusal :=
  .next (s.act (awake (exchangeTimeoutOp p)))

/-- LINK_CHECK_DONE (R60): The link check ends: medians are stored, REG_STATE becomes CHECKED or MISMATCH, and LINK_CHECKED is produced. -/
def execLinkCheckDone (s : State) : Host.Outcome State Fault Refusal :=
  .next (s.act (awake linkCheckDoneOp))

/-- ALARM_WRITE (R65): A write to an alarm's ENABLE, index or period takes effect from the next fabric cycle and sets its arming cycle. -/
def execAlarmWrite (c : Ctx) (n : Fin 16) (w : Fin 4) (v : Nat) (s : State) : Host.Outcome State Fault Refusal :=
  .next (s.act (regRow c (alarmReg w) n 0 v))

/-- ALARM_FIRE (R63): An enabled alarm fires at its index, or late in its arming cycle, and produces its event; a periodic alarm advances by its period. -/
def execAlarmFire (n : Fin 16) (s : State) : Host.Outcome State Fault Refusal :=
  .next (s.act (awake (alarmFireOp n)))

end Sys2Proof.Machine
end

