-- ==== Sys2Proof/Machine/TriggerRows.lean ====
section
/-! DEFINITION. The meanings of the rows of the trigger block (spec/08_trigger_acquisition.md). -/

namespace Sys2Proof.Machine

/-- TRIGGER_EDGE (R249): An edge at a trigger input is stamped and presented, held or counted in OVER. -/
def execTriggerEdge (t : Fin 16) (rising : Bool) (stamp : Nat) (s : State) : Host.Outcome State Fault Refusal :=
  .next (s.act (awake (triggerEdgeOp t rising stamp)))

/-- HELD_EDGE_PRESENT (R249): A held edge event is presented in the fabric cycle that holds its stamp. -/
def execHeldEdgePresent (t : Fin 16) (s : State) : Host.Outcome State Fault Refusal :=
  .next (s.act (awake (heldEdgeOp t)))

/-- DT_WRITE (R251): A write to a decision threshold unit's registers clears its history. -/
def execDtWrite (c : Ctx) (u : Fin 16) (v : Nat) (s : State) : Host.Outcome State Fault Refusal :=
  .next (s.act (regRow c .dt u 0 v))

/-- TG_ARM (R256): Setting ARM arms or rearms a trigger engine: counters clear, timers stop, state S0. -/
def execTgArm (c : Ctx) (n : Fin 16) (v : Nat) (s : State) : Host.Outcome State Fault Refusal :=
  .next (s.act (regRow c .tgCtrl n 0 (orBit v 0)))

/-- TG_DISARM (R256): Clearing ARM takes a trigger engine to IDLE and drops its actions still to come. -/
def execTgDisarm (c : Ctx) (n : Fin 16) (v : Nat) (s : State) : Host.Outcome State Fault Refusal :=
  .next (s.act (regRow c .tgCtrl n 0 (offBit v 0)))

/-- TRIGGER_TRANSITION (R253): A trigger engine takes its main or escape transition on eligible conditions, with actions produced in the next cycle. -/
def execTriggerTransition (n : Fin 16) (s : State) : Host.Outcome State Fault Refusal :=
  .next (s.act (awake (triggerTransitionOp n)))

/-- TRIGGER_TIMER_EXPIRE (R254): A started timer of an engine reaches its expiry and its level condition becomes true. -/
def execTriggerTimerExpire (n : Fin 16) (m : Fin 4) (s : State) : Host.Outcome State Fault Refusal :=
  .next (s.act (awake (timerExpireOp n m)))

/-- HOLDOFF_END (R259): An engine's hold-off ends by time or by event count. -/
def execHoldoffEnd (n : Fin 16) (s : State) : Host.Outcome State Fault Refusal :=
  .next (s.act (awake (holdoffEndOp n)))

/-- TG_CAPTURE_START (R260): A capture started by a FIRE begins at f + 768 + CAP_DLY, or is not started. -/
def execTgCaptureStart (n : Fin 16) (s : State) : Host.Outcome State Fault Refusal :=
  .next (s.act (awake (tgCaptureStartOp n)))

/-- EVENT_FRAME_RX (R267): An event frame is received, forwarded and handed to the matching remote event producers. -/
def execEventFrameRx (p : Fin 8) (b : Vc1Block) (s : State) : Host.Outcome State Fault Refusal :=
  .next (s.act (awake (vc1Row p 2 b 0)))

/-- REMOTE_EVENT_DELIVER (R268): A held remote event is produced at its due index D, or late on arrival. -/
def execRemoteEventDeliver (j : Fin 16) (s : State) : Host.Outcome State Fault Refusal :=
  .next (s.act (awake (remoteDeliverOp j)))

end Sys2Proof.Machine
end

