-- ==== Sys2Proof/Machine/WaveRows.lean ====
section
/-! DEFINITION. The meanings of the rows of waveform synthesis and the output ports (spec/04_waveform_synthesis.md, spec/05_output_ports.md). -/

namespace Sys2Proof.Machine

/-- SAFE_INTERVAL_END (R172): A safe interval ends; the new setting comes into force, MUTE is entered or left, and the bias DAC starts toward its code. -/
def execSafeIntervalEnd (p : Fin 512) (s : State) : Host.Outcome State Fault Refusal :=
  .next (s.act (awake (safeEnd p)))

/-- CARRIER_FREQ_COMMIT (R126): A write to FREQ_HI commits a carrier's FREQ and PHMODE. -/
def execCarrierFreqCommit (c : Ctx) (f : Fin 64) (n : Fin 32) (v : Nat) (s : State) : Host.Outcome State Fault Refusal :=
  .next (s.act (regRow c .fmCarFreqHi f n v))

/-- CARRIER_OFS_COMMIT (R126): A write to OFS_HI commits a carrier's phase offset. -/
def execCarrierOfsCommit (c : Ctx) (f : Fin 64) (n : Fin 32) (v : Nat) (s : State) : Host.Outcome State Fault Refusal :=
  .next (s.act (regRow c .fmCarOfsHi f n v))

/-- SEG_LOAD (R138): Command that writes a segment header and data to the galley and makes it RESIDENT. -/
def execSegLoad (c : Ctx) (f : Nat) (seg : Nat) (home : Nat) (h : SegHead) (data : List Byte) (s : State) : Host.Outcome State Fault Refusal :=
  .next (s.act (direct (.segLoad c f seg home h data) c 0x0401 (segLoadOp c.sess f seg home h data)))

/-- LIB_STORE (R138): Command that writes a library image to DRAM. -/
def execLibStore (c : Ctx) (line : Nat) (h : SegHead) (data : List Byte) (s : State) : Host.Outcome State Fault Refusal :=
  .next (s.act (direct (.libStore c line h data) c 0x0402 (libStoreOp line h data)))

/-- SEG_BIND (R139): Command that reads a library header and makes a segment KNOWN with its bound SQ. -/
def execSegBind (c : Ctx) (f : Nat) (seg : Nat) (home : Nat) (line : Nat) (s : State) : Host.Outcome State Fault Refusal :=
  .next (s.act (direct (.segBind c f seg home line) c 0x0403 (segBindOp c f seg home line)))

/-- SEG_FETCH (R139): Command that queues the fetch of a KNOWN segment. -/
def execSegFetch (c : Ctx) (f : Nat) (seg : Nat) (s : State) : Host.Outcome State Fault Refusal :=
  .next (s.act (direct (.segFetch c f seg) c 0x0404 (segFetchOp c.sess f seg)))

/-- SEG_FREE (R138): Command that sets a segment EMPTY. -/
def execSegFree (c : Ctx) (f : Nat) (seg : Nat) (s : State) : Host.Outcome State Fault Refusal :=
  .next (s.act (direct (.segFree c f seg) c 0x0405 (segFreeOp c.sess f seg)))

/-- SEG_INFO (R138): Command that replies with a segment's directory entry. -/
def execSegInfo (c : Ctx) (f : Nat) (seg : Nat) (s : State) : Host.Outcome State Fault Refusal :=
  .next (s.act (direct (.segInfo c f seg) c 0x0406 (segInfoOp f seg)))

/-- FETCH_START (R143): The next queued fetch starts once the one before it ends and its home lines are not pinned. -/
def execFetchStart (f : Fin 64) (s : State) : Host.Outcome State Fault Refusal :=
  .next (s.act (awake (fetchStartOp f)))

/-- FETCH_DONE (R141): A fetch completes; SQ is computed, the segment becomes RESIDENT and energies are recomputed. -/
def execFetchDone (f : Fin 64) (s : State) : Host.Outcome State Fault Refusal :=
  .next (s.act (awake (fetchDoneOp f)))

/-- RING_BASE_WRITE (R134): A write of GAL_CTRL.RING_BASE re-splits the galley and zeroes lines whose class changed. -/
def execRingBaseWrite (c : Ctx) (f : Fin 64) (v : Nat) (s : State) : Host.Outcome State Fault Refusal :=
  .next (s.act (regRow c .galCtrl f 0 v))

/-- RING_CONFIG_WRITE (R146): A write of a ring's configuration; setting EN zeroes RD and WR. -/
def execRingConfigWrite (c : Ctx) (f : Fin 64) (n : Fin 16) (w : Fin 2) (v : Nat) (s : State) : Host.Outcome State Fault Refusal :=
  .next (s.act (regRow c (if w.val = 0 then .galRing else .galRingRate) f n v))

/-- REFILL_PACKET (R148): A VC2 refill packet is judged whole against the ring and accepted or discarded. -/
def execRefillPacket (p : RawPacket) (s : State) : Host.Outcome State Fault Refusal :=
  .next (s.act (awake (refillPacketOp p)))

/-- MARKER_CTRL_WRITE (R156): A write to FM_MK_CTRL changes SEL, INV and TRIM from the landing cycle. -/
def execMarkerCtrlWrite (c : Ctx) (f : Fin 64) (v : Nat) (s : State) : Host.Outcome State Fault Refusal :=
  .next (s.act (regRow c .fmMkCtrl f 0 v))

/-- OP_MODE_WRITE (R163): A write to OP_MODE stages a setting, or is refused with BUSY when it would raise P_FS while CSp runs. -/
def execOpModeWrite (c : Ctx) (p : Fin 512) (v : Nat) (s : State) : Host.Outcome State Fault Refusal :=
  .next (s.act (regRow c .opMode p 0 v))

/-- FORME_STROBE_WRITE (R170): Writing 1 to FM_STROBE.GO makes a strobe at the landing cycle. -/
def execFormeStrobeWrite (c : Ctx) (f : Fin 64) (v : Nat) (s : State) : Host.Outcome State Fault Refusal :=
  .next (s.act (regRow c .fmStrobe f 0 (orBit v 0)))

/-- OUTPUT_ENABLE (R175): Command that sets ENABLED for the formes of its mask. -/
def execOutputEnable (c : Ctx) (mask : Nat) (s : State) : Host.Outcome State Fault Refusal :=
  .next (s.act (direct (.outputEnable c mask) c 0x0503 (outputEnableOp c.sess mask)))

/-- MUTE_ALL (R176): Urgent command that clears ENABLED and LIVE and takes every port to MUTE through a safe interval. -/
def execMuteAll (c : Ctx) (s : State) : Host.Outcome State Fault Refusal :=
  .next (s.act (direct (.muteAll c) c 0x0F02 muteAllOp))

end Sys2Proof.Machine
end

