-- ==== Sys2Proof/Machine/Dispatch.lean ====
section
/-! DEFINITION. One arm per row of the table: its meaning, or rejected by name. -/

namespace Sys2Proof.Machine

/-- The effect of one command or happening on everything but the queue. -/
def exec (i : Instr) (s : State) : Host.Outcome State Fault Refusal :=
  match i with
  | .regRead c addr => Sys2Proof.Machine.execRegRead c addr s
  | .latchingRead c addr => Sys2Proof.Machine.execLatchingRead c addr s
  | .regWrite c addr v => Sys2Proof.Machine.execRegWrite c addr v s
  | .regReadMulti c first count => Sys2Proof.Machine.execRegReadMulti c first count s
  | .regWriteList c pairs => Sys2Proof.Machine.execRegWriteList c pairs s
  | .timedDispatch n => Sys2Proof.Machine.execTimedDispatch n s
  | .tbRateAdjWrite c v => Sys2Proof.Machine.execTbRateAdjWrite c v s
  | .tbOffsetStage c w v => Sys2Proof.Machine.execTbOffsetStage c w v s
  | .tbOffsetCommit c v => Sys2Proof.Machine.execTbOffsetCommit c v s
  | .tbSeal c v => Sys2Proof.Machine.execTbSeal c v s
  | .syncArm c v => Sys2Proof.Machine.execSyncArm c v s
  | .syncDisarm c v => Sys2Proof.Machine.execSyncDisarm c v s
  | .syncEdge stamp high => Sys2Proof.Machine.execSyncEdge stamp high s
  | .registrationApply => Sys2Proof.Machine.execRegistrationApply s
  | .syncGenPulse => Sys2Proof.Machine.execSyncGenPulse s
  | .linkCheckStart c v => Sys2Proof.Machine.execLinkCheckStart c v s
  | .timingBlockRx p b stamp => Sys2Proof.Machine.execTimingBlockRx p b stamp s
  | .timingExchangeTimeout p => Sys2Proof.Machine.execTimingExchangeTimeout p s
  | .linkCheckDone => Sys2Proof.Machine.execLinkCheckDone s
  | .alarmWrite c n w v => Sys2Proof.Machine.execAlarmWrite c n w v s
  | .alarmFire n => Sys2Proof.Machine.execAlarmFire n s
  | .nop k => Sys2Proof.Machine.execNop k s
  | .block k => Sys2Proof.Machine.execBlock k s
  | .blockStart k => Sys2Proof.Machine.execBlockStart k s
  | .blockRepresent k => Sys2Proof.Machine.execBlockRepresent k s
  | .endBlock k => Sys2Proof.Machine.execEndBlock k s
  | .yieldBlock k => Sys2Proof.Machine.execYieldBlock k s
  | .goto k => Sys2Proof.Machine.execGoto k s
  | .loop k => Sys2Proof.Machine.execLoop k s
  | .endl k => Sys2Proof.Machine.execEndl k s
  | .jcond k => Sys2Proof.Machine.execJcond k s
  | .armd k => Sys2Proof.Machine.execArmd k s
  | .wait k => Sys2Proof.Machine.execWait k s
  | .play k => Sys2Proof.Machine.execPlay k s
  | .cplay k => Sys2Proof.Machine.execCplay k s
  | .setf k => Sys2Proof.Machine.execSetf k s
  | .setp k => Sys2Proof.Machine.execSetp k s
  | .setport k => Sys2Proof.Machine.execSetport k s
  | .strobe k => Sys2Proof.Machine.execStrobe k s
  | .mark k => Sys2Proof.Machine.execMark k s
  | .emit k => Sys2Proof.Machine.execEmit k s
  | .win inp => Sys2Proof.Machine.execWin inp s
  | .capt inp => Sys2Proof.Machine.execCapt inp s
  | .captureEnd inp xs errs => Sys2Proof.Machine.execCaptureEnd inp xs errs s
  | .underrunAbort k => Sys2Proof.Machine.execUnderrunAbort k s
  | .jumpTakeEffect k => Sys2Proof.Machine.execJumpTakeEffect k s
  | .safeIntervalEnd p => Sys2Proof.Machine.execSafeIntervalEnd p s
  | .carrierFreqCommit c f n v => Sys2Proof.Machine.execCarrierFreqCommit c f n v s
  | .carrierOfsCommit c f n v => Sys2Proof.Machine.execCarrierOfsCommit c f n v s
  | .segLoad c f seg home h data => Sys2Proof.Machine.execSegLoad c f seg home h data s
  | .libStore c line h data => Sys2Proof.Machine.execLibStore c line h data s
  | .segBind c f seg home line => Sys2Proof.Machine.execSegBind c f seg home line s
  | .segFetch c f seg => Sys2Proof.Machine.execSegFetch c f seg s
  | .segFree c f seg => Sys2Proof.Machine.execSegFree c f seg s
  | .segInfo c f seg => Sys2Proof.Machine.execSegInfo c f seg s
  | .fetchStart f => Sys2Proof.Machine.execFetchStart f s
  | .fetchDone f => Sys2Proof.Machine.execFetchDone f s
  | .ringBaseWrite c f v => Sys2Proof.Machine.execRingBaseWrite c f v s
  | .ringConfigWrite c f n w v => Sys2Proof.Machine.execRingConfigWrite c f n w v s
  | .refillPacket p => Sys2Proof.Machine.execRefillPacket p s
  | .markerCtrlWrite c f v => Sys2Proof.Machine.execMarkerCtrlWrite c f v s
  | .opModeWrite c p v => Sys2Proof.Machine.execOpModeWrite c p v s
  | .formeStrobeWrite c f v => Sys2Proof.Machine.execFormeStrobeWrite c f v s
  | .outputEnable c mask => Sys2Proof.Machine.execOutputEnable c mask s
  | .muteAll c => Sys2Proof.Machine.execMuteAll c s
  | .ipCtrlWrite c inp v => Sys2Proof.Machine.execIpCtrlWrite c inp v s
  | .adcOvr inp xs => Sys2Proof.Machine.execAdcOvr inp xs s
  | .capCtrlWrite c inp v => Sys2Proof.Machine.execCapCtrlWrite c inp v s
  | .decimatedSample l xs => Sys2Proof.Machine.execDecimatedSample l xs s
  | .demodProgramStart l => Sys2Proof.Machine.execDemodProgramStart l s
  | .demodNop l => Sys2Proof.Machine.execDemodNop l s
  | .demodMac l => Sys2Proof.Machine.execDemodMac l s
  | .demodSkip l => Sys2Proof.Machine.execDemodSkip l s
  | .demodRep l => Sys2Proof.Machine.execDemodRep l s
  | .demodSetkp l => Sys2Proof.Machine.execDemodSetkp l s
  | .demodSetps l => Sys2Proof.Machine.execDemodSetps l s
  | .demodAdd l => Sys2Proof.Machine.execDemodAdd l s
  | .demodClr l => Sys2Proof.Machine.execDemodClr l s
  | .demodEnd l => Sys2Proof.Machine.execDemodEnd l s
  | .finishStep l => Sys2Proof.Machine.execFinishStep l s
  | .recordMove inp => Sys2Proof.Machine.execRecordMove inp s
  | .kernLoad c inp first taps => Sys2Proof.Machine.execKernLoad c inp first taps s
  | .dprogLoad c inp first words => Sys2Proof.Machine.execDprogLoad c inp first words s
  | .dprogRegWrite c inp a v => Sys2Proof.Machine.execDprogRegWrite c inp a v s
  | .kernRead c inp first count => Sys2Proof.Machine.execKernRead c inp first count s
  | .vc1BlockSend p => Sys2Proof.Machine.execVc1BlockSend p s
  | .decisionFrameRx p b => Sys2Proof.Machine.execDecisionFrameRx p b s
  | .revokeFrameRx p b => Sys2Proof.Machine.execRevokeFrameRx p b s
  | .vc1TagFrameRx p t => Sys2Proof.Machine.execVc1TagFrameRx p t s
  | .tagTimeout p => Sys2Proof.Machine.execTagTimeout p s
  | .triggerEdge t rising stamp => Sys2Proof.Machine.execTriggerEdge t rising stamp s
  | .heldEdgePresent t => Sys2Proof.Machine.execHeldEdgePresent t s
  | .dtWrite c u v => Sys2Proof.Machine.execDtWrite c u v s
  | .tgArm c n v => Sys2Proof.Machine.execTgArm c n v s
  | .tgDisarm c n v => Sys2Proof.Machine.execTgDisarm c n v s
  | .triggerTransition n => Sys2Proof.Machine.execTriggerTransition n s
  | .triggerTimerExpire n m => Sys2Proof.Machine.execTriggerTimerExpire n m s
  | .holdoffEnd n => Sys2Proof.Machine.execHoldoffEnd n s
  | .tgCaptureStart n => Sys2Proof.Machine.execTgCaptureStart n s
  | .eventFrameRx p b => Sys2Proof.Machine.execEventFrameRx p b s
  | .remoteEventDeliver j => Sys2Proof.Machine.execRemoteEventDeliver j s
  | .channelActivation n => Sys2Proof.Machine.execChannelActivation n s
  | .evInject c v => Sys2Proof.Machine.execEvInject c v s
  | .loopUnmute c w v => Sys2Proof.Machine.execLoopUnmute c w v s
  | .evcClear c n v => Sys2Proof.Machine.execEvcClear c n v s
  | .evcSnapshot c n v => Sys2Proof.Machine.execEvcSnapshot c n v s
  | .ledgerCommit c j v => Sys2Proof.Machine.execLedgerCommit c j v s
  | .ledgerEnable c j v => Sys2Proof.Machine.execLedgerEnable c j v s
  | .budSeal c v => Sys2Proof.Machine.execBudSeal c v s
  | .ledgerStale j => Sys2Proof.Machine.execLedgerStale j s
  | .benchRunSet c v => Sys2Proof.Machine.execBenchRunSet c v s
  | .benchRunClear c v => Sys2Proof.Machine.execBenchRunClear c v s
  | .benchBreak => Sys2Proof.Machine.execBenchBreak s
  | .benchDischarge => Sys2Proof.Machine.execBenchDischarge s
  | .benchLeadCheck opens => Sys2Proof.Machine.execBenchLeadCheck opens s
  | .benchMake => Sys2Proof.Machine.execBenchMake s
  | .excitationOn => Sys2Proof.Machine.execExcitationOn s
  | .warmUpEnd => Sys2Proof.Machine.execWarmUpEnd s
  | .conversionEnd code => Sys2Proof.Machine.execConversionEnd code s
  | .excMonitorCheck vsrc imon vsense => Sys2Proof.Machine.execExcMonitorCheck vsrc imon vsense s
  | .bnExcWrite c n v => Sys2Proof.Machine.execBnExcWrite c n v s
  | .bnConvWrite c n v => Sys2Proof.Machine.execBnConvWrite c n v s
  | .mainsEdge tick => Sys2Proof.Machine.execMainsEdge tick s
  | .mainsTimeout => Sys2Proof.Machine.execMainsTimeout s
  | .benchCalVisit => Sys2Proof.Machine.execBenchCalVisit s
  | .benchRingRead c count => Sys2Proof.Machine.execBenchRingRead c count s
  | .curveLoad c image => Sys2Proof.Machine.execCurveLoad c image s
  | .curveRead c n => Sys2Proof.Machine.execCurveRead c n s
  | .calStepStart d => Sys2Proof.Machine.execCalStepStart d s
  | .calStepDone d m => Sys2Proof.Machine.execCalStepDone d m s
  | .calDue n => Sys2Proof.Machine.execCalDue n s
  | .calCommitPeriod => Sys2Proof.Machine.execCalCommitPeriod s
  | .calRefvCommit c v => Sys2Proof.Machine.execCalRefvCommit c v s
  | .calSeal c v => Sys2Proof.Machine.execCalSeal c v s
  | .calSetRead c n => Sys2Proof.Machine.execCalSetRead c n s
  | .calTpoint c n t => Sys2Proof.Machine.execCalTpoint c n t s
  | .calRun c mask first last => Sys2Proof.Machine.execCalRun c mask first last s
  | .calCommit c mask => Sys2Proof.Machine.execCalCommit c mask s
  | .calXfer c n v u => Sys2Proof.Machine.execCalXfer c n v u s
  | .calXferDone r => Sys2Proof.Machine.execCalXferDone r s
  | .memRead c first count => Sys2Proof.Machine.execMemRead c first count s
  | .memWrite c addr data => Sys2Proof.Machine.execMemWrite c addr data s
  | .memSetclass c first count cls => Sys2Proof.Machine.execMemSetclass c first count cls s
  | .setclassDone => Sys2Proof.Machine.execSetclassDone s
  | .memThaw c action => Sys2Proof.Machine.execMemThaw c action s
  | .memDiag c line => Sys2Proof.Machine.execMemDiag c line s
  | .memRepairAdd c r => Sys2Proof.Machine.execMemRepairAdd c r s
  | .memScrubNow c first count => Sys2Proof.Machine.execMemScrubNow c first count s
  | .mergeTimeout n => Sys2Proof.Machine.execMergeTimeout n s
  | .dramReadReturn pc errs => Sys2Proof.Machine.execDramReadReturn pc errs s
  | .caParityError st ch => Sys2Proof.Machine.execCaParityError st ch s
  | .dramNoResponse pc => Sys2Proof.Machine.execDramNoResponse pc s
  | .refreshDue pc => Sys2Proof.Machine.execRefreshDue pc s
  | .stackTempReport st t => Sys2Proof.Machine.execStackTempReport st t s
  | .scrubRead => Sys2Proof.Machine.execScrubRead s
  | .sramScrub region inst word errs => Sys2Proof.Machine.execSramScrub region inst word errs s
  | .lnPortEnable c p v => Sys2Proof.Machine.execLnPortEnable c p v s
  | .lnPortDisable c p v => Sys2Proof.Machine.execLnPortDisable c p v s
  | .signalDetect n => Sys2Proof.Machine.execSignalDetect n s
  | .signalLoss n => Sys2Proof.Machine.execSignalLoss n s
  | .cdrLock n => Sys2Proof.Machine.execCdrLock n s
  | .cdrUnlock n => Sys2Proof.Machine.execCdrUnlock n s
  | .eqSearchStep n margin => Sys2Proof.Machine.execEqSearchStep n margin s
  | .laneBlockRx n hdr body => Sys2Proof.Machine.execLaneBlockRx n hdr body s
  | .alignBlockRx n b => Sys2Proof.Machine.execAlignBlockRx n b s
  | .alignTime p => Sys2Proof.Machine.execAlignTime p s
  | .lnCtlWrite c n v => Sys2Proof.Machine.execLnCtlWrite c n v s
  | .lkRoleWrite c p v => Sys2Proof.Machine.execLkRoleWrite c p v s
  | .devidWrite c v => Sys2Proof.Machine.execDevidWrite c v s
  | .linitSend p => Sys2Proof.Machine.execLinitSend p s
  | .linitRx p b => Sys2Proof.Machine.execLinitRx p b s
  | .helloRx p h => Sys2Proof.Machine.execHelloRx p h s
  | .finishRx p f sigOk => Sys2Proof.Machine.execFinishRx p f sigOk s
  | .attestTimeout p => Sys2Proof.Machine.execAttestTimeout p s
  | .frameSend p => Sys2Proof.Machine.execFrameSend p s
  | .frameRx p f => Sys2Proof.Machine.execFrameRx p f s
  | .linkBlockSend p => Sys2Proof.Machine.execLinkBlockSend p s
  | .linkBlockRx p b => Sys2Proof.Machine.execLinkBlockRx p b s
  | .retryRx p n => Sys2Proof.Machine.execRetryRx p n s
  | .retryResend p => Sys2Proof.Machine.execRetryResend p s
  | .giveup p => Sys2Proof.Machine.execGiveup p s
  | .retry1Rx p v => Sys2Proof.Machine.execRetry1Rx p v s
  | .spareRx p lane => Sys2Proof.Machine.execSpareRx p lane s
  | .spareResend p => Sys2Proof.Machine.execSpareResend p s
  | .resetBlockRx p => Sys2Proof.Machine.execResetBlockRx p s
  | .linkTimeout p => Sys2Proof.Machine.execLinkTimeout p s
  | .linkRestart c p v => Sys2Proof.Machine.execLinkRestart c p v s
  | .linkStats c p => Sys2Proof.Machine.execLinkStats c p s
  | .commandPacket p => Sys2Proof.Machine.execCommandPacket p s
  | .commandAccept => Sys2Proof.Machine.execCommandAccept s
  | .commandTimeout => Sys2Proof.Machine.execCommandTimeout s
  | .urgentPreempt => Sys2Proof.Machine.execUrgentPreempt s
  | .routineResume => Sys2Proof.Machine.execRoutineResume s
  | .identify c => Sys2Proof.Machine.execIdentify c s
  | .echo c data => Sys2Proof.Machine.execEcho c data s
  | .summary c => Sys2Proof.Machine.execSummary c s
  | .progLoad c kind n first ins => Sys2Proof.Machine.execProgLoad c kind n first ins s
  | .progRead c kind n first count => Sys2Proof.Machine.execProgRead c kind n first count s
  | .runStart c x es => Sys2Proof.Machine.execRunStart c x es s
  | .runJump c k tgt => Sys2Proof.Machine.execRunJump c k tgt s
  | .runStatus c => Sys2Proof.Machine.execRunStatus c s
  | .budBlockinfo c k addr => Sys2Proof.Machine.execBudBlockinfo c k addr s
  | .budAttnWrite c p row => Sys2Proof.Machine.execBudAttnWrite c p row s
  | .stop c cs rs tg => Sys2Proof.Machine.execStop c cs rs tg s
  | .abort c => Sys2Proof.Machine.execAbort c s
  | .spiPut p => Sys2Proof.Machine.execSpiPut p s
  | .spiGet => Sys2Proof.Machine.execSpiGet s
  | .spiStat => Sys2Proof.Machine.execSpiStat s
  | .mcLoadBegin c len => Sys2Proof.Machine.execMcLoadBegin c len s
  | .mcLoadData c ofs data => Sys2Proof.Machine.execMcLoadData c ofs data s
  | .mcLoadCommit c sigOk => Sys2Proof.Machine.execMcLoadCommit c sigOk s
  | .mcInfo c => Sys2Proof.Machine.execMcInfo c s
  | .sessionOpen c r => Sys2Proof.Machine.execSessionOpen c r s
  | .sessionClose c n => Sys2Proof.Machine.execSessionClose c n s
  | .ownerEnroll c key sigOk => Sys2Proof.Machine.execOwnerEnroll c key sigOk s
  | .resSeal c kind attr first count => Sys2Proof.Machine.execResSeal c kind attr first count s
  | .resRelease c kind attr first count => Sys2Proof.Machine.execResRelease c kind attr first count s
  | .certRead c n => Sys2Proof.Machine.execCertRead c n s
  | .colophonRead c count peek => Sys2Proof.Machine.execColophonRead c count peek s
  | .attest c nonce => Sys2Proof.Machine.execAttest c nonce s
  | .colophonSigned => Sys2Proof.Machine.execColophonSigned s
  | .colophonDeferredIssue l => Sys2Proof.Machine.execColophonDeferredIssue l s
  | .resetAssert ns => Sys2Proof.Machine.execResetAssert ns s
  | .resetRelease => Sys2Proof.Machine.execResetRelease s
  | .startupFuses ok => Sys2Proof.Machine.execStartupFuses ok s
  | .startupClocks ok laneOk => Sys2Proof.Machine.execStartupClocks ok laneOk s
  | .clockLockTimeout => Sys2Proof.Machine.execClockLockTimeout s
  | .startupSensors reads => Sys2Proof.Machine.execStartupSensors reads s
  | .startupMemory ok checkers => Sys2Proof.Machine.execStartupMemory ok checkers s
  | .startupSecurity r => Sys2Proof.Machine.execStartupSecurity r s
  | .proof ok => Sys2Proof.Machine.execProof ok s
  | .startupCalibration pass => Sys2Proof.Machine.execStartupCalibration pass s
  | .startupMicrocode sigOk romOk => Sys2Proof.Machine.execStartupMicrocode sigOk romOk s
  | .release us => Sys2Proof.Machine.execRelease us s
  | .sensorRead ts => Sys2Proof.Machine.execSensorRead ts s
  | .syntheticUndecidedWord p => Sys2Proof.Machine.execSyntheticUndecidedWord p s
  | .dramCommandSlot => Sys2Proof.Machine.execDramCommandSlot s
  | .committedStep => Sys2Proof.Machine.execCommittedStep s

end Sys2Proof.Machine
end

