-- ==== Sys2Proof/Safety.lean ====
section
/-! DEFINITION. What claims call a state in order: its memories are in their one form, its queue holds well-formed commands, and the
device has neither halted nor frozen. -/

namespace Sys2Proof

/-- The rows that are command packets: the others are happenings at the device's pins, links and engines. -/
def Instr.isCommand : Instr → Bool
  | .regRead .. | .latchingRead .. | .regWrite .. | .regReadMulti .. | .regWriteList .. | .tbRateAdjWrite ..
  | .tbOffsetStage .. | .tbOffsetCommit .. | .tbSeal .. | .syncArm .. | .syncDisarm .. | .linkCheckStart ..
  | .alarmWrite .. | .carrierFreqCommit .. | .carrierOfsCommit .. | .segLoad .. | .libStore .. | .segBind ..
  | .segFetch .. | .segFree .. | .segInfo .. | .ringBaseWrite .. | .ringConfigWrite .. | .markerCtrlWrite ..
  | .opModeWrite .. | .formeStrobeWrite .. | .outputEnable .. | .muteAll .. | .ipCtrlWrite .. | .capCtrlWrite ..
  | .kernLoad .. | .dprogLoad .. | .dprogRegWrite .. | .kernRead .. | .dtWrite .. | .tgArm .. | .tgDisarm ..
  | .evInject .. | .loopUnmute .. | .evcClear .. | .evcSnapshot .. | .ledgerCommit .. | .ledgerEnable .. | .budSeal ..
  | .benchRunSet .. | .benchRunClear .. | .bnExcWrite .. | .bnConvWrite .. | .benchRingRead .. | .curveLoad ..
  | .curveRead .. | .calRefvCommit .. | .calSeal .. | .calSetRead .. | .calTpoint .. | .calRun .. | .calCommit ..
  | .calXfer .. | .memRead .. | .memWrite .. | .memSetclass .. | .memThaw .. | .memDiag .. | .memRepairAdd ..
  | .memScrubNow .. | .lnPortEnable .. | .lnPortDisable .. | .lnCtlWrite .. | .lkRoleWrite .. | .devidWrite ..
  | .linkRestart .. | .linkStats .. | .identify .. | .echo .. | .summary .. | .progLoad .. | .progRead ..
  | .runStart .. | .runJump .. | .runStatus .. | .budBlockinfo .. | .budAttnWrite .. | .stop .. | .abort ..
  | .mcLoadBegin .. | .mcLoadData .. | .mcLoadCommit .. | .mcInfo .. | .sessionOpen .. | .sessionClose ..
  | .ownerEnroll .. | .resSeal .. | .resRelease .. | .certRead .. | .colophonRead .. | .attest .. => true
  | _ => false

/-- The rows of reset and start-up, and the status byte of the MGMT SPI, which always answers (R472). -/
def Instr.ofStart : Instr → Bool
  | .resetAssert _ | .resetRelease | .startupFuses _ | .startupClocks .. | .clockLockTimeout | .startupSensors _
  | .startupMemory .. | .startupSecurity _ | .proof _ | .startupCalibration _ | .startupMicrocode .. | .release _ | .spiStat => true
  | _ => false

end Sys2Proof

namespace Sys2Proof.Machine

/-- DRAM and the galleys are in canonical form. -/
def Device.memWf (d : Device) : Bool := Memory.wf d.dram && Memory.wf d.galley

/-- Every command that waits is well formed. -/
def State.queueWf (s : State) : Bool := s.pending.all Instr.wf

/-- The device runs as it should: released, the engine not halted (R392), DRAM not frozen (R388). -/
def Device.healthy (d : Device) : Bool := d.live && !(d.flag F.memStatusFrozen)

/-! ### What statements say of a command -/

/-- The row answers a next state with the queue as it was, and P holds of the device in it. -/
def Completes (i : Instr) (s : State) (P : Device → Prop) : Prop := ∃ d, exec i s = .next { s with dev := d } ∧ P d

/-- The engine takes a command at once: released and not halted, and the command not TIMED (R452, R457). -/
abbrev Takes (s : State) (c : Ctx) : Prop := s.dev.live = true ∧ c.timed = none

/-- The device runs: start-up is over (R519). -/
abbrev Runs (s : State) : Prop := s.dev.phase = .running

/-- The packets queued since d are the accept reply where ACK asks for it and, last, the final reply of a command (R453): for its
transport and session, with its sequence number, the opcode, status, STEPS, DETAIL, the data and their length. -/
def Replies (d e : Device) (c : Ctx) (op status steps detail : Nat) (data : List Byte) : Prop :=
  ∃ early r, e.eng.out = d.eng.out ++ early ++ [r] ∧ early.length = b2n c.ack ∧ r.via = c.via ∧ r.sess = c.sess ∧ r.seq = c.seq
    ∧ r.opcode = op ∧ r.status = status ∧ r.steps = steps ∧ r.detail = detail ∧ r.data = data ∧ r.length = data.length

/-- Device e is x but for the registers at the addresses of l, the events presented, and the marks that collisions within one
cycle are judged by (R12, R13, R24): every register at another address reads as in x, and the events evs, in this order, are all
that is presented. Where evs is empty the event counters stand as in x. -/
def Frame (x e : Device) (l : List Nat) (evs : List Ev := []) : Prop :=
  e = { x with
    regs := e.regs, hwNow := e.hwNow, addNow := e.addNow, former := e.former
    ev := { x.ev with now := x.ev.now ++ evs, evc := e.ev.evc } } ∧
  (evs = [] → e.ev.evc = x.ev.evc) ∧ ∀ r i j k, r.addr i j k ∉ l → e.reg r i j k = x.reg r i j k

/-- Device d once sequencer k has issued an instruction in this cycle and goes on at next (R74, R75). -/
def Issued (d : Device) (k next : Nat) : Device := d.updSeq k fun q => { q with lastIssue := some d.cycle, npc := next }

/-- Device d once sequencer k has issued an instruction that stands at its next address and goes on behind it, with T moved by n
and a boundary there where adv is set (R74, R98). -/
def IssuedAdv (d : Device) (k n : Nat) (adv : Bool) : Device := d.updSeq k fun q => { q with
  lastIssue := some d.cycle, npc := q.npc + 1, t := if adv then q.t + n else q.t
  bounds := if adv then (q.bounds.filter fun b => decide (d.ssi < b)) ++ [q.t + n] else q.bounds }

/-- Device d with the event that it presents where an action of sequencer k at x is not on time (R77). -/
def Device.lateAt (d : Device) (k x : Nat) : Device := if x < d.reach then { d with ev := (d.present (seqEvent k 7) x).ev } else d

/-- The registers that an action of sequencer k at x changes as it issues: PC, and STATUS where it is not on time (R77). -/
def Device.lateRegs (d : Device) (k x : Nat) : List Nat :=
  if x < d.reach then [RegName.addr .csPc k, RegName.addr .csStatus k] else [RegName.addr .csPc k]

/-- Every sequencer but k stands as before. -/
def OtherSeqs (d e : Device) (k : Nat) : Prop := ∀ q, q ≠ k → sfind e.seqs q = sfind d.seqs q

/-- Lane l executes the instruction at its program's pc in a step of this cycle (R198): window w with settings t is its current one,
its program runs, its finish step lies ahead, and no SRAM word is in error. -/
def Engaged (d : Device) (l : Nat) (w : Win) (t : LaneSet) : Prop :=
  (d.lane l).current = some w ∧ w.set = some t ∧ (d.lane l).run = true ∧ d.ssi / 8 ≤ (d.lane l).step ∧
    (d.lane l).step < d.ssi / 8 + 4 ∧ (d.lane l).buf.length ≤ 16 ∧ (d.lane l).step < w.finish ∧ d.sramErrs = [] ∧
    ∀ v ∈ (d.lane l).wins, v.w = w.w → v = w

/-- The register that shows the owner of instance i of a kind (R496). -/
def ownerReg (kind i : Nat) : Nat :=
  if kind = 0 then RegName.addr .evEcOwn i else if kind = 1 then RegName.addr .secOwn 0 i
  else if kind = 2 then RegName.addr .secOwn 0 (512 + i) else RegName.addr .budOwn i

/-- The registers that show fuses and the plate store, and what else outlives a reset of them (R516, R517). -/
def keptRegs : List Nat :=
  [RegName.addr .secOpenctr, RegName.addr .mcPending, RegName.addr .mcMinsec, RegName.addr .memRepairFree]
    ++ (List.range 12).map fun w => RegName.addr .secOwnerdig 0 w

/-- The registers that start-up forms before release (R519, R521, R526 to R529). -/
def formedRegs : List Nat :=
  ([.secStatus, .mcVersion, .mcSecver, .mcStatus, .memSpares, .thTj, .thTmin, .thBroken0, .thBroken1, .thStart] : List RegName).map
      (fun r => r.addr)
    ++ (List.range 8).flatMap (fun n => [RegName.addr .thDiet 0 n, RegName.addr .thCvofs 0 n, RegName.addr .calTpoint 0 n])
    ++ (List.range 48).map fun n => RegName.addr .thTs 0 n

/-- The registers that show coefficients in force and their extrapolation (R363, R364). -/
def coefRegs : List Nat :=
  ((List.range 19).map fun w => RegName.addr .calXmask 0 w) ++ ((List.range 64).map fun i => RegName.addr .ipSkew i)
    ++ (List.range 512).flatMap fun p => [RegName.addr .opCofs p, RegName.addr .opCgain p, RegName.addr .opCimg p, RegName.addr .opSkew p]

/-- The registers that a notice may change (R470, R471). -/
def noticeRegs : List Nat := RegName.addr .ceAlert :: (List.range 8).map fun n => RegName.addr .ceNotlost n

/-- The registers that the exit of port p's link from UP or ATTEST may change (R242, R445). -/
def exitRegs (d : Device) (p : Nat) : List Nat :=
  [RegName.addr .lkPstat p, RegName.addr .lkLostfr p, RegName.addr .lkHaltcnt p, RegName.addr .dfTxdrop, RegName.addr .dfStatus]
    ++ (d.slotsOf p).map fun c => RegName.addr .dfWord 0 (1024 + c)

/-- No sequencer jumps, no bench pass starts, no trigger engine arms or counts and nothing is published on channel n (R278). -/
def Device.unheard (s : Device) (n : Nat) : Prop :=
  (∀ x ∈ s.seqs, s.fldF F.csCtrlJevEn x.1 = 0 ∨ s.fldF F.csCtrlJevSel x.1 ≠ n) ∧
    (s.fldF F.bnCtrlStartEn = 0 ∨ s.fldF F.bnCtrlStartEc ≠ n) ∧
    ∀ i : Fin 16, (s.fldF F.tgCtrlArmEn i = 0 ∨ s.fldF F.tgCtrlArmEc i ≠ n) ∧ (s.tgArmed i = false ∨ s.fldF F.tgHoldecEc i ≠ n) ∧
      (s.fldF F.tgPubEn i = 0 ∨ s.fldF F.tgPubSrc i ≠ n)

/-- Device d with what the exit of a link changes besides taken from e: links, port streams, held words, what conditions latch, and
packets with their counts. -/
def Device.exited (d e : Device) : Device := { d with
  links := e.links, sports := e.sports, words := e.words, placed := e.placed, seqs := e.seqs, bulkSeq := e.bulkSeq, sess := e.sess
  eng := { d.eng with out := e.eng.out } }

/-- Every sequencer stands as before but for what its conditions have latched (R106). -/
def OnlyLatched (d e : Device) : Prop := ∀ k, e.seq k = { d.seq k with cond := (e.seq k).cond, old := (e.seq k).old }

/-- From d to e port p's link left UP or ATTEST for state dest with a cause (R434, R445): what it held is lost and its VC1 queue
discarded (R234), each slot accepted on it holds the synthetic word of the cycle alone (R242), packets to other transports stand, and
so does every other port and position. -/
def LinkExited (d e : Device) (p dest cause : Nat) : Prop :=
  e.fld F.lkPstatLstate p = dest ∧ e.fld F.lkPstatCause p = cause ∧
    (e.link p).vq = [] ∧ (e.link p).tq = [] ∧ (e.link p).out = [] ∧ (e.link p).after = [] ∧ (e.link p).replay = [] ∧
    (e.link p).resend = [] ∧ (e.link p).part = [] ∧ (e.link p).kept = [] ∧ (e.link p).owed = [] ∧ (e.link p).packet = none ∧
    (∀ q, q ≠ p → sfind e.links q = sfind d.links q) ∧ (∀ q, q ≠ p → sfind e.sports q = sfind d.sports q) ∧
    e.placed = d.placed ++ (d.slotsOf p).map (fun c => (1024 + c, 3)) ∧
    (∀ c ∈ d.slotsOf p, sget [] e.words (1024 + c) = [d.synthetic] ∧ e.reg .dfWord 0 (1024 + c) = 7) ∧
    (∀ q, (∀ c ∈ d.slotsOf p, q ≠ 1024 + c) → sfind e.words q = sfind d.words q) ∧ OnlyLatched d e ∧
    ((∀ r ∈ d.eng.out, r.via ≠ p) → e.eng.out = d.eng.out ∧ e.bulkSeq = d.bulkSeq ∧ e.sess = d.sess)

/-- From d to e the sessions on transport p have moved to their next epoch with every count 0 (R489), and no other session changes. -/
def NextEpochs (d e : Device) (p : Nat) : Prop := ∀ n, e.session n =
  if n < 8 ∧ (d.session n).isOpen = true ∧ (d.session n).via = p then
    { d.session n with epoch := (d.session n).epoch + 1, rx := [0, 0, 0], tx := [0, 0, 0] }
  else d.session n

/-- Device x as a link's entry to UP leaves it besides (R431, R489): the sessions as in e, and the port's BULKSEQ counts from 0. -/
def Device.upped (x e : Device) (p : Nat) : Device := { x with sess := e.sess, bulkSeq := sdel x.bulkSeq p }

/-- Device x with d's sessions: beside NotesOnly it has x's with the notices that wait in d's (R468). -/
def Device.noted (x d : Device) : Device := { x with sess := d.sess }

/-- From d to e no session changes but in the notices that wait for it. -/
def NotesOnly (d e : Device) : Prop := ∀ n, e.session n = { d.session n with notices := (e.session n).notices }

/-- Device x with the packets that d has queued, the last of them recorded in its session's replay window (R455). -/
def Device.replied (x d : Device) : Device := { x with
  eng := { x.eng with out := d.eng.out }
  sess := match d.eng.out.getLast? with | some r => (x.recordReply r).sess | none => x.sess }

/-- The command answers a next state with its final reply (R453) and CE_ACCEPTED one up (R452); beside the replies queued and
recorded, the device is x but for the registers at l and the events evs; and P holds. -/
def Ends (i : Instr) (c : Ctx) (op : Nat) (s : State) (status steps detail : Nat) (data : List Byte) (x : Device) (l : List Nat)
    (evs : List Ev) (P : Device → Prop) : Prop :=
  Completes i s fun d =>
    Replies s.dev d c op status steps detail data ∧ d.reg .ceAccepted = s.dev.reg .ceAccepted + 1 ∧
      Frame (x.replied d) d (RegName.addr .ceAccepted :: l) evs ∧ P d

/-- The command completes with status OK and STEPS 1. -/
def Answers (i : Instr) (c : Ctx) (op : Nat) (s : State) (data : List Byte) (x : Device) (l : List Nat) (evs : List Ev)
    (P : Device → Prop) : Prop := Ends i c op s stOk 1 0 data x l evs P

/-- The command completes with status OK and STEPS 1; x gives the device from the one that the command leaves, so that a record may
stand open in the frame and P says what it holds. -/
def Alters (i : Instr) (c : Ctx) (op : Nat) (s : State) (x : Device → Device) (l : List Nat) (P : Device → Prop) : Prop :=
  Completes i s fun d =>
    Replies s.dev d c op stOk 1 0 [] ∧ d.reg .ceAccepted = s.dev.reg .ceAccepted + 1 ∧
      Frame ((x d).replied d) d (RegName.addr .ceAccepted :: l) ∧ P d

/-- The command completes with status OK and STEPS 1, and reads without changing anything. -/
def OnlyAnswers (i : Instr) (c : Ctx) (op : Nat) (s : State) (data : List Byte) : Prop :=
  Answers i c op s data s.dev [] [] fun _ => True

/-- The command is refused with a status and a DETAIL, and changes nothing. -/
def Refuses (i : Instr) (c : Ctx) (op : Nat) (s : State) (status detail : Nat) : Prop :=
  Ends i c op s status 0 detail [] s.dev [] [] fun _ => True

end Sys2Proof.Machine
end

