-- ==== Sys2Proof/Certificates/Slice0/Obligations.lean ====
section
/-! DEFINITION. The statements for the provers, family by family. A clause that ends in Answers, Ends, OnlyAnswers or Completes says where
that row completes, with its effect and its frame. -/

open Sys2Proof Sys2Proof.Machine

/-- REG_READ of five plain registers answers their word; of CE_STALE, an RC register, the word and clears it; of an address
with no register it is refused with BAD_ARG; REG_READ_MULTI of the SYNC epoch answers both words. Nothing else changes but
CE_ACCEPTED and the replies. -/
def Obligations.RegisterReads : Prop :=
  (∀ (s : State) (c : Ctx) (r : RegName), r ∈ [.ceAlertEn, .tbSyncDelay, .tbSyncPer, .bnScanmask, .calCommitper] → Takes s c →
    sfind s.dev.latch r.addr = none →
    OnlyAnswers (.regRead c r.addr) c 0x0201 s (leBytes 4 (s.dev.reg r).toNat)) ∧
  (∀ (s : State) (c : Ctx), Takes s c → sfind s.dev.latch (RegName.addr .ceStale) = none →
    sfind s.dev.addNow (RegName.addr .ceStale) = none →
    Answers (.regRead c (RegName.addr .ceStale)) c 0x0201 s (leBytes 4 (s.dev.reg .ceStale).toNat) s.dev [RegName.addr .ceStale] []
      fun d => d.reg .ceStale = 0) ∧
  (∀ (s : State) (c : Ctx) (a : Nat), Takes s c → findReg a = none → Refuses (.regRead c a) c 0x0201 s stBadArg 0) ∧
  (∀ (s : State) (c : Ctx), Takes s c → sfind s.dev.latch (RegName.addr .tbEpochLo) = none →
    sfind s.dev.latch (RegName.addr .tbEpochHi) = none →
    OnlyAnswers (.regReadMulti c (RegName.addr .tbEpochLo) 2) c 0x0203 s
      (leBytes 4 (s.dev.reg .tbEpochLo).toNat ++ leBytes 4 (s.dev.reg .tbEpochHi).toNat))

/-- LATCHING_READ of TB_SC_LO answers the low word of SAMPLECOUNT and latches its high word, which the next read of TB_SC_HI
answers; nothing else changes. -/
def Obligations.LatchingReads : Prop :=
  (∀ (s : State) (c : Ctx), Takes s c → sfind s.dev.latch (RegName.addr .tbScLo) = none →
    Answers (.latchingRead c (RegName.addr .tbScLo)) c 0x0201 s (leBytes 4 (BitVec.ofNat 32 (32 * s.dev.cycle)).toNat)
      { s.dev with latch := sput s.dev.latch (RegName.addr .tbScHi) (BitVec.ofNat 32 (32 * s.dev.cycle / 2 ^ 32)) } [] []
      fun d => d.readValue .tbScHi 0 0 0 = BitVec.ofNat 32 (32 * s.dev.cycle / 2 ^ 32))

/-- REG_WRITE of CE_ALERT_EN stores the written word where the device wrote none of its bits in this cycle; of an address with
no register it is refused with BAD_ARG; REG_WRITE_LIST of the SYNC epoch stores both words in order and replies with two steps.
A port's register refuses a session that may not write the port. Nothing else changes. -/
def Obligations.RegisterWrites : Prop :=
  (∀ (s : State) (c : Ctx) (v : Nat), Takes s c → sget 0 s.dev.hwNow (RegName.addr .ceAlertEn) = 0 →
    Answers (.regWrite c (RegName.addr .ceAlertEn) v) c 0x0202 s [] s.dev [RegName.addr .ceAlertEn] []
      fun d => d.reg .ceAlertEn = BitVec.ofNat 32 v) ∧
  (∀ (s : State) (c : Ctx) (a v : Nat), Takes s c → findReg a = none → Refuses (.regWrite c a v) c 0x0202 s stBadArg 0) ∧
  (∀ (s : State) (c : Ctx) (v w : Nat), Takes s c → v < 2 ^ 32 → w < 2 ^ 32 →
    sget 0 s.dev.hwNow (RegName.addr .tbEpochLo) = 0 → sget 0 s.dev.hwNow (RegName.addr .tbEpochHi) = 0 →
    Ends (.regWriteList c [(RegName.addr .tbEpochLo, v), (RegName.addr .tbEpochHi, w)]) c 0x0204 s stOk 2 0 [] s.dev
      [RegName.addr .tbEpochLo, RegName.addr .tbEpochHi] []
      fun d => d.reg .tbEpochLo = BitVec.ofNat 32 v ∧ d.reg .tbEpochHi = BitVec.ofNat 32 w) ∧
  (∀ (s : State) (c : Ctx) (p : Fin 512) (v : Nat), Takes s c → s.dev.seqWritable p c.sess = false →
    Refuses (.opModeWrite c p v) c 0x0202 s stNotOwner 0)

/-- A TIMED REG_WRITE of CE_ALERT_EN within 2^40 samples is entered in the timed table and changes nothing else, and once its
entry is due TIMED_DISPATCH takes it out of the table, stores the word, and replies OK, or LATE with event 4 of the command
engine where its index has passed. -/
def Obligations.TimedWrites : Prop :=
  (∀ (s : State) (c : Ctx) (v x : Nat), s.dev.live = true → c.timed = some x → s.dev.eng.timed.length < 64 →
    x ≤ s.dev.ssi + 2 ^ 40 → s.dev.fld F.tbStatusRegState ≠ 1 →
    Completes (.regWrite c (RegName.addr .ceAlertEn) v) s fun d =>
      d.eng.timed = s.dev.eng.timed ++ [⟨s.dev.eng.nextId, .regWrite c (RegName.addr .ceAlertEn) v, c, 0x0202, x,
        decide (x < s.dev.ssi + 2048), s.dev.ssi⟩] ∧
      Frame { s.dev with eng := { s.dev.eng with out := d.eng.out, timed := d.eng.timed, nextId := s.dev.eng.nextId + 1 } } d
        [RegName.addr .ceAccepted]) ∧
  (∀ (s : State) (c : Ctx) (e : Timed) (v : Nat) (rest : List Timed), s.dev.live = true → s.dev.eng.timed = e :: rest →
    e.cmd = .regWrite c (RegName.addr .ceAlertEn) v → v < 2 ^ 32 → e.opcode = 0x0202 → s.dev.cycleOf e.execAt ≤ s.dev.cycle →
    (rest.filter fun y => y.id != e.id) = rest → sget 0 s.dev.hwNow (RegName.addr .ceAlertEn) = 0 →
    Completes (.timedDispatch e.id) s fun d =>
      d.reg .ceAlertEn = BitVec.ofNat 32 v ∧
      (∃ r, d.eng.out = s.dev.eng.out ++ [r] ∧ r.seq = e.ctx.seq ∧
        r.status = if e.late = true ∨ s.dev.cycleOf e.execAt < s.dev.cycle then stLate else stOk) ∧
      Frame (({ s.dev with eng := { s.dev.eng with timed := rest } } : Device).replied d) d [RegName.addr .ceAlertEn]
        (if e.late = true ∨ s.dev.cycleOf e.execAt < s.dev.cycle then [⟨ceEvent 4, s.dev.ssi, false, []⟩] else []))

/-- With TB_CTRL.SEAL clear, a write of RATE_ADJ waits for the next fabric cycle, writes of TB_OFFSET0 to 2 stage their word
and a write of TB_OFFSET3 stages it and commits all four, which at the next cycle makes OFFSET their value, sets STEP and
counts in TB_STEPCOUNT; with SEAL set the writes are refused with NOT_OWNER; TB_SEAL sets SEAL. Nothing else changes. -/
def Obligations.TimeOffsets : Prop :=
  (∀ (s : State) (c : Ctx) (v : Nat), Takes s c → s.dev.flag F.tbCtrlSeal = false →
    Answers (.tbRateAdjWrite c v) c 0x0202 s [] { s.dev with tb := { s.dev.tb with rateNext := some (v % 2 ^ 32) } } [] []
      fun _ => True) ∧
  (∀ (s : State) (c : Ctx) (w : Fin 3) (v : Nat), Takes s c → s.dev.flag F.tbCtrlSeal = false →
    Answers (.tbOffsetStage c w v) c 0x0202 s []
      { s.dev with tb := { s.dev.tb with staged := listSet s.dev.tb.staged w (v % 2 ^ 32) } } [] [] fun _ => True) ∧
  (∀ (s : State) (c : Ctx) (v : Nat), Takes s c → s.dev.flag F.tbCtrlSeal = false →
    Answers (.tbOffsetCommit c v) c 0x0202 s []
      { s.dev with tb := { s.dev.tb with
          staged := listSet s.dev.tb.staged 3 (v % 2 ^ 32), commit := some (listSet s.dev.tb.staged 3 (v % 2 ^ 32)) } } [] []
      fun _ => True) ∧
  (∀ (s : State) (c : Ctx) (w : Fin 3) (v : Nat), Takes s c → s.dev.flag F.tbCtrlSeal = true →
    Refuses (.tbRateAdjWrite c v) c 0x0202 s stNotOwner 0 ∧ Refuses (.tbOffsetStage c w v) c 0x0202 s stNotOwner 0 ∧
      Refuses (.tbOffsetCommit c v) c 0x0202 s stNotOwner 0) ∧
  (∀ (d : Device) (a b e f : Nat), d.tb.commit = some [a, b, e, f] →
    Frame { d with tb := { d.tb with commit := none, offset := a + 2 ^ 32 * b + 2 ^ 64 * e + 2 ^ 96 * f } } (offsetLand d)
      [RegName.addr .tbStatus, RegName.addr .tbStepcount] ∧
    (offsetLand d).flag F.tbStatusStep = true ∧ (offsetLand d).reg .tbStepcount = d.reg .tbStepcount + 1) ∧
  (∀ (s : State) (c : Ctx) (v : Nat), Takes s c → bitsOf v 5 4 ≠ 3 → bitOf v 0 = false → bitOf v 1 = false →
    s.dev.flag F.tbCtrlSyncArm = false →
    Answers (.tbSeal c v) c 0x0202 s [] s.dev [RegName.addr .tbCtrl] [] fun d =>
      d.flag F.tbCtrlSeal = true ∧ d.flag F.tbCtrlSyncArm = false ∧ d.fld F.tbCtrlSyncOutMode = bitsOf v 5 4)

/-- SYNC_ARM, where nothing runs, no alarm is enabled and no TIMED command waits, sets SYNC_ARM and REG_STATE ARMED and keeps
the former state; otherwise it is refused with BUSY; SYNC_DISARM clears SYNC_ARM and brings the former REG_STATE back. -/
def Obligations.SyncArming : Prop :=
  (∀ (s : State) (c : Ctx) (v : Nat), Takes s c → bitsOf v 5 4 ≠ 3 → bitOf v 1 = false → s.dev.flag F.tbCtrlSeal = false →
    s.dev.flag F.tbCtrlSyncArm = false → sget 0 s.dev.hwNow (RegName.addr .tbCtrl) = 0 → s.dev.armBusy = false →
    Answers (.syncArm c v) c 0x0202 s []
      { s.dev with tb := { s.dev.tb with armCycle := some s.dev.cycle, former := s.dev.fld F.tbStatusRegState } }
      [RegName.addr .tbCtrl, RegName.addr .tbStatus] [] fun d =>
        d.flag F.tbCtrlSyncArm = true ∧ d.fld F.tbStatusRegState = 1 ∧ d.fld F.tbCtrlSyncOutMode = bitsOf v 5 4) ∧
  (∀ (s : State) (c : Ctx) (v : Nat), Takes s c → bitsOf v 5 4 ≠ 3 → s.dev.flag F.tbCtrlSeal = false →
    s.dev.flag F.tbCtrlSyncArm = false → sget 0 s.dev.hwNow (RegName.addr .tbCtrl) = 0 → s.dev.armBusy = true →
    Refuses (.syncArm c v) c 0x0202 s stBusy 0) ∧
  (∀ (s : State) (c : Ctx) (v : Nat), Takes s c → bitsOf v 5 4 ≠ 3 → bitOf v 1 = false → s.dev.flag F.tbCtrlSeal = false →
    s.dev.flag F.tbCtrlSyncArm = true → sget 0 s.dev.hwNow (RegName.addr .tbCtrl) = 0 → s.dev.tb.former < 8 →
    Answers (.syncDisarm c v) c 0x0202 s [] { s.dev with tb := { s.dev.tb with armCycle := none } }
      [RegName.addr .tbCtrl, RegName.addr .tbStatus] [] fun d =>
        d.flag F.tbCtrlSyncArm = false ∧ d.fld F.tbStatusRegState = s.dev.tb.former)

/-- An edge whose high level is shorter than 256 samples sets SYNC_SHORT and is ignored. While SYNC_ARM is set, an edge of a
later cycle than the arming is captured: d lies in 0 to 8191, 8192 W - d is the epoch less the reference instant, both wait for
2,048 samples past the stamp, and SYNC_ARM clears. REGISTRATION_APPLY puts the waiting W and d in force, sets REG_STATE
REGISTERED and presents event 0 of the time base. -/
def Obligations.SyncCapture : Prop :=
  (∀ (s : State) (stamp high : Nat), Runs s → high < 65536 → (∀ l ∈ s.dev.tb.lastEdge, l + 4096000 ≤ stamp) →
    Completes (.syncEdge stamp high) s fun d =>
      Frame s.dev d [RegName.addr .tbStatus] ∧ d.flag F.tbStatusSyncShort = true) ∧
  (∀ (s : State) (stamp high a : Nat), Runs s → 65536 ≤ high → (∀ l ∈ s.dev.tb.lastEdge, l + 4096000 ≤ stamp) → s.dev.flag F.tbCtrlSyncArm = true →
    s.dev.tb.armCycle = some a → a < stamp / 256 / 32 →
    Completes (.syncEdge stamp high) s fun d =>
      Frame { s.dev with tb := { s.dev.tb with lastEdge := some stamp, armCycle := none, waiting := d.tb.waiting } } d
        [RegName.addr .tbCtrl] ∧ d.flag F.tbCtrlSyncArm = false ∧
      ∃ x, d.tb.waiting = some x ∧ x.2.2 = stamp / 256 + 2048 ∧ x.2.1 < 8192 ∧
        8192 * x.1 - (x.2.1 : Int) = 256 * (s.dev.reg64 .tbEpochLo .tbEpochHi : Int) - s.dev.tRef stamp) ∧
  (∀ (s : State) (w : Int) (d0 x : Nat), Runs s → s.dev.tb.waiting = some (w, d0, x) → x ≤ 32 * s.dev.cycle →
    Completes .registrationApply s fun d =>
      Frame { s.dev with tb := { s.dev.tb with W := w, d := d0, waiting := none }, bench := d.bench, offers := d.offers, cal := d.cal } d
        (RegName.addr .tbStatus :: s.dev.ports.map fun p => RegName.addr .opStatus p.1)
        [⟨evCode 0 1 0, d.ssi, false, []⟩] ∧ d.fld F.tbStatusRegState = 2)

/-- ALARM_WRITE sets the word written, and a write of the index or one that sets ENABLE has the alarm take the next cycle as
its arming cycle; periods of 1 to 31 are refused. An enabled alarm whose index lies in this word fires: its event carries the
index, FIRED is set, and a period of 0 clears ENABLE while any other advances the index. In GENERATE mode SYNC_OUT rises at
TB_SYNC_GEN. -/
def Obligations.AlarmsAndGenerator : Prop :=
  (∀ (s : State) (c : Ctx) (n : Fin 16) (v : Nat), Takes s c → v < 2 ^ 32 →
    Answers (.alarmWrite c n 0 v) c 0x0202 s [] { s.dev with tb := { s.dev.tb with alarmPend := s.dev.tb.alarmPend ++ [n.val] } }
      [RegName.addr .tbTaLo n] [] fun d => d.reg .tbTaLo n = BitVec.ofNat 32 v) ∧
  (∀ (s : State) (c : Ctx) (n : Fin 16) (v : Nat), Takes s c → v < 2 ^ 32 →
    Answers (.alarmWrite c n 1 v) c 0x0202 s [] { s.dev with tb := { s.dev.tb with alarmPend := s.dev.tb.alarmPend ++ [n.val] } }
      [RegName.addr .tbTaHi n] [] fun d => d.reg .tbTaHi n = BitVec.ofNat 32 v) ∧
  (∀ (s : State) (c : Ctx) (n : Fin 16) (v : Nat), Takes s c → v < 2 ^ 32 → (v = 0 ∨ 32 ≤ v) →
    Answers (.alarmWrite c n 2 v) c 0x0202 s [] s.dev [RegName.addr .tbTaPer n] [] fun d => d.reg .tbTaPer n = BitVec.ofNat 32 v) ∧
  (∀ (s : State) (c : Ctx) (n : Fin 16) (v : Nat), Takes s c → 1 ≤ v → v < 32 →
    Refuses (.alarmWrite c n 2 v) c 0x0202 s stBadArg 0) ∧
  (∀ (s : State) (c : Ctx) (n : Fin 16) (v : Nat), Takes s c → sget 0 s.dev.hwNow (RegName.addr .tbTaCtrl n) = 0 →
    Answers (.alarmWrite c n 3 v) c 0x0202 s []
      { s.dev with tb := { s.dev.tb with alarmPend := if bitOf v 0 = true then s.dev.tb.alarmPend ++ [n.val] else s.dev.tb.alarmPend } }
      [RegName.addr .tbTaCtrl n] [] fun d =>
        d.flag F.tbTaCtrlEnable n = bitOf v 0 ∧ d.flag F.tbTaCtrlFired n = (s.dev.flag F.tbTaCtrlFired n && !bitOf v 1)) ∧
  (∀ (s : State) (n : Fin 16) (x : Nat), Runs s → s.dev.former = [] → s.dev.flag F.tbTaCtrlEnable n = true →
    s.dev.reg64 .tbTaLo .tbTaHi n = x → s.dev.ssi ≤ x → x < s.dev.ssi + 32 → s.dev.reg .tbTaPer n = 0 →
    Completes (.alarmFire n) s fun d =>
      Frame s.dev d [RegName.addr .tbTaCtrl n] [⟨evCode 1 n 0, x, false, []⟩] ∧
      d.flag F.tbTaCtrlFired n = true ∧ d.flag F.tbTaCtrlEnable n = false) ∧
  (∀ (s : State) (n : Fin 16) (x per : Nat), Runs s → s.dev.former = [] → s.dev.flag F.tbTaCtrlEnable n = true →
    s.dev.reg64 .tbTaLo .tbTaHi n = x → s.dev.ssi ≤ x → x < s.dev.ssi + 32 → (s.dev.reg .tbTaPer n).toNat = per → per ≠ 0 →
    Completes (.alarmFire n) s fun d =>
      Frame s.dev d [RegName.addr .tbTaCtrl n, RegName.addr .tbTaLo n, RegName.addr .tbTaHi n] [⟨evCode 1 n 0, x, false, []⟩] ∧
      d.flag F.tbTaCtrlFired n = true ∧ d.flag F.tbTaCtrlEnable n = true ∧
      d.reg64 .tbTaLo .tbTaHi n = (x + per) % 2 ^ 64) ∧
  (∀ (s : State) (x : Nat), Runs s → s.dev.fld F.tbCtrlSyncOutMode = 2 → s.dev.reg64 .tbSyncGenLo .tbSyncGenHi = x → s.dev.ssi ≤ x →
    x < s.dev.ssi + 32 →
    Completes .syncGenPulse s fun d => Frame { s.dev with tb := { s.dev.tb with pulse := some x } } d [])

/-- A timing block is read as the port's keys decrypt it, and stands as acted on with the tag its ciphertext must have. LINKCHK
lists an empty record for every port that is up in the peer role. A REQ is answered with an RSP and its stamp kept; an RSP's
stamp is kept with the open exchange; an exchange open for 10 us is dropped and the next begins. After 100 us the check of one
port ends: fewer than 32 exchanges leave MEASURED and PASS clear, and REG_STATE becomes MISMATCH with the port in LINKBAD; with
32 or more it becomes CHECKED where the median offset lies within 512 of 0 (in 1/256 sample). -/
def Obligations.LinkChecks : Prop :=
  (∀ (s : State) (c : Ctx) (v : Nat), Takes s c → bitsOf v 5 4 ≠ 3 → s.dev.flag F.tbCtrlSeal = false →
    bitOf v 0 = s.dev.flag F.tbCtrlSyncArm →
    Answers (.linkCheckStart c v) c 0x0202 s []
      { s.dev with tb := { s.dev.tb with
          check := ((List.range 8).filter s.dev.peerUp).map fun p => (p, ({ } : LinkCheck)), checkAt := some s.dev.cycle } }
      [RegName.addr .tbCtrl] [] fun d => d.flag F.tbCtrlSyncArm = s.dev.flag F.tbCtrlSyncArm) ∧
  (∀ (s : State) (p : Fin 8) (b m : Vc1Block) (stamp : Nat), Runs s → s.dev.portUp p = true → s.dev.decrypted p b = m →
    Vc1Block.good m = true → Vc1Block.type m = 3 → bitsOf m.bits 59 58 = 0 →
    Completes (.timingBlockRx p b stamp) s fun d =>
      Frame (s.dev.updLink p fun x => { x with
        acted := x.acted ++ [(b.v, s.dev.ssi, 0, vc1Tag x.rxKeys b.v b.bits)], answers := sput x.answers (bitsOf m.bits 57 52) stamp
        tq := x.tq ++ [timingBlock 1 (bitsOf m.bits 57 52) 0] }) d []) ∧
  (∀ (s : State) (p : Fin 8) (b m : Vc1Block) (stamp : Nat) (k : LinkCheck), Runs s → s.dev.portUp p = true →
    s.dev.decrypted p b = m → Vc1Block.good m = true → Vc1Block.type m = 3 → bitsOf m.bits 59 58 = 1 →
    sfind s.dev.tb.check p = some k → k.tried = bitsOf m.bits 57 52 + 1 → k.t1.isSome = true → k.d = none →
    Completes (.timingBlockRx p b stamp) s fun d =>
      Frame { (s.dev.updLink p fun x => { x with
          acted := x.acted ++ [(b.v, s.dev.ssi, 0, vc1Tag x.rxKeys b.v b.bits)] }) with
        tb := { s.dev.tb with check := sput s.dev.tb.check p { k with t4 := some (stamp : Int) } } } d []) ∧
  (∀ (s : State) (p : Fin 8) (k : LinkCheck) (x : Nat), Runs s → sfind s.dev.tb.check p = some k → k.since = some x →
    x + 5000 ≤ s.dev.cycle → k.tried < 64 →
    Completes (.timingExchangeTimeout p) s fun d =>
      Frame { (s.dev.updLink p fun x => { x with tq := x.tq ++ [timingBlock 0 k.tried 0] }) with
        tb := { s.dev.tb with check := d.tb.check } } d [] ∧
      sfind d.tb.check p = some { done := k.done, tried := k.tried + 1, since := some s.dev.cycle } ∧
      ∀ q, q ≠ p.val → sfind d.tb.check q = sfind s.dev.tb.check q) ∧
  (∀ (s : State) (p : Fin 8) (k : LinkCheck) (x : Nat), Runs s → s.dev.tb.check = [(p.val, k)] → s.dev.tb.checkAt = some x →
    x + 50000 ≤ s.dev.cycle → k.done.length < 32 →
    Completes .linkCheckDone s fun d =>
      Frame { s.dev with tb := { s.dev.tb with check := [], checkAt := none } } d [RegName.addr .tbStatus, RegName.addr .tbLstat p]
        [⟨evCode 0 1 1, s.dev.ssi, false, []⟩] ∧
      d.fld F.tbStatusRegState = 4 ∧ bitOf (d.fld F.tbStatusLinkbad) p = true ∧ d.flag F.tbLstatMeasured p = false ∧
      d.flag F.tbLstatPass p = false) ∧
  (∀ (s : State) (p : Fin 8) (k : LinkCheck) (x : Nat), Runs s → s.dev.tb.check = [(p.val, k)] → s.dev.tb.checkAt = some x →
    x + 50000 ≤ s.dev.cycle → 32 ≤ k.done.length → -512 < median2 (k.done.map Prod.fst) / 2 →
    median2 (k.done.map Prod.fst) / 2 < 512 →
    Completes .linkCheckDone s fun d =>
      Frame { s.dev with tb := { s.dev.tb with check := [], checkAt := none } } d
        [RegName.addr .tbStatus, RegName.addr .tbLstat p, RegName.addr .tbLofs p, RegName.addr .tbLdly p]
        [⟨evCode 0 1 1, s.dev.ssi, false, []⟩] ∧
      d.fld F.tbStatusRegState = 3 ∧ d.flag F.tbLstatMeasured p = true ∧ d.flag F.tbLstatPass p = true ∧
      d.reg .tbLofs p = BitVec.ofInt 32 (median2 (k.done.map Prod.fst) / 2).floor ∧
      d.reg .tbLdly p = BitVec.ofInt 32 (median2 (k.done.map Prod.snd) / 2).floor)

/-- Where one event of the cycle before is selected by a channel without guard, CHANNEL_ACTIVATION delivers one activation with
its stamp and LATE bit and records the stamp; a sequencer PENDING on the channel since an earlier cycle than the stamp's is
presented with its candidate 1,536 samples after the stamp; a muted channel delivers none; a guarded channel with LOOP_MAX
deliveries in the last 64 router cycles delivers none and is muted. EV_INJECT presents one event for each 1 of its word, in
rising order; LOOP_UNMUTE clears the written bits of EV_LOOPCH and the deliveries of the channels that they unmute. -/
def Obligations.ChannelActivations : Prop :=
  (∀ (s : State) (n : Fin 256) (e : Ev), Runs s → sfind s.dev.ev.act n = none → s.dev.eventsFor n = [e] →
    s.dev.mutedF n = false → s.dev.fldF F.evEcCfgGuard n = 0 → s.dev.unheard n →
    Completes (.channelActivation n) s fun d =>
      Frame { s.dev with seqs := d.seqs, ev := d.ev } d
        (((List.range 64).map fun i => RegName.addr .evcStatus i) ++ s.dev.seqs.map fun x => RegName.addr .csStatus x.1) ∧
      (∀ k p, sfind d.seqs k = some p → p = s.dev.seq k ∨ ∃ q, (s.dev.seq k).pres = some q ∧ q.ec = some n.val ∧
        p = { s.dev.seq k with t := e.stamp + 1536
                               pres := some { q with ec := none, t0 := e.stamp + 1536, cycle := s.dev.cycle, rx := q.rx ++ e.rx.eraseDups } }) ∧
      (∀ k q, (s.dev.seq k).pres = some q → q.ec = some n.val → q.cycle < s.dev.cycleOf e.stamp →
        (d.seq k).t = e.stamp + 1536 ∧ d.fld F.csStatusState k = 3) ∧
      sfind d.ev.act n = some ⟨0, e.stamp, e.late, e.rx.eraseDups⟩ ∧ d.ecLast n = e.stamp ∧
      (∀ q, q ≠ n.val → sfind d.ev.act q = sfind s.dev.ev.act q) ∧ d.ev.now = s.dev.ev.now ∧ d.ev.prev = s.dev.ev.prev ∧
      d.ev.later = s.dev.ev.later) ∧
  (∀ (s : State) (n : Fin 256) (e : Ev), Runs s → sfind s.dev.ev.act n = none → s.dev.eventsFor n = [e] → s.dev.mutedF n = true →
    Completes (.channelActivation n) s fun d =>
      Frame { s.dev with ev := { s.dev.ev with evc := d.ev.evc } } d []) ∧
  (∀ (s : State) (n : Fin 256) (e : Ev), Runs s → sfind s.dev.ev.act n = none → s.dev.eventsFor n = [e] →
    s.dev.mutedF n = false → s.dev.fldF F.evEcCfgGuard n = 1 → s.dev.fld F.evCtrlLoopMax < (s.dev.recent n).length + 1 →
    Completes (.channelActivation n) s fun d =>
      NotesOnly s.dev d ∧ Frame { s.dev.noted d with ev := d.ev } d
        (RegName.addr .evLoopch 0 (n / 32) :: RegName.addr .evStatus :: noticeRegs) ∧
      bitOf (d.reg .evLoopch 0 (n / 32)).toNat (n % 32) = true ∧ d.flag F.evStatusLoop = true ∧ sfind d.ev.act n = none ∧
      d.ev.now.take (s.dev.ev.now.length + 1) = s.dev.ev.now ++ [⟨evCode 0 10 0, s.dev.ssi, false, []⟩]) ∧
  (∀ (s : State) (c : Ctx) (v : Nat), Takes s c → v < 2 ^ 32 →
    Answers (.evInject c v) c 0x0202 s [] s.dev []
      ((bitsSet 16 v).map fun m => ⟨evCode 0 11 m, s.dev.ssi, false, []⟩) fun _ => True) ∧
  (∀ (s : State) (c : Ctx) (w : Fin 8) (v : Nat), Takes s c → v < 2 ^ 32 → sget 0 s.dev.hwNow (RegName.addr .evLoopch 0 w) = 0 →
    Completes (.loopUnmute c w v) s fun d =>
      Replies s.dev d c 0x0202 stOk 1 0 [] ∧
      Frame (({ s.dev with ev := { s.dev.ev with hist := d.ev.hist } } : Device).replied d) d
        [RegName.addr .ceAccepted, RegName.addr .evLoopch 0 w] ∧
      d.reg .evLoopch 0 w = s.dev.reg .evLoopch 0 w &&& ~~~(BitVec.ofNat 32 v) ∧
      (∀ b : Fin 32, sget [] d.ev.hist (32 * w + b) =
        if bitOf (s.dev.reg .evLoopch 0 w &&& BitVec.ofNat 32 v).toNat b then [] else sget [] s.dev.ev.hist (32 * w + b)))

/-- A write of EVC_CTRL with CLR sets the count to 0 before the additions of this cycle; one with SNAP copies the count, this
cycle's additions included, and the index of this cycle's first sample into the snapshot and sets SNAPPED. The other bits of
the word go to the register, CLR and SNAP read 0. -/
def Obligations.EventCounters : Prop :=
  (∀ (s : State) (c : Ctx) (n : Fin 64) (v : Nat), Takes s c → v < 2 ^ 32 → bitOf v 1 = false → bitsOf v 24 16 ≤ 273 →
    (bitsOf v 24 16 < 256 → s.dev.ecAway (bitsOf v 24 16) c.sess = false) → s.dev.ecAway (bitsOf v 15 8) c.sess = false →
    Answers (.evcClear c n v) c 0x0202 s []
      { s.dev with ev := { s.dev.ev with
          cut := s.dev.ev.cut.filter fun x => x != RegName.addr .evcCtrl n && x != RegName.addr .evcCtrl n + 1
          evcBy := sput s.dev.ev.evcBy n c.sess
          evc := sput s.dev.ev.evc n { s.dev.evc n with
            base := 0, snap := if (s.dev.evc n).snapNow.isSome then (s.dev.evc n).add else (s.dev.evc n).snap } } }
      [RegName.addr .evcCtrl n] [] fun d =>
        d.reg .evcCtrl n = BitVec.ofNat 32 v &&& 0xE1FFFF00 ∧ d.evcNow n = (s.dev.evc n).add % 2 ^ 48) ∧
  (∀ (s : State) (c : Ctx) (n : Fin 64) (v : Nat), Takes s c → v < 2 ^ 32 → bitOf v 0 = false → bitsOf v 24 16 ≤ 273 →
    (bitsOf v 24 16 < 256 → s.dev.ecAway (bitsOf v 24 16) c.sess = false) → s.dev.ecAway (bitsOf v 15 8) c.sess = false →
    (s.dev.evc n).snapNow = none →
    Answers (.evcSnapshot c n v) c 0x0202 s []
      { s.dev with ev := { s.dev.ev with
          cut := s.dev.ev.cut.filter fun x => x != RegName.addr .evcCtrl n && x != RegName.addr .evcCtrl n + 1
          evcBy := sput s.dev.ev.evcBy n c.sess
          evc := sput s.dev.ev.evc n { s.dev.evc n with
            snapNow := some s.dev.ssi, snap := s.dev.evcNow n, snapT := s.dev.ssi } } }
      [RegName.addr .evcCtrl n, RegName.addr .evcStatus n] [] fun d =>
        d.reg .evcCtrl n = BitVec.ofNat 32 v &&& 0xE1FFFF00 ∧ d.flag F.evcStatusSnapped n = true ∧ d.evcNow n = s.dev.evcNow n)

/-- LEDGER_COMMIT puts the staged parameters of a ledger in force, restarts its deadline and keeps H and U; LEDGER_ENABLE that
sets EN does the same with H and U zero; one that clears EN leaves the parameters; BUD_SEAL sets SEAL and with SEAL set is
refused with NOT_OWNER; a ledger past its measurement deadline sets STALE and presents event 7. Nothing else changes. -/
def Obligations.LedgerWrites : Prop :=
  (∀ (s : State) (c : Ctx) (j : Fin 18) (v : Nat), Takes s c → v < 2 ^ 32 → bitsOf v 30 29 ≠ 3 →
    (j.val < 16 → s.dev.ledWritable j c.sess = true) → s.dev.ledSealed j = false → s.dev.csBusy = false →
    (if j.val = 16 then true else bitOf v 31) = s.dev.flag F.budCfgEn j → commitOk j (s.dev.stagedLedger j) = true →
    Answers (.ledgerCommit c j v) c 0x0202 s []
      (s.dev.putLed j { s.dev.led j with
        c := s.dev.reg64 .budCLo .budCHi j, pcool := s.dev.reg64 .budPcoolLo .budPcoolHi j
        pstat := s.dev.reg64 .budPstatLo .budPstatHi j, tbase := (s.dev.reg .budTbase j).toNat
        tlim := if j.val = 16 then 363150 else (s.dev.reg .budTlim j).toNat, lag := (s.dev.reg .budLag j).toNat
        tmo := (s.dev.reg .budTmo j).toNat, since := s.dev.cycle, stale := false }) [RegName.addr .budCfg j] [] fun d =>
      d.flag F.budCfgEn j = s.dev.flag F.budCfgEn j ∧ d.fld F.budCfgCmode j = bitsOf v 30 29 ∧
        d.fld F.budCfgSrc j = bitsOf v 19 16) ∧
  (∀ (s : State) (c : Ctx) (j : Fin 18) (v : Nat), Takes s c → v < 2 ^ 32 → bitsOf v 30 29 ≠ 3 → j.val ≠ 16 →
    (j.val < 16 → s.dev.ledWritable j c.sess = true) → s.dev.ledSealed j = false → s.dev.csBusy = false →
    bitOf v 31 = true → s.dev.flag F.budCfgEn j = false → commitOk j (s.dev.stagedLedger j) = true →
    Answers (.ledgerEnable c j v) c 0x0202 s []
      (s.dev.putLed j { s.dev.stagedLedger j with since := s.dev.cycle, stale := false, h := 0, u := 0, hSeen := 0, uSeen := 0 })
      [RegName.addr .budCfg j] [] fun d => d.flag F.budCfgEn j = true ∧ d.fld F.budCfgCmode j = bitsOf v 30 29 ∧
        d.fld F.budCfgSrc j = bitsOf v 19 16) ∧
  (∀ (s : State) (c : Ctx) (j : Fin 18) (v : Nat), Takes s c → v < 2 ^ 32 → j.val ≠ 16 →
    (j.val < 16 → s.dev.ledWritable j c.sess = true) → s.dev.ledSealed j = false → s.dev.csBusy = false →
    bitOf v 31 = false → bitOf v 28 = false → s.dev.flag F.budCfgEn j = true →
    bitsOf v 30 29 = s.dev.fld F.budCfgCmode j → bitsOf v 30 29 ≠ 3 → bitsOf v 19 16 = s.dev.fld F.budCfgSrc j →
    Answers (.ledgerEnable c j v) c 0x0202 s [] (s.dev.putLed j (s.dev.led j)) [RegName.addr .budCfg j] [] fun d =>
      d.flag F.budCfgEn j = false) ∧
  (∀ (s : State) (c : Ctx) (v : Nat), Takes s c → s.dev.flag F.budCtrlSeal = false →
    Answers (.budSeal c v) c 0x0202 s [] s.dev [RegName.addr .budCtrl] [] fun d => d.flag F.budCtrlSeal = true) ∧
  (∀ (s : State) (c : Ctx) (v : Nat), Takes s c → s.dev.flag F.budCtrlSeal = true →
    Refuses (.budSeal c v) c 0x0202 s stNotOwner 0) ∧
  (∀ (s : State) (j : Fin 18), Runs s → s.dev.fldF F.budCfgCmode j ≠ 0 → (s.dev.led j).tmo ≠ 0 →
    (s.dev.led j).stale = false → (s.dev.led j).since + (s.dev.led j).tmo * 500000 ≤ s.dev.cycle →
    Completes (.ledgerStale j) s fun d =>
      Frame (s.dev.putLed j { s.dev.led j with stale := true }) d [RegName.addr .budLstat j, RegName.addr .budStatus]
        [⟨budEvent 7, s.dev.ssi, false, []⟩] ∧ d.flag F.budLstatStale j = true ∧ d.flag F.budStatusStale = true)

/-- BUD_BLOCKINFO of a BLOCK that the session may read answers its energy, its samples, its energy vector and whether it can
never fit, and changes nothing; BUD_ATTN_WRITE of a row that sums to at most 1 writes all sixteen entries of the row and
nothing else. -/
def Obligations.BudgetCommands : Prop :=
  (∀ (s : State) (c : Ctx) (k addr : Nat), Takes s c → k < 576 → addr < 32768 → s.dev.isBlockAt (storeOf k) addr = true →
    s.dev.seqReadable k c.sess = true →
    OnlyAnswers (.budBlockinfo c k addr) c 0x0701 s
      (leBytes 8 (s.dev.blockEnergy k addr) ++ leBytes 8 (s.dev.blockSamples k addr)
        ++ (s.dev.blockVector k addr).flatMap (leBytes 8)
        ++ leBytes 1 (b2n (s.dev.infeasible (s.dev.blockVector k addr) (s.dev.blockFields k addr).cls (s.dev.blockFields k addr).ess))
        ++ zeros 7)) ∧
  (∀ (s : State) (c : Ctx) (p : Nat) (row : List Nat), Takes s c → p < 512 → row.length = 16 → (∀ x ∈ row, x < 2 ^ 32) →
    row.sum ≤ 2 ^ 32 → (∀ j : Fin 16, s.dev.attnWritable p j c.sess = true) → s.dev.csBusy = false →
    Answers (.budAttnWrite c p row) c 0x0702 s [] s.dev ((List.range 16).map fun j => RegName.addr .budAttn p j) [] fun d =>
      ∀ j : Fin 16, d.reg .budAttn p j = BitVec.ofNat 32 (row.getD j 0))

/-- RUN set starts a pass at the first bench tick at or after it, or in single-pass mode, a pass under way, is held; RUN
cleared ends it at the next tick. Within a pass BENCH_BREAK begins the visit to the next point; then Break leads to Discharge
of BN_DISCH times 16,000 samples, a lead check that passes to 50 us of Leads, Leads to 20 us of Make, Make to the excitation
and 200 us of warm-up with the settle time counted from the excitation, and the warm-up to a conversion of NPLC power-line
cycles. Nothing else changes. -/
def Obligations.BenchVisits : Prop :=
  (∀ (s : State) (c : Ctx) (v : Nat), Takes s c → v < 2 ^ 32 → bitsOf v 17 16 ≠ 3 → s.dev.ecAway (bitsOf v 15 8) c.sess = false →
    (s.dev.bench.ending ≠ none ∨ s.dev.flag F.bnCtrlRun = false ∧ s.dev.bench.inPass = false ∧ s.dev.bench.want = none) →
    Answers (.benchRunSet c v) c 0x0202 s [] { s.dev with
        bench := { (if bitsOf v 17 16 = 2 ∧ s.dev.fld F.bnCtrlMains ≠ 2 then
            { s.dev.bench with periods := [], lastEdge := none, lost := false, trackFrom := s.dev.ssi } else s.dev.bench) with
          want := some (1600 * ceilDiv s.dev.ssi 1600) }
        ev := { s.dev.ev with lift := s.dev.ev.lift ++ s.dev.ev.cut.filter (· == RegName.addr .bnCtrl) } }
      [RegName.addr .bnCtrl] [] fun d => d.reg .bnCtrl = BitVec.ofNat 32 (v ||| 1) &&& 0x000BFF07) ∧
  (∀ (s : State) (c : Ctx) (v : Nat), Takes s c → v < 2 ^ 32 → bitsOf v 17 16 ≠ 3 → s.dev.ecAway (bitsOf v 15 8) c.sess = false →
    s.dev.flag F.bnCtrlRun = true → s.dev.bench.ending = none → s.dev.bench.inPass = true →
    Answers (.benchRunSet c v) c 0x0202 s [] { s.dev with
        bench := { (if bitsOf v 17 16 = 2 ∧ s.dev.fld F.bnCtrlMains ≠ 2 then
            { s.dev.bench with periods := [], lastEdge := none, lost := false, trackFrom := s.dev.ssi } else s.dev.bench) with
          held := bitOf v 1 || s.dev.bench.held }
        ev := { s.dev.ev with lift := s.dev.ev.lift ++ s.dev.ev.cut.filter (· == RegName.addr .bnCtrl) } }
      [RegName.addr .bnCtrl] [] fun d => d.reg .bnCtrl = BitVec.ofNat 32 (v ||| 1) &&& 0x000BFF07) ∧
  (∀ (s : State) (c : Ctx) (v : Nat), Takes s c → v < 2 ^ 32 → bitsOf v 17 16 ≠ 3 → s.dev.ecAway (bitsOf v 15 8) c.sess = false →
    s.dev.flag F.bnCtrlRun = true →
    Answers (.benchRunClear c v) c 0x0202 s []
      { s.dev with
        bench := { (if bitsOf v 17 16 = 2 ∧ s.dev.fld F.bnCtrlMains ≠ 2 then
            { s.dev.bench with periods := [], lastEdge := none, lost := false, trackFrom := s.dev.ssi } else s.dev.bench) with
          ending := some (1600 * (s.dev.ssi / 1600 + 1)), held := false, want := none }
        ev := { s.dev.ev with lift := s.dev.ev.lift ++ s.dev.ev.cut.filter (· == RegName.addr .bnCtrl) } }
      [RegName.addr .bnCtrl] [] fun d => d.reg .bnCtrl = BitVec.ofNat 32 (v &&& 0xFFFFFFFE) &&& 0x000BFF07) ∧
  (∀ (s : State) (p : Nat) (rest : List Nat), Runs s → s.dev.bench.phase = .idle → s.dev.bench.next < s.dev.ssi + 32 →
    s.dev.bench.gapOpen = false → s.dev.bench.inPass = true → s.dev.bench.points = p :: rest →
    Completes .benchBreak s fun d =>
      Frame (s.dev.updBench fun b => { b with
        phase := .brk, stop := b.next + 320000, points := rest
        visit := { pt := p, conv := (s.dev.reg .bnPtConv (p % 32)).toNat, exc := (s.dev.reg .bnPtExc (p % 32)).toNat } }) d
        [RegName.addr .bnStatus] ∧ d.flag F.bnStatusActive = true ∧ d.fld F.bnStatusCur = p % 32) ∧
  (∀ (s : State), Runs s → s.dev.bench.phase = .brk → s.dev.bench.stop < s.dev.ssi + 32 →
    Completes .benchDischarge s fun d =>
      Frame (s.dev.updBench fun b => { b with phase := .discharge, stop := b.stop + 16000 * (s.dev.reg .bnDisch).toNat }) d []) ∧
  (∀ (s : State), Runs s → s.dev.bench.phase = .discharge → s.dev.bench.stop < s.dev.ssi + 32 → s.dev.bench.visit.pt < 16 →
    Completes (.benchLeadCheck false) s fun d =>
      Frame (s.dev.updBench fun b => { b with phase := .leads, stop := b.stop + 800000 }) d []) ∧
  (∀ (s : State), Runs s → s.dev.bench.phase = .leads → s.dev.bench.stop < s.dev.ssi + 32 →
    Completes .benchMake s fun d => Frame (s.dev.updBench fun b => { b with phase := .make, stop := b.stop + 320000 }) d []) ∧
  (∀ (s : State), Runs s → s.dev.bench.phase = .make → s.dev.bench.stop < s.dev.ssi + 32 →
    Completes .excitationOn s fun d =>
      Frame (s.dev.updBench fun b => { b with
        phase := .warm, stop := b.stop + 3200000
        visit := { b.visit with
          tExc := b.stop, neg := false, n := 0, check := b.stop + 1600000 } }) d []) ∧
  (∀ (s : State), Runs s → s.dev.bench.phase = .warm → s.dev.bench.stop < s.dev.ssi + 32 →
    Completes .warmUpEnd s fun d =>
      Frame (s.dev.updBench fun b => { b with
        phase := .conv, plcUse := s.dev.plc
        visit := { b.visit with
          cs := b.stop, ce := b.stop + bitsOf b.visit.conv 23 16 * (s.dev.plc * 1600)
          settle := b.visit.tExc + bitsOf b.visit.conv 4 0 * (s.dev.plc * 1600) } }) d [])

/-- A conversion that began before the settle time is over is discarded and counted, and the next begins; one that counts adds
its code to the sum of its polarity. A failed lead check of a BX point sets EXC_FAULT and ends the visit. A passing check of
the excitation monitor sets the next one 100 us on. With MAINS tracking, an edge is taken, its period joins the last sixteen,
and 50 ms without one sets MAINS_LOST. A calibration visit in the gap begins with Break. -/
def Obligations.BenchConversions : Prop :=
  (∀ (s : State) (code : Int), Runs s → s.dev.bench.phase = .conv → s.dev.bench.visit.ce < s.dev.ssi + 32 →
    s.dev.bench.visit.cs < s.dev.bench.visit.settle →
    Completes (.conversionEnd code) s fun d =>
      Frame (s.dev.updBench fun b => { b with plcUse := s.dev.plc, visit := { b.visit with
        cs := b.visit.ce, ce := b.visit.ce + bitsOf b.visit.conv 23 16 * (s.dev.plc * 1600)
        settle := b.visit.tExc + bitsOf b.visit.conv 4 0 * (s.dev.plc * 1600) } }) d [RegName.addr .bnDiscard] ∧
      d.reg .bnDiscard = s.dev.reg .bnDiscard + 1) ∧
  (∀ (s : State) (code x y : Int), Runs s → s.dev.bench.phase = .conv → s.dev.bench.visit.ce < s.dev.ssi + 32 →
    s.dev.bench.visit.settle ≤ s.dev.bench.visit.cs → s.dev.benchCode (bitsOf s.dev.bench.visit.conv 9 8) code = x →
    y = min 147639500 (max (-147639500) x) → s.dev.bench.visit.n + 1 < 2 ^ bitsOf s.dev.bench.visit.conv 15 12 →
    Completes (.conversionEnd code) s fun d =>
      Frame (s.dev.updBench fun b => { b with plcUse := s.dev.plc, visit := { b.visit with
        n := b.visit.n + 1, ovr := b.visit.ovr || decide (y ≠ x)
        sp := if b.visit.neg then b.visit.sp else b.visit.sp + y, sn := if b.visit.neg then b.visit.sn + y else b.visit.sn
        cs := b.visit.ce, ce := b.visit.ce + bitsOf b.visit.conv 23 16 * (s.dev.plc * 1600)
        settle := b.visit.tExc + bitsOf b.visit.conv 4 0 * (s.dev.plc * 1600) } }) d []) ∧
  (∀ (s : State), Runs s → s.dev.bench.phase = .discharge → s.dev.bench.stop < s.dev.ssi + 32 → s.dev.bench.visit.pt < 16 →
    Completes (.benchLeadCheck true) s fun d =>
      Frame { s.dev with bench := d.bench, ev := d.ev, cal := d.cal } d
        [RegName.addr .bnStatus, RegName.addr .bnPasscnt, RegName.addr .bnCtrl] ∧
      d.flag F.bnStatusExcFault = true ∧ d.flag F.bnStatusActive = false ∧ d.bench.phase = .idle) ∧
  (∀ (s : State) (vsrc imon vsense : Rat), Runs s → (s.dev.bench.phase = .warm ∨ s.dev.bench.phase = .conv) →
    s.dev.bench.visit.check < s.dev.ssi + 32 → monitorFault s.dev.bench.visit.exc vsrc imon vsense = 0 →
    Completes (.excMonitorCheck vsrc imon vsense) s fun d =>
      Frame (s.dev.updBench fun b => { b with visit := { b.visit with check := b.visit.check + 1600000, failed := false } }) d []) ∧
  (∀ (s : State) (tick : Nat), Runs s → s.dev.fld F.bnCtrlMains = 2 → 1600 * tick < s.dev.ssi + 32 → s.dev.bench.lastEdge = none →
    Completes (.mainsEdge tick) s fun d => Frame (s.dev.updBench fun b => { b with lastEdge := some tick }) d []) ∧
  (∀ (s : State) (tick e : Nat), Runs s → s.dev.fld F.bnCtrlMains = 2 → 1600 * tick < s.dev.ssi + 32 →
    s.dev.bench.lastEdge = some e → e < tick → s.dev.bench.lost = false → s.dev.bench.periods.length < 15 →
    Completes (.mainsEdge tick) s fun d =>
      Frame (s.dev.updBench fun b => { b with lastEdge := some tick, periods := (tick - e) :: b.periods }) d []) ∧
  (∀ (s : State), Runs s → s.dev.fld F.bnCtrlMains = 2 → s.dev.bench.lost = false → tickAt s.dev.mainsDeadline < s.dev.ssi + 32 →
    Completes .mainsTimeout s fun d =>
      Frame (s.dev.updBench fun b => { b with lost := true, periods := [] }) d [RegName.addr .bnStatus]
        [⟨bnEvent 6, tickAt s.dev.mainsDeadline, false, []⟩] ∧ d.flag F.bnStatusMainsLost = true) ∧
  (∀ (s : State) (k : CalStep) (p conv exc : Nat) (rest : List (Nat × Nat × Nat)), Runs s → s.dev.bench.gapOpen = true →
    s.dev.bench.phase = .idle → s.dev.bench.inPass = false → s.dev.bench.next < s.dev.ssi + 32 →
    s.dev.flag F.bnCtrlCalslotEn = true → sfind s.dev.cal.steps 8 = some k → k.visits = (p, conv, exc) :: rest →
    Completes .benchCalVisit s fun d =>
      Frame { (s.dev.updBench fun b => { b with
          phase := .brk, stop := 1600 * ceilDiv b.next 1600 + 320000
          visit := { pt := p, conv := conv, exc := exc, cal := true } }) with
        cal := { s.dev.cal with steps := sput s.dev.cal.steps 8 { k with visits := rest } } } d [RegName.addr .bnStatus] ∧
      d.flag F.bnStatusActive = true)

/-- A valid excitation word is stored and lands at the next bench tick; a valid conversion word is stored with its reserved
bits 0 and a word with NPLC 0 is refused; BENCH_RING_READ answers up to the number asked for of the entries from BN_RING_RD on
and moves that pointer past them; CURVE_LOAD of a sound image puts it in the plate store with the next CURVESER and seals it;
CURVE_READ answers image and seal. -/
def Obligations.BenchSettings : Prop :=
  (∀ (s : State) (c : Ctx) (n : Fin 32) (v : Nat), Takes s c → v < 2 ^ 32 → n.val < 16 → bitsOf v 7 6 = 1 → bitsOf v 4 2 ≤ 6 →
    s.dev.fld F.bnPtConvCurve n = 0 → s.dev.pointAway c.sess n = false →
    Answers (.bnExcWrite c n v) c 0x0202 s []
      (s.dev.updBench fun b => { b with excAt := b.excAt ++ [(1600 * (s.dev.ssi / 1600 + 1), n.val)] }) [RegName.addr .bnPtExc n] []
      fun d => d.reg .bnPtExc n = BitVec.ofNat 32 (v % 256)) ∧
  (∀ (s : State) (c : Ctx) (n : Fin 32) (v : Nat), Takes s c → v < 2 ^ 32 → bitsOf v 23 16 ≠ 0 → bitsOf v 15 12 ≤ 8 →
    bitsOf v 9 8 ≠ 3 → 3 ≤ v % 32 → bitsOf v 29 24 = 0 → s.dev.pointAway c.sess n = false →
    Answers (.bnConvWrite c n v) c 0x0202 s [] s.dev [RegName.addr .bnPtConv n] [] fun d =>
      d.reg .bnPtConv n = BitVec.ofNat 32 v &&& 0x3FFFF31F) ∧
  (∀ (s : State) (c : Ctx) (n : Fin 32) (v : Nat), Takes s c → v < 2 ^ 32 → bitsOf v 23 16 = 0 →
    Refuses (.bnConvWrite c n v) c 0x0202 s stBadArg 0) ∧
  (∀ (s : State) (c : Ctx) (n k : Nat), Takes s c → 1 ≤ n → n ≤ 4096 →
    k = min n (((s.dev.reg .bnRingWr).toNat + 4096 - (s.dev.reg .bnRingRd).toNat) % 4096) →
    Answers (.benchRingRead c n) c 0x0801 s
      ((List.range k).flatMap fun j => sget (zeros 16) s.dev.bench.ring (((s.dev.reg .bnRingRd).toNat + j) % 4096)) s.dev
      [RegName.addr .bnRingRd] [] fun d => d.reg .bnRingRd = BitVec.ofNat 32 (((s.dev.reg .bnRingRd).toNat + k) % 4096)) ∧
  (∀ (s : State) (c : Ctx) (img : List Byte), Takes s c → 32 ≤ img.length → img.length = 32 + 16 * fieldB img 4 2 →
    curveFault img = none → s.dev.flag F.calCtrlSeal = false → s.dev.flag F.bnCtrlRun = false →
    s.dev.flag F.thStatusPlateOk = true → s.dev.flag F.secStatusDrbgOk = true →
    Completes (.curveLoad c img) s fun d =>
      Replies s.dev d c 0x0802 stOk 1 0 [] ∧
      Frame (({ s.dev with
        curveLoads := s.dev.curveLoads + 1, free := s.dev.free + 1
        plate := sput s.dev.plate (256 + fieldB img 0 1) (img.take 24 ++ leBytes 4 (s.dev.curveLoads + 1) ++ img.drop 28)
        seals := d.seals } : Device).replied d) d [RegName.addr .ceAccepted] ∧
      (∀ q, q ≠ 256 + fieldB img 0 1 → sfind d.seals q = sfind s.dev.seals q)) ∧
  (∀ (s : State) (c : Ctx) (n : Nat) (b x : List Byte), Takes s c → 32 ≤ n → n < 64 → s.dev.plateOf (256 + n) = some b →
    s.dev.sealOf (256 + n) = some x → OnlyAnswers (.curveRead c n) c 0x0803 s (b ++ x))

/-- A step starts on a free converter die in the slot that can hold it, on the first boundary or back to back, lasts its
class's length and keeps its class's limit; a bench step starts in the gap. A measured step too far from the coefficients in
force is rejected: REJECT, the class's count, event 1, and the slot is free again; otherwise it is accepted: the class's count
and time, event 0 last, and the mark of the instance is gone. CAL_DUE sets with event 6. At a commit period with nothing
changed only the period starts anew; with changes outside the write window COMMIT_PENDING sets with event 5. -/
def Obligations.CalibrationSteps : Prop :=
  (∀ (s : State) (n : Fin 9) (o : Slot) (cls inst : Nat), Runs s → n.val < 8 → sfind s.dev.cal.steps n = none →
    s.dev.stepSlot n = some (o, cls, inst) →
    Completes (.calStepStart n) s fun d =>
      Frame { s.dev with cal := { s.dev.cal with
        steps := sput s.dev.cal.steps n
          (CalStep.mk cls inst (s.dev.stepAt o) (s.dev.stepAt o + stepLen cls) [] (s.dev.fld F.calLimitLimit cls)) } } d []) ∧
  (∀ (s : State) (k : CalStep), Runs s → sfind s.dev.cal.steps 8 = none → s.dev.benchStep = some k →
    Completes (.calStepStart 8) s fun d =>
      Frame { s.dev with cal := { s.dev.cal with
        steps := sput s.dev.cal.steps 8 { k with limit := s.dev.fld F.calLimitLimit k.cls } } } d []) ∧
  (∀ (s : State) (n : Fin 9) (m : CalMeas) (k : CalStep) (v : List Rat) (i : Nat), Runs s → s.dev.stepEnded n = some k → k.cls < 13 →
    v = ((List.range (s.dev.calForce k.cls k.inst).length).map fun i =>
      if k.cls = 11 ∧ i = 4 then (s.dev.calForce k.cls k.inst).getD i 0
      else calRound k.cls (m.m.getD i ((s.dev.calForce k.cls k.inst).getD i 0))) →
    calTooFar k.cls k.limit v (s.dev.calForce k.cls k.inst) = some i →
    Completes (.calStepDone n m) s fun d =>
      NotesOnly s.dev d ∧ Frame { s.dev.noted d with
        cal := { s.dev.cal with steps := sdel s.dev.cal.steps n }, offers := d.offers, ev := d.ev } d
        (RegName.addr .calStatus :: RegName.addr .calLimit k.cls :: noticeRegs) ∧
      d.flag F.calStatusReject = true ∧ d.fld F.calLimitReject k.cls = min (s.dev.fld F.calLimitReject k.cls + 1) 0xFFFF ∧
      d.ev.now.take (s.dev.ev.now.length + 1) = s.dev.ev.now ++ [⟨calEvent 1, s.dev.ssi, false, []⟩]) ∧
  (∀ (s : State) (n : Fin 9) (m : CalMeas) (k : CalStep) (v : List Rat), Runs s → s.dev.stepEnded n = some k → k.cls < 13 →
    v = ((List.range (s.dev.calForce k.cls k.inst).length).map fun i =>
      if k.cls = 11 ∧ i = 4 then (s.dev.calForce k.cls k.inst).getD i 0
      else calRound k.cls (m.m.getD i ((s.dev.calForce k.cls k.inst).getD i 0))) →
    calTooFar k.cls k.limit v (s.dev.calForce k.cls k.inst) = none →
    Completes (.calStepDone n m) s fun d =>
      Frame { s.dev with cal := d.cal, offers := d.offers, ev := d.ev, ports := d.ports, pfs := d.pfs, inputs := d.inputs } d
        ([RegName.addr .calStatus, RegName.addr .calDue, RegName.addr .calProv, RegName.addr .calCountLo k.cls,
          RegName.addr .calCountHi k.cls] ++ ((List.range 4).map fun w => RegName.addr .calTime k.cls w) ++ coefRegs) ∧
      d.cal.steps = sdel s.dev.cal.steps n ∧ d.calLast k.cls k.inst = s.dev.deviceTime ∧
      d.cal.marks = s.dev.cal.marks.filter (· != calKey k.cls k.inst) ∧
      d.reg64 .calCountLo .calCountHi k.cls = (s.dev.reg64 .calCountLo .calCountHi k.cls + 1) % 2 ^ 48) ∧
  (∀ (s : State) (n : Nat), Runs s → n < 13 → bitOf (s.dev.reg .calDue).toNat n = false → s.dev.calLate n = true →
    Completes (.calDue n) s fun d =>
      Frame s.dev d [RegName.addr .calDue] [⟨calEvent 6, s.dev.ssi, false, []⟩] ∧
      ∀ b : Fin 32, bitOf (d.reg .calDue).toNat b = (bitOf (s.dev.reg .calDue).toNat b || b.val == n)) ∧
  (∀ (s : State), Runs s → s.dev.cal.periodAt + (s.dev.reg .calCommitper).toNat * 500000000 ≤ s.dev.cycle → s.dev.cal.changed = [] →
    Completes .calCommitPeriod s fun d => Frame { s.dev with cal := { s.dev.cal with periodAt := s.dev.cycle } } d []) ∧
  (∀ (s : State), Runs s → s.dev.cal.periodAt + (s.dev.reg .calCommitper).toNat * 500000000 ≤ s.dev.cycle → s.dev.cal.changed ≠ [] →
    s.dev.flag F.thStatusPlateOk = false →
    Completes .calCommitPeriod s fun d =>
      Frame { s.dev with cal := { s.dev.cal with periodAt := s.dev.cycle } } d [RegName.addr .calStatus]
        [⟨calEvent 5, s.dev.ssi, false, []⟩] ∧ d.flag F.calStatusCommitPending = true)

/-- With SEAL clear, a write of CAL_REFV_HI commits REFV between 1 V and 5 V (in nV) with its uncertainty and clears NOREF,
CAL_SEAL sets SEAL, and CAL_XFER appends the comparison to those asked for; with SEAL set all three are refused with NOT_OWNER.
CAL_SET_READ answers image and seal, CAL_RUN marks the named instances, CAL_COMMIT writes a changed set of its mask to the
plate store with event 4, and CAL_TPOINT adds a set as PROVISIONAL. The end of a transfer takes it off the list; with a result
it puts the new RINT value into every set, and without one changes nothing else but the notice. -/
def Obligations.CalibrationCommands : Prop :=
  (∀ (s : State) (c : Ctx) (v : Nat), Takes s c → v < 2 ^ 32 → s.dev.flag F.calCtrlSeal = false →
    10 ^ 9 ≤ (s.dev.reg .calRefvLo).toNat + 2 ^ 32 * v → (s.dev.reg .calRefvLo).toNat + 2 ^ 32 * v ≤ 5 * 10 ^ 9 →
    Answers (.calRefvCommit c v) c 0x0202 s []
      { s.dev with cal := { s.dev.cal with
          refv := (s.dev.reg .calRefvLo).toNat + 2 ^ 32 * v, refvU := (s.dev.reg .calRefvU).toNat } }
      [RegName.addr .calRefvHi, RegName.addr .calStatus] [] fun d =>
        d.reg .calRefvHi = BitVec.ofNat 32 v ∧ d.flag F.calStatusNoref = false) ∧
  (∀ (s : State) (c : Ctx) (v : Nat), Takes s c → s.dev.flag F.calCtrlSeal = false →
    Answers (.calSeal c v) c 0x0202 s [] s.dev [RegName.addr .calCtrl] [] fun d => d.flag F.calCtrlSeal = true) ∧
  (∀ (s : State) (c : Ctx) (n v u : Nat), Takes s c → n < 16 → s.dev.flag F.calCtrlSeal = false →
    s.dev.flag F.thStatusPlateOk = true →
    Answers (.calXfer c n v u) c 0x0905 s [] { s.dev with cal := { s.dev.cal with xfer := s.dev.cal.xfer ++ [(n, v, u)] } } [] []
      fun _ => True) ∧
  (∀ (s : State) (c : Ctx) (n v u : Nat), Takes s c → n < 16 → s.dev.flag F.calCtrlSeal = true →
    Refuses (.calXfer c n v u) c 0x0905 s stNotOwner 0 ∧ Refuses (.calSeal c v) c 0x0202 s stNotOwner 0 ∧
      Refuses (.calRefvCommit c v) c 0x0202 s stNotOwner 0) ∧
  (∀ (s : State) (c : Ctx) (n : Nat) (b x : List Byte), Takes s c → n < 8 → s.dev.plateOf n = some b → s.dev.sealOf n = some x →
    OnlyAnswers (.calSetRead c n) c 0x0901 s (b ++ x)) ∧
  (∀ (s : State) (c : Ctx) (mask first last : Nat), Takes s c → mask < 2 ^ 13 → first ≤ last →
    Answers (.calRun c mask first last) c 0x0903 s []
      { s.dev with cal := { s.dev.cal with
          marks := (s.dev.cal.marks ++ (bitsSet 13 mask).flatMap fun k =>
            ((List.range (calInstances k)).filter fun i => decide (first ≤ i) && decide (i ≤ last)).map (calKey k)).eraseDups } }
      [] [] fun _ => True) ∧
  (∀ (s : State) (c : Ctx) (mask n : Nat), Takes s c → s.dev.cal.changed = [n] → bitOf mask n = true →
    s.dev.flag F.thStatusPlateOk = true →
    Completes (.calCommit c mask) s fun d =>
      Replies s.dev d c 0x0904 stOk 1 0 [] ∧
      Frame (({ s.dev with
        free := s.dev.free + 1, plate := sput s.dev.plate n (setImage n (b2n (bitOf (s.dev.reg .calProv).toNat n))
          (s.dev.reg .calTpoint 0 n).toNat (sget 0 s.dev.cal.ser n + 1) s.dev.deviceTime s.dev.cal.refv s.dev.cal.refvU (s.dev.calCoef n))
        seals := d.seals
        cal := { s.dev.cal with changed := [], ser := sput s.dev.cal.ser n (sget 0 s.dev.cal.ser n + 1) } } : Device).replied d) d
        [RegName.addr .ceAccepted, RegName.addr .calStatus] [⟨calEvent 4, s.dev.ssi, false, []⟩] ∧
      d.flag F.calStatusCommitPending = false ∧ ∀ q, q ≠ n → sfind d.seals q = sfind s.dev.seals q) ∧
  (∀ (s : State) (c : Ctx) (n t : Nat), Takes s c → n < 8 → 0 < t → t < 2 ^ 32 → s.dev.flag F.calCtrlSeal = false →
    s.dev.reg .calTpoint 0 n = 0 → (∀ x ∈ s.dev.calSets, t + 1000 < x.1 ∨ x.1 + 1000 < t) →
    s.dev.flag F.thStatusPlateOk = true →
    Completes (.calTpoint c n t) s fun d =>
      Replies s.dev d c 0x0902 stOk 1 0 [] ∧
      Frame (({ s.dev with
        cal := d.cal, free := d.free, plate := d.plate, seals := d.seals, ev := d.ev, ports := d.ports, pfs := d.pfs
        inputs := d.inputs } : Device).replied d) d
        ([RegName.addr .ceAccepted, RegName.addr .calTpoint 0 n, RegName.addr .calProv] ++ coefRegs) ∧
      d.reg .calTpoint 0 n = BitVec.ofNat 32 t ∧ bitOf (d.reg .calProv).toNat n = true ∧ (sfind d.plate n).isSome = true) ∧
  (∀ (s : State) (k : CalStep) (r : Nat), Runs s → s.dev.stepEnded 8 = some k → k.cls = 13 →
    Completes (.calXferDone (some r)) s fun d =>
      NotesOnly s.dev d ∧ Frame { s.dev.noted d with
        cal := d.cal, free := d.free, plate := d.plate, seals := d.seals, ports := d.ports, pfs := d.pfs, inputs := d.inputs
        ev := d.ev } d (RegName.addr .calStatus :: noticeRegs ++ coefRegs) ∧
      d.cal.steps = sdel s.dev.cal.steps 8 ∧ d.cal.xfer = s.dev.cal.xfer.drop 1 ∧
      ∀ x ∈ s.dev.calSets, d.calCoef x.2 11 0 = listSet (s.dev.calCoef x.2 11 0) 4 (fl64Away ((r : Rat) / 10 ^ 9))) ∧
  (∀ (s : State) (k : CalStep), Runs s → s.dev.stepEnded 8 = some k → k.cls = 13 →
    Completes (.calXferDone none) s fun d =>
      NotesOnly s.dev d ∧ Frame { s.dev.noted d with
        cal := { s.dev.cal with steps := sdel s.dev.cal.steps 8, xfer := s.dev.cal.xfer.drop 1 }, ev := d.ev } d noticeRegs)

/-- NOP goes on behind itself, GOTO at its target; LOOP sets REMAIN of its counter; ENDL takes one off and jumps while REMAIN
is above 1, else leaves it 0 and falls through; JCOND with no condition armed takes V = 0 and clears COND, with a formed
verdict it jumps where the verdict has its polarity, it stalls while the verdict is not known, and it forms a known one and
issues together with the NOP that it finds on its way; WAIT moves T by its count and makes a boundary, and one that announces
offers its time to calibration where it holds 32,000 samples, but an input with an open window or capture does not; ARMD arms
its lane or gate at T. PC shows the address issued, and nothing else changes. -/
def Obligations.ControlInstructions : Prop :=
  (∀ (s : State) (k : Fin 576), Runs s → s.dev.nextInstr k = some .nop →
    Completes (.nop k) s fun d => Frame (Issued s.dev k ((s.dev.seq k).npc + 1)) d [RegName.addr .csPc k] ∧
      d.reg .csPc k = BitVec.ofNat 32 (s.dev.seq k).npc) ∧
  (∀ (s : State) (k : Fin 576) (t : Nat), Runs s → s.dev.nextInstr k = some (.goto t) →
    Completes (.goto k) s fun d => Frame (Issued s.dev k t) d [RegName.addr .csPc k] ∧
      d.reg .csPc k = BitVec.ofNat 32 (s.dev.seq k).npc) ∧
  (∀ (s : State) (k : Fin 576) (c n : Nat), Runs s → s.dev.nextInstr k = some (.loop c n) →
    Completes (.loop k) s fun d =>
      Frame (Issued s.dev k ((s.dev.seq k).npc + 1)) d [RegName.addr .csPc k, RegName.addr .csLoop k c] ∧
      d.reg .csLoop k c = BitVec.ofNat 32 n ∧ d.reg .csPc k = BitVec.ofNat 32 (s.dev.seq k).npc) ∧
  (∀ (s : State) (k : Fin 576) (c t : Nat), Runs s → s.dev.nextInstr k = some (.endl c t) →
    Completes (.endl k) s fun d =>
      Frame (Issued s.dev k (if 1 < s.dev.fld F.csLoopRemain k c then t else (s.dev.seq k).npc + 1)) d
        [RegName.addr .csPc k, RegName.addr .csLoop k c] ∧
      d.fld F.csLoopRemain k c = s.dev.fld F.csLoopRemain k c - 1 ∧ d.reg .csPc k = BitVec.ofNat 32 (s.dev.seq k).npc) ∧
  (∀ (s : State) (k : Fin 576) (pol : Bool) (t : Nat), Runs s → s.dev.nextInstr k = some (.jcond pol t) →
    (s.dev.seq k).cond = none →
    Completes (.jcond k) s fun d =>
      Frame (Issued s.dev k (if pol then (s.dev.seq k).npc + 1 else t)) d [RegName.addr .csPc k, RegName.addr .csStatus k] ∧
      d.flag F.csStatusCond k = false ∧ d.reg .csPc k = BitVec.ofNat 32 (s.dev.seq k).npc) ∧
  (∀ (s : State) (k : Fin 576) (pol v : Bool) (t : Nat) (c : Cond), Runs s → s.dev.nextInstr k = some (.jcond pol t) →
    (s.dev.seq k).cond = some c → c.v = some v →
    Completes (.jcond k) s fun d =>
      Frame (Issued s.dev k (if v = pol then t else (s.dev.seq k).npc + 1)) d [RegName.addr .csPc k] ∧
      d.reg .csPc k = BitVec.ofNat 32 (s.dev.seq k).npc) ∧
  (∀ (s : State) (k : Fin 576) (pol : Bool) (t : Nat) (c : Cond), Runs s → s.dev.nextInstr k = some (.jcond pol t) →
    (s.dev.seq k).cond = some c → s.dev.known c (c.tc.getD (s.dev.seq k).t) = false →
    Completes (.jcond k) s fun d => Frame s.dev d []) ∧
  (∀ (s : State) (k : Fin 576) (pol v : Bool) (t a : Nat) (c : Cond) (ws : List DecWord), Runs s →
    s.dev.nextInstr k = some (.jcond pol t) → (s.dev.seq k).cond = some c → c.v = none → c.tc = none →
    s.dev.known c (s.dev.seq k).t = true → c.judge (s.dev.seq k).t s.dev.cycle = (v, false, ws) →
    (∀ w ∈ ws, w.f = false ∧ w.rx = 0) → (∀ o ∈ (s.dev.seq k).old, o.ser ≠ c.ser) → (∀ x ∈ (s.dev.port k).voices, x.choice = none) →
    a = (if v = pol then t else (s.dev.seq k).npc + 1) → s.dev.fetchAt k a = some .nop →
    Completes (.jcond k) s fun d =>
      Frame { (Issued s.dev k (a + 1)).updSeq k fun q => { q with
          cond := some { c with tc := some q.t, uid := (q.blk.map Blk.uid).getD 0, v := some v } } with ports := d.ports } d
        [RegName.addr .csPc k, RegName.addr .csStatus k] ∧
      (∀ q, d.port q = s.dev.port q) ∧ d.flag F.csStatusCond k = v ∧ d.reg .csPc k = BitVec.ofNat 32 a) ∧
  (∀ (s : State) (k : Fin 576) (an : Bool) (n : Nat), Runs s → s.dev.nextInstr k = some (.wait an n) →
    (512 ≤ k.val → ∀ c ∈ (s.dev.input (k - 512)).caps, c.until_ ≤ (s.dev.seq k).t) →
    (∀ j : Fin 16, ∀ w ∈ (s.dev.lane (16 * (k - 512) + j)).wins, k.val < 512 ∨ w.w + w.span ≤ (s.dev.seq k).t) →
    Completes (.wait k) s fun d =>
      Frame { IssuedAdv s.dev k n true with
        offers := s.dev.offers ++ (if an = true ∧ 32000 ≤ n then
          [{ k := k, lo := (s.dev.seq k).t, hi := (s.dev.seq k).t + n
             next := 32 * (((s.dev.seq k).t + 1055) / 32), idle := false }] else []) } d [RegName.addr .csPc k] ∧
      d.reg .csPc k = BitVec.ofNat 32 (s.dev.seq k).npc) ∧
  (∀ (s : State) (k : Fin 576) (an : Bool) (n : Nat), Runs s → s.dev.nextInstr k = some (.wait an n) → 512 ≤ k.val →
    ((s.dev.input (k - 512)).caps.any (fun c => decide ((s.dev.seq k).t < c.until_)) = true ∨
      ∃ j ∈ List.range 16, ∃ w ∈ (s.dev.lane (16 * (k - 512) + j)).wins, (s.dev.seq k).t < w.w + w.span) →
    Completes (.wait k) s fun d => Frame (IssuedAdv s.dev k n true) d [RegName.addr .csPc k] ∧
      d.reg .csPc k = BitVec.ofNat 32 (s.dev.seq k).npc) ∧
  (∀ (s : State) (k : Fin 576) (lane mask : Nat) (dflt : Bool), Runs s → s.dev.nextInstr k = some (.armdLane lane mask dflt) →
    Completes (.armd k) s fun d =>
      Frame ((Issued s.dev k ((s.dev.seq k).npc + 1)).updSeq k fun q => { q with
        cond := some { ser := q.condSer + 1, gate := false, lanes := [(lane, mask, s.dev.heldWord lane q.t)], truth := 0, dflt := dflt
                       ta := q.t }
        old := q.old ++ q.cond.toList, condSer := q.condSer + 1 }) d [RegName.addr .csPc k]) ∧
  (∀ (s : State) (k : Fin 576) (g : Nat), Runs s → s.dev.nextInstr k = some (.armdGate g) →
    Completes (.armd k) s fun d =>
      Frame ((Issued s.dev k ((s.dev.seq k).npc + 1)).updSeq k fun q => { q with
        cond := some { ser := q.condSer + 1, gate := true
                       lanes := (s.dev.gateLanes k g).map fun x => (x.1, x.2, s.dev.heldWord x.1 q.t)
                       truth := s.dev.fld F.csGateCtrlTruth k g, dflt := s.dev.flag F.csGateCtrlDefault k g, ta := q.t }
        old := q.old ++ q.cond.toList, condSer := q.condSer + 1 }) d [RegName.addr .csPc k])

/-- BLOCK closes the open block at T, pins the segments it names, all resident, and presents its own block at T: LEADING, or
with EVENT PENDING on its channel; one that closes a block with an underrun and UPOL ends the issue instead; END closes the
open block at T and the run ends STOPPED there; YIELD without a deferred block does as END, and with one presents it again at
T; a deferral's block is presented again once its candidate lies within 8,192 samples of the issue index. Other sequencers
stand as before. -/
def Obligations.BlockInstructions : Prop :=
  (∀ (s : State) (k : Fin 576) (cls : Nat) (ess colo upol event : Bool) (ec id : Nat), Runs s →
    s.dev.nextInstr k = some (.block cls ess colo upol event ec id) → (s.dev.seq k).altOf = none →
    ((s.dev.seq k).blk.any fun b => b.underrun && b.upol) = false →
    (∀ x ∈ s.dev.namedSegs k (s.dev.seq k).npc, (s.dev.seg (k / 8) x.1).state = 3) →
    Completes (.block k) s fun d =>
      Frame { s.dev with seqs := d.seqs, formes := d.formes } d [RegName.addr .csPc k, RegName.addr .csStatus k] ∧
      OtherSeqs s.dev d k ∧ (∀ g, g ≠ k.val / 8 → d.forme g = s.dev.forme g) ∧
      (d.forme (k / 8)).pins = (s.dev.forme (k / 8)).pins ++ (s.dev.segsOf k (s.dev.seq k).npc).map (fun n => (n, k.val)) ∧
      d.fld F.csStatusState k = (if event then 1 else 3) ∧ (d.seq k).t = (s.dev.seq k).t ∧ (d.seq k).blk = none ∧
      (d.seq k).ending = (s.dev.seq k).ending ++ ((s.dev.seq k).blk.map fun b => { b with stop := some (s.dev.seq k).t }).toList ∧
      ((d.seq k).pres.map fun p => (p.addr, p.t0, p.ec, p.cycle)) = some ((s.dev.seq k).npc, (s.dev.seq k).t,
        (if event then some (if s.dev.ev.cut.contains (startKey k (s.dev.seq k).npc) then 256 else ec) else none), s.dev.cycle)) ∧
  (∀ (s : State) (k : Fin 576) (cls : Nat) (ess colo upol event : Bool) (ec id : Nat) (b : Blk), Runs s →
    s.dev.nextInstr k = some (.block cls ess colo upol event ec id) → (s.dev.seq k).altOf = none → (s.dev.seq k).blk = some b →
    b.underrun = true → b.upol = true →
    Completes (.block k) s fun d =>
      Frame ((Issued s.dev k ((s.dev.seq k).npc + 1)).updSeq k fun q => { q with
        blk := none, cond := none, old := q.old ++ q.cond.toList, ending := q.ending ++ [{ b with stop := some q.t }]
        issuing := false }) d [RegName.addr .csPc k]) ∧
  (∀ (s : State) (k : Fin 576) (b : Blk), Runs s → s.dev.nextInstr k = some .endB → (s.dev.seq k).blk = some b →
    (s.dev.seq k).altOf = none →
    Completes (.endBlock k) s fun d =>
      Frame ((Issued s.dev k ((s.dev.seq k).npc + 1)).updSeq k fun q => { q with
        blk := none, cond := none, old := q.old ++ q.cond.toList, ending := q.ending ++ [{ b with stop := some q.t }]
        final := some (q.t, 4) }) d [RegName.addr .csPc k]) ∧
  (∀ (s : State) (k : Fin 576) (b : Blk), Runs s → s.dev.nextInstr k = some .yieldB → (s.dev.seq k).blk = some b →
    (s.dev.seq k).altOf = none →
    Completes (.yieldBlock k) s fun d =>
      Frame ((Issued s.dev k ((s.dev.seq k).npc + 1)).updSeq k fun q => { q with
        blk := none, cond := none, old := q.old ++ q.cond.toList, ending := q.ending ++ [{ b with stop := some q.t }]
        final := some (q.t, 4) }) d [RegName.addr .csPc k]) ∧
  (∀ (s : State) (k : Fin 576) (b : Blk) (a : Nat), Runs s → s.dev.nextInstr k = some .yieldB → (s.dev.seq k).blk = some b →
    (s.dev.seq k).altOf = some a → (b.underrun && b.upol) = false → s.dev.inSpan k a = true →
    (∀ x ∈ s.dev.namedSegs k a, (s.dev.seg (k / 8) x.1).state = 3) →
    Completes (.yieldBlock k) s fun d =>
      Frame { s.dev with seqs := d.seqs } d [RegName.addr .csPc k, RegName.addr .csStatus k] ∧ OtherSeqs s.dev d k ∧
      d.fld F.csStatusState k = 3 ∧ (d.seq k).altOf = none ∧ (d.seq k).ending = (s.dev.seq k).ending ++ [{ b with stop := some (s.dev.seq k).t }] ∧
      ((d.seq k).pres.map fun p => (p.addr, p.t0, p.ec, p.again)) = some (a, (s.dev.seq k).t, none, true)) ∧
  (∀ (s : State) (k : Fin 576) (a : Nat), Runs s → (s.dev.seq k).represent = some a → (s.dev.seq k).final = none →
    (s.dev.seq k).t ≤ s.dev.issueIndex + 8192 → s.dev.inSpan k a = true →
    (∀ x ∈ s.dev.namedSegs k a, (s.dev.seg (k / 8) x.1).state = 3) →
    Completes (.blockRepresent k) s fun d =>
      Frame { s.dev with seqs := d.seqs } d [RegName.addr .csStatus k] ∧ OtherSeqs s.dev d k ∧ d.fld F.csStatusState k = 3 ∧
      (d.seq k).represent = none ∧
      ((d.seq k).pres.map fun p => (p.addr, p.t0, p.ec)) = some (a, (s.dev.seq k).t, none))

/-- At its start index an admitted block is charged to every enabled ledger and marked started, event 4 of its sequencer
carries its start, and LEADING becomes RUNNING. A pending jump takes effect at the first boundary more than 64 samples past its
request that issue can reach: later actions are withdrawn and the target is presented there. After an UNDERRUN in a block with
UPOL the run ends ABORTED at that block's end. -/
def Obligations.BlockLifecycle : Prop :=
  (∀ (s : State) (k : Fin 576) (b : Blk), Runs s → (s.dev.seq k).blk = some b → (s.dev.seq k).ending = [] → b.started = false →
    b.start < s.dev.ssi + 32 → (s.dev.seq k).pres = none → (s.dev.seq k).represent = none → s.dev.fld F.csStatusState k = 3 →
    Completes (.blockStart k) s fun d =>
      Frame { s.dev with seqs := d.seqs, leds := d.leds, ev := d.ev } d
        (RegName.addr .csStatus k :: RegName.addr .budStatus :: (List.range 18).map fun j => RegName.addr .budLstat j) ∧
      OtherSeqs s.dev d k ∧ d.seq k = { s.dev.seq k with blk := some { b with started := true } } ∧ d.fld F.csStatusState k = 2 ∧
      (⟨seqEvent k 4, b.start, false, []⟩ : Ev) ∈ d.ev.now ∧
      ∀ j : Fin 18, s.dev.flag F.budCfgEn j = true → 0 < b.vec.getD j 0 →
        (d.led j).h = min (2 ^ 64 - 1) ((s.dev.led j).h + b.vec.getD j 0) ∧ (d.led j).u = (s.dev.led j).u - b.vec.getD j 0) ∧
  (∀ (s : State) (k : Fin 576) (r tgt b : Nat), Runs s → k.val < 512 → (s.dev.seq k).jump = some (r, tgt, []) →
    (s.dev.seq k).bounds = [b] → r + 64 < b → s.dev.reach ≤ b → b ≤ s.dev.issueIndex + 8192 → (s.dev.seq k).blk = none →
    (s.dev.seq k).ending = [] → (s.dev.seq k).pres = none → (s.dev.seq k).represent = none → (s.dev.seq k).altOf = none →
    s.dev.offers = [] → s.dev.inSpan k tgt = true → s.dev.namedSegs k tgt = [] →
    Completes (.jumpTakeEffect k) s fun d =>
      Frame { s.dev with
        seqs := d.seqs, ports := d.ports, acts := s.dev.acts.filter fun a => a.owner != k.val || decide (a.index < b) } d
        [RegName.addr .csStatus k] ∧ OtherSeqs s.dev d k ∧ d.fld F.csStatusState k = 3 ∧ (d.seq k).jump = none ∧
      ((d.seq k).pres.map fun p => (p.addr, p.t0, p.ec)) = some (tgt, b, none) ∧
      (d.port k).voices = (s.dev.port k).voices.filter (fun v => decide (v.start < b)) ∧
      (∀ q, q ≠ k.val → sfind d.ports q = sfind s.dev.ports q)) ∧
  (∀ (s : State) (k : Fin 576) (b : Blk) (e : Nat), Runs s → k.val < 512 → (s.dev.seq k).ending = [b] → b.underrun = true →
    b.upol = true → b.stop = some e → b.start < e → (s.dev.seq k).final = none → s.dev.gangMates k = [] → s.dev.offers = [] →
    (s.dev.seq k).pres = none → (s.dev.seq k).represent = none → (s.dev.seq k).altOf = none → (s.dev.seq k).blk = none →
    Completes (.underrunAbort k) s fun d =>
      Frame { s.dev with
        seqs := d.seqs, ports := d.ports, acts := s.dev.acts.filter fun a => a.owner != k.val || decide (a.index < e) } d [] ∧
      OtherSeqs s.dev d k ∧ (d.seq k).final = some (e, 5) ∧ (d.seq k).issuing = false ∧ (d.seq k).ending = [b])

/-- SETF, SETP, SETPORT, STROBE and EMIT add their action at T, MARK its marker interval, and PLAY its play of a galley segment
or a stream ring, with T moved past it where ADV is set; CPLAY with a verdict in force plays SEGA or SEGB by it, with none SEGB
and COND clear. One that is not on time takes effect from the first reachable sample on, sets ISSUE_LATE and presents event 7
of its sequencer, and a late EMIT presents its event at once with LATE set. Nothing else changes. -/
def Obligations.OutputInstructions : Prop :=
  (∀ (s : State) (k : Fin 512) (c f : Nat), Runs s → s.dev.nextInstr k = some (.setf c f) →
    Completes (.setf k) s fun d =>
      Frame { Issued (s.dev.lateAt k (s.dev.seq k).t) k ((s.dev.seq k).npc + 1) with
        acts := s.dev.acts ++ [⟨max (s.dev.seq k).t s.dev.reach, (s.dev.seq k).t, k, .setf c f⟩] }
          d (s.dev.lateRegs k (s.dev.seq k).t) ∧
      d.flag F.csStatusIssueLate k = (s.dev.flag F.csStatusIssueLate k || decide ((s.dev.seq k).t < s.dev.reach))) ∧
  (∀ (s : State) (k : Fin 512) (c ph : Nat) (add : Bool), Runs s → s.dev.nextInstr k = some (.setp c add ph) →
    Completes (.setp k) s fun d =>
      Frame { Issued (s.dev.lateAt k (s.dev.seq k).t) k ((s.dev.seq k).npc + 1) with
        acts := s.dev.acts ++ [⟨max (s.dev.seq k).t s.dev.reach, (s.dev.seq k).t, k, .setp c add ph⟩] }
          d (s.dev.lateRegs k (s.dev.seq k).t) ∧
      d.flag F.csStatusIssueLate k = (s.dev.flag F.csStatusIssueLate k || decide ((s.dev.seq k).t < s.dev.reach))) ∧
  (∀ (s : State) (k : Fin 512) (kind v : Nat), Runs s → s.dev.nextInstr k = some (.setport kind v) →
    Completes (.setport k) s fun d =>
      Frame { Issued (s.dev.lateAt k (s.dev.seq k).t) k ((s.dev.seq k).npc + 1) with
        acts := s.dev.acts ++ [⟨max (s.dev.seq k).t s.dev.reach, (s.dev.seq k).t, k, .setport kind v⟩] }
          d (s.dev.lateRegs k (s.dev.seq k).t) ∧
      d.flag F.csStatusIssueLate k = (s.dev.flag F.csStatusIssueLate k || decide ((s.dev.seq k).t < s.dev.reach))) ∧
  (∀ (s : State) (k : Fin 512), Runs s → s.dev.nextInstr k = some .strobe →
    Completes (.strobe k) s fun d =>
      Frame { Issued (s.dev.lateAt k (s.dev.seq k).t) k ((s.dev.seq k).npc + 1) with
        acts := s.dev.acts ++ [⟨max (s.dev.seq k).t s.dev.reach, (s.dev.seq k).t, k, .strobe⟩] }
          d (s.dev.lateRegs k (s.dev.seq k).t) ∧
      d.flag F.csStatusIssueLate k = (s.dev.flag F.csStatusIssueLate k || decide ((s.dev.seq k).t < s.dev.reach))) ∧
  (∀ (s : State) (k : Fin 576) (o : Nat), Runs s → s.dev.nextInstr k = some (.emit o) → s.dev.reach ≤ (s.dev.seq k).t →
    Completes (.emit k) s fun d =>
      Frame { Issued s.dev k ((s.dev.seq k).npc + 1) with
        acts := s.dev.acts ++ [⟨(s.dev.seq k).t, (s.dev.seq k).t, k, .emit o⟩] } d [RegName.addr .csPc k]) ∧
  (∀ (s : State) (k : Fin 576) (o : Nat), Runs s → s.dev.nextInstr k = some (.emit o) → (s.dev.seq k).t < s.dev.reach →
    Completes (.emit k) s fun d =>
      Frame (Issued (s.dev.lateAt k (s.dev.seq k).t) k ((s.dev.seq k).npc + 1)) d (s.dev.lateRegs k (s.dev.seq k).t)
        [⟨seqEvent k o, (s.dev.seq k).t, true, []⟩] ∧
      d.flag F.csStatusIssueLate k = true) ∧
  (∀ (s : State) (k : Fin 512) (bit ofs n x : Nat), Runs s → s.dev.nextInstr k = some (.mark bit ofs n) → 0 < n →
    x = (s.dev.seq k).t + ofs → s.dev.reach < x + n →
    Completes (.mark k) s fun d =>
      Frame ((Issued (s.dev.lateAt k x) k ((s.dev.seq k).npc + 1)).updPort k fun p => { p with
        marks := p.marks ++ [(bit, max x s.dev.reach, x + n, x)] }) d (s.dev.lateRegs k x) ∧
      d.flag F.csStatusIssueLate k = (s.dev.flag F.csStatusIssueLate k || decide (x < s.dev.reach))) ∧
  (∀ (s : State) (k : Fin 512) (bit ofs n x : Nat), Runs s → s.dev.nextInstr k = some (.mark bit ofs n) →
    x = (s.dev.seq k).t + ofs → x + n ≤ s.dev.reach →
    Completes (.mark k) s fun d =>
      Frame (Issued (s.dev.lateAt k x) k ((s.dev.seq k).npc + 1)) d (s.dev.lateRegs k x) ∧
      d.flag F.csStatusIssueLate k = (s.dev.flag F.csStatusIssueLate k || decide (x < s.dev.reach))) ∧
  (∀ (s : State) (k : Fin 512) (adv : Bool) (voice sg gain : Nat), Runs s → s.dev.nextInstr k = some (.play adv voice sg gain) →
    Completes (.play k) s fun d =>
      Frame ((IssuedAdv (s.dev.lateAt k (s.dev.seq k).t) k (s.dev.seg (k / 8) sg).len adv).updPort k fun p => { p with
        voices := p.voices ++ [{ voice := voice, stream := false, seg := sg, start := (s.dev.seq k).t
                                 len := (s.dev.seg (k / 8) sg).len, reach := max (s.dev.seq k).t s.dev.reach,
                                   gain := toSigned 16 gain }] }) d (s.dev.lateRegs k (s.dev.seq k).t) ∧
      d.flag F.csStatusIssueLate k = (s.dev.flag F.csStatusIssueLate k || decide ((s.dev.seq k).t < s.dev.reach))) ∧
  (∀ (s : State) (k : Fin 512) (adv : Bool) (voice ring gain n : Nat), Runs s →
    s.dev.nextInstr k = some (.stream adv voice ring gain n) →
    Completes (.play k) s fun d =>
      Frame ((IssuedAdv (s.dev.lateAt k (s.dev.seq k).t) k (32 * n) adv).updPort k fun p => { p with
        voices := p.voices ++ [{ voice := voice, stream := true, seg := ring, start := (s.dev.seq k).t
                                 len := 32 * n, reach := max (s.dev.seq k).t s.dev.reach,
                                   gain := toSigned 16 gain }] }) d (s.dev.lateRegs k (s.dev.seq k).t) ∧
      d.flag F.csStatusIssueLate k = (s.dev.flag F.csStatusIssueLate k || decide ((s.dev.seq k).t < s.dev.reach))) ∧
  (∀ (s : State) (k : Fin 512) (adv : Bool) (voice a b gain : Nat), Runs s →
    s.dev.nextInstr k = some (.cplay adv voice a b gain) → (s.dev.seq k).cond = none →
    Completes (.cplay k) s fun d =>
      Frame ((IssuedAdv (s.dev.lateAt k (s.dev.seq k).t) k (s.dev.seg (k / 8) a).len adv).updPort k fun p => { p with
        voices := p.voices ++ [{ voice := voice, stream := false, seg := b, start := (s.dev.seq k).t
                                 len := (s.dev.seg (k / 8) b).len, reach := max (s.dev.seq k).t s.dev.reach,
                                   gain := toSigned 16 gain }] }) d
        [RegName.addr .csPc k, RegName.addr .csStatus k] ∧ d.flag F.csStatusCond k = false ∧
      d.flag F.csStatusIssueLate k = (s.dev.flag F.csStatusIssueLate k || decide ((s.dev.seq k).t < s.dev.reach))) ∧
  (∀ (s : State) (k : Fin 512) (adv v : Bool) (voice a b gain : Nat) (c : Cond), Runs s →
    s.dev.nextInstr k = some (.cplay adv voice a b gain) → (s.dev.seq k).cond = some c →
    c.v = some v → c.tc.isSome = true → (∀ w ∈ (s.dev.port k).voices, w.choice = none) →
    Completes (.cplay k) s fun d =>
      Frame ((IssuedAdv (s.dev.lateAt k (s.dev.seq k).t) k (s.dev.seg (k / 8) a).len adv).updPort k fun p => { p with
        voices := p.voices ++ [{ voice := voice, stream := false, seg := if v then a else b, start := (s.dev.seq k).t
                                 len := (s.dev.seg (k / 8) (if v then a else b)).len, reach := max (s.dev.seq k).t s.dev.reach
                                 gain := toSigned 16 gain }] }) d (s.dev.lateRegs k (s.dev.seq k).t) ∧
      d.flag F.csStatusIssueLate k = (s.dev.flag F.csStatusIssueLate k || decide ((s.dev.seq k).t < s.dev.reach)))

/-- SEG_LOAD of valid data writes header and data to the home lines, counts LOADSER, makes the segment RESIDENT with its sum of
squares, drops the unpinned RESIDENT segments it overlaps, and leaves every other galley byte. LIB_STORE enters a DRAM write of
each line of the image. SEG_BIND enters the read of the library header, its reply to follow; with the header the segment
becomes KNOWN with the largest SQ. SEG_FETCH queues a KNOWN segment, of an EMPTY one it is refused; SEG_FREE makes a segment
EMPTY; SEG_INFO answers its directory entry. -/
def Obligations.SegmentCommands : Prop :=
  (∀ (s : State) (c : Ctx) (f n home : Nat) (h : SegHead) (data : List Byte), Takes s c → s.dev.memWf = true → f < 64 → n < 4096 → h.kind ≤ 1 →
    data.length = h.m * sampleBytes h.kind → h.len % 32 = 0 → 64 ≤ h.len → h.len < 2 ^ 32 → h.rate ≤ 255 * 2 ^ 24 →
    h.m = envSamples h.len h.rate → home + segLines h.m h.kind ≤ s.dev.segArea f → s.dev.formeWritable f c.sess = true →
    s.dev.pinned f n = false → s.dev.pinnedOver f n home (segLines h.m h.kind) = false → n ∉ (s.dev.forme f).fetchq →
    Completes (.segLoad c f n home h data) s fun d =>
      Replies s.dev d c 0x0401 stOk 1 0 [] ∧ d.reg .ceAccepted = s.dev.reg .ceAccepted + 1 ∧
      Frame (({ s.dev with
        segs := d.segs, galley := d.galley, formes := d.formes, sramErrs := d.sramErrs } : Device).replied d) d
        [RegName.addr .ceAccepted, RegName.addr .galLoadser f] ∧
      d.reg .galLoadser f = s.dev.reg .galLoadser f + 1 ∧
      d.seg f n = { state := 3, home := home, lib := none, len := h.len, rate := h.rate, kind := h.kind, m := h.m
                    sq := sumSquares d.galley (galByte f (home + 1)) h, loadser := (d.reg .galLoadser f).toNat } ∧
      cellGets d.galley (galByte f home) 32 = headerBytes h n (d.seg f n).sq (d.reg .galLoadser f).toNat ∧
      cellGets d.galley (galByte f (home + 1)) data.length = data ∧
      (∀ a, (a < galByte f home ∨ galByte f (home + segLines h.m h.kind) ≤ a) → cellGet d.galley a = cellGet s.dev.galley a) ∧
      (∀ q, q ≠ 4096 * f + n → sfind d.segs q = (sfind s.dev.segs q).map fun e =>
        if q / 4096 = f ∧ e.state = 3 ∧ overlap home (segLines h.m h.kind) e.home (segLines e.m e.kind) = true ∧
          s.dev.pinned f (q % 4096) = false then dropSeg e else e) ∧
      ∀ g, d.forme g = s.dev.forme g) ∧
  (∀ (s : State) (c : Ctx) (line : Nat) (h : SegHead) (data : List Byte), Takes s c → h.kind ≤ 1 →
    data.length = h.m * sampleBytes h.kind → h.len % 32 = 0 → 64 ≤ h.len → h.len < 2 ^ 32 → h.rate ≤ 255 * 2 ^ 24 →
    h.m = envSamples h.len h.rate → line + segLines h.m h.kind ≤ dramLines → s.dev.flag F.memStatusFrozen = false →
    s.dev.mc.setclass = none →
    Completes (.libStore c line h data) s fun d =>
      Replies s.dev d c 0x0402 stOk 1 0 [] ∧
      Frame (({ s.dev with mc := d.mc } : Device).replied d) d [RegName.addr .ceAccepted] ∧
      d.mc = { s.dev.mc with seq := d.mc.seq, wait := d.mc.wait, q := d.mc.q, chans := d.mc.chans, merge := d.mc.merge } ∧
      ∀ j ∈ List.range (segLines h.m h.kind), ∃ r ∈ d.mc.q ++ d.mc.wait, r.write = true ∧ r.line = line + j ∧
        r.data = sliceB (headerBytes h 0 (sumSquares (cellPuts [] 0 (padLines data)) 0 h) 0 ++ padLines data) (32 * j) 32) ∧
  (∀ (s : State) (c : Ctx) (f n home line : Nat), Takes s c → f < 64 → n < 4096 → home < 32768 → line < dramLines →
    s.dev.formeWritable f c.sess = true → s.dev.pinned f n = false → s.dev.flag F.memStatusFrozen = false →
    s.dev.mc.setclass = none → (∀ e ∈ s.dev.mc.merge, e.line ≠ line) →
    Completes (.segBind c f n home line) s fun d =>
      d.eng.out.length = s.dev.eng.out.length + b2n c.ack ∧
      Frame { s.dev with mc := d.mc, eng := { s.dev.eng with out := d.eng.out } } d [RegName.addr .ceAccepted] ∧
      d.mc = { s.dev.mc with
        seq := d.mc.seq, wait := d.mc.wait, q := d.mc.q, nextId := s.dev.mc.nextId + 1
        host := s.dev.mc.host ++ [{ id := s.dev.mc.nextId, ctx := c, opcode := 0x0403, lines := [line], bind := some (f, n, home, line) }] } ∧
      ∃ r ∈ d.mc.q ++ d.mc.wait, r.write = false ∧ r.line = line ∧ r.req = 3 ∧ r.id = s.dev.mc.nextId) ∧
  (∀ (d : Device) (t f n home line : Nat) (b : List Byte) (h : SegHead), libHead b = h → f < 64 → n < 4096 → home < 32768 →
    line + segLines h.m h.kind ≤ dramLines → d.formeWritable f t = true → d.pinned f n = false → d.flag F.memStatusFrozen = false → d.mc.setclass = none →
    libFault b = none → d.homeOk f home h = true →
    let o := segBindWith t f n home line b d
    o.status = stOk ∧ o.st.seg f n = { state := 1, home := home, lib := some line, len := h.len, rate := h.rate, kind := h.kind
                                       m := h.m, sq := h.len * (if h.kind = 0 then 2147483648 else 1073741824) }) ∧
  (∀ (s : State) (c : Ctx) (f n : Nat), Takes s c → f < 64 → n < 4096 → s.dev.formeWritable f c.sess = true →
    (s.dev.seg f n).state = 1 →
    Answers (.segFetch c f n) c 0x0404 s []
      ((s.dev.putSeg f n { s.dev.seg f n with state := 2 }).putForme f
        { s.dev.forme f with fetchq := (s.dev.forme f).fetchq ++ [n] }) [] [] fun _ => True) ∧
  (∀ (s : State) (c : Ctx) (f n : Nat), Takes s c → f < 64 → n < 4096 → s.dev.formeWritable f c.sess = true →
    (s.dev.seg f n).state = 0 → Refuses (.segFetch c f n) c 0x0404 s stBadArg 2) ∧
  (∀ (s : State) (c : Ctx) (f n : Nat), Takes s c → f < 64 → n < 4096 → s.dev.formeWritable f c.sess = true →
    s.dev.pinned f n = false → n ∉ (s.dev.forme f).fetchq →
    Answers (.segFree c f n) c 0x0405 s [] ((s.dev.putForme f (s.dev.forme f)).putSeg f n {}) [] [] fun _ => True) ∧
  (∀ (s : State) (c : Ctx) (f n : Nat), Takes s c → f < 64 → n < 4096 →
    OnlyAnswers (.segInfo c f n) c 0x0406 s
      (leBytes 1 (s.dev.seg f n).state ++ leBytes 1 (s.dev.seg f n).kind ++ leBytes 2 n ++ leBytes 4 (s.dev.seg f n).home
        ++ leBytes 4 ((s.dev.seg f n).lib.getD 0) ++ leBytes 4 (s.dev.seg f n).len ++ leBytes 4 (s.dev.seg f n).rate
        ++ leBytes 4 (s.dev.seg f n).m ++ leBytes 8 (s.dev.seg f n).sq ++ leBytes 4 (s.dev.seg f n).loadser ++ zeros 12))

/-- The fetch at the head of a forme's queue only sets FETCH_WAIT while its home lines overlap another pinned segment, and
otherwise starts and enters a read of each of its library lines. With all its lines come it ends: LOADSER counts, the segment
is RESIDENT with its sum of squares, and event 4 of the galley is presented. A write of RING_BASE zeroes the lines whose class
changed and nothing else of the galley. -/
def Obligations.FetchesAndSplit : Prop :=
  (∀ (s : State) (f : Fin 64) (n : Nat) (rest : List Nat), Runs s → (s.dev.forme f).fetchq = n :: rest → (s.dev.forme f).busy = false →
    s.dev.flag F.memStatusFrozen = false →
    s.dev.rewriting ((s.dev.seg f n).lib.getD 0) (segLines (s.dev.seg f n).m (s.dev.seg f n).kind) = false →
    s.dev.pinnedOver f n (s.dev.seg f n).home (segLines (s.dev.seg f n).m (s.dev.seg f n).kind) = true →
    Completes (.fetchStart f) s fun d => Frame s.dev d [RegName.addr .galStatus f] ∧ d.flag F.galStatusFetchWait f = true) ∧
  (∀ (s : State) (f : Fin 64) (n lib : Nat) (rest : List Nat), Runs s → (s.dev.forme f).fetchq = n :: rest → (s.dev.forme f).busy = false →
    s.dev.flag F.memStatusFrozen = false → (s.dev.seg f n).lib = some lib →
    s.dev.rewriting lib (segLines (s.dev.seg f n).m (s.dev.seg f n).kind) = false →
    s.dev.pinnedOver f n (s.dev.seg f n).home (segLines (s.dev.seg f n).m (s.dev.seg f n).kind) = false →
    Completes (.fetchStart f) s fun d =>
      Frame { s.dev with formes := d.formes, segs := d.segs, mc := d.mc } d [] ∧
      d.forme f = { s.dev.forme f with busy := true, left := segLines (s.dev.seg f n).m (s.dev.seg f n).kind - 1 } ∧
      (∀ q, q ≠ f.val → sfind d.formes q = sfind s.dev.formes q) ∧
      (∀ q, q ≠ 4096 * f.val + n → sfind d.segs q = (sfind s.dev.segs q).map fun e =>
        if q / 4096 = f.val ∧ e.state = 3 ∧
          overlap (s.dev.seg f n).home (segLines (s.dev.seg f n).m (s.dev.seg f n).kind) e.home (segLines e.m e.kind) = true ∧
          s.dev.pinned f (q % 4096) = false then dropSeg e else e) ∧
      d.seg f n = s.dev.seg f n ∧
      d.mc = { s.dev.mc with seq := d.mc.seq, wait := d.mc.wait, q := d.mc.q, behind := d.mc.behind, merge := d.mc.merge } ∧
      ∀ j ∈ List.range (segLines (s.dev.seg f n).m (s.dev.seg f n).kind - 1), ∃ r ∈ d.mc.q ++ d.mc.wait ++ d.mc.behind,
        r.write = false ∧ r.req = 0 ∧ r.id = f.val ∧ r.line = lib + 1 + j) ∧
  (∀ (s : State) (f : Fin 64) (n : Nat) (rest : List Nat), Runs s → (s.dev.forme f).fetchq = n :: rest → (s.dev.forme f).busy = true →
    (s.dev.forme f).left = 0 → s.dev.flag F.memStatusFrozen = false →
    Completes (.fetchDone f) s fun d =>
      Frame { s.dev with formes := d.formes, segs := d.segs, galley := d.galley, sramErrs := d.sramErrs } d [RegName.addr .galLoadser f]
        [⟨evCode 5 f 4, s.dev.ssi, false, []⟩] ∧
      d.reg .galLoadser f = s.dev.reg .galLoadser f + 1 ∧
      d.forme f = { s.dev.forme f with fetchq := rest, busy := false } ∧
      (∀ q, q ≠ f.val → sfind d.formes q = sfind s.dev.formes q) ∧
      d.seg f n = { s.dev.seg f n with
        state := 3, sq := sumSquares d.galley (galByte f ((s.dev.seg f n).home + 1)) (s.dev.seg f n).head
        loadser := (d.reg .galLoadser f).toNat } ∧
      (∀ q, q ≠ 4096 * f.val + n → sfind d.segs q = (sfind s.dev.segs q).map fun e =>
        if q / 4096 = f.val ∧ e.state = 3 ∧ overlap (s.dev.seg f n).home 1 e.home (segLines e.m e.kind) = true ∧
          s.dev.pinned f (q % 4096) = false then dropSeg e else e) ∧
      ∀ a, (a < galByte f (s.dev.seg f n).home ∨ galByte f ((s.dev.seg f n).home + 1) ≤ a) → cellGet d.galley a = cellGet s.dev.galley a) ∧
  (∀ (s : State) (c : Ctx) (f : Fin 64) (v : Nat), Takes s c → bitsOf v 5 0 ≤ 32 → s.dev.formeWritable f c.sess = true →
    (∀ m : Fin 8, s.dev.seqQuiet (8 * f.val + m.val) = true) → (∀ n : Fin 16, s.dev.flag F.galRingEn f n = false) →
    Completes (.ringBaseWrite c f v) s fun d =>
      Replies s.dev d c 0x0202 stOk 1 0 [] ∧
      Frame (({ s.dev with segs := d.segs, galley := d.galley, sramErrs := d.sramErrs } : Device).replied d) d
        [RegName.addr .ceAccepted, RegName.addr .galCtrl f] ∧
      d.fld F.galCtrlRingBase f = bitsOf v 5 0 ∧
      (∀ q, sfind d.segs q = (sfind s.dev.segs q).map fun e =>
        if q / 4096 = f.val ∧ e.state = 3 ∧
          overlap (1024 * min (bitsOf v 5 0) (s.dev.fld F.galCtrlRingBase f))
            (1024 * max (bitsOf v 5 0) (s.dev.fld F.galCtrlRingBase f) - 1024 * min (bitsOf v 5 0) (s.dev.fld F.galCtrlRingBase f))
            e.home (segLines e.m e.kind) = true then dropSeg e else e) ∧
      ∀ a, cellGet d.galley a =
        if galByte f (1024 * min (bitsOf v 5 0) (s.dev.fld F.galCtrlRingBase f)) ≤ a ∧
          a < galByte f (1024 * max (bitsOf v 5 0) (s.dev.fld F.galCtrlRingBase f)) then 0 else cellGet s.dev.galley a) ∧
  (∀ (s : State) (c : Ctx) (f : Fin 64) (v : Nat), Takes s c → 32 < bitsOf v 5 0 → s.dev.formeWritable f c.sess = true →
    Refuses (.ringBaseWrite c f v) c 0x0202 s stBadArg 0)

/-- A write of a disabled ring's RATE or control word takes it, and one that sets EN zeroes RD and WR; of an enabled ring the
control word takes only a clear of EN. A refill packet whose tag fails counts against its session. Of one that verifies: for a
disabled ring, of a bad form, or from a session that may not write the forme, it sets DENY and changes nothing else but
notices; one that starts behind WR sets GAP; one that fits moves WR to its end and stores its lines that RD has not passed. -/
def Obligations.StreamRings : Prop :=
  (∀ (s : State) (c : Ctx) (f : Fin 64) (n : Fin 16) (v : Nat), Takes s c → s.dev.formeWritable f c.sess = true →
    s.dev.flag F.galRingEn f n = false → v ≤ 255 * 2 ^ 24 →
    Answers (.ringConfigWrite c f n 1 v) c 0x0202 s [] s.dev [RegName.addr .galRingRate f n] [] fun d =>
      d.reg .galRingRate f n = BitVec.ofNat 32 v) ∧
  (∀ (s : State) (c : Ctx) (f : Fin 64) (n : Fin 16) (v : Nat), Takes s c → s.dev.formeWritable f c.sess = true →
    s.dev.flag F.galRingEn f n = false → v < 2 ^ 32 → bitOf v 31 = true → bitsOf v 29 26 ≤ 9 → bitsOf v 25 22 ≤ 10 →
    bitsOf v 14 0 % (32 * 2 ^ bitsOf v 29 26) = 0 → s.dev.segArea f ≤ bitsOf v 14 0 →
    bitsOf v 14 0 + 32 * 2 ^ bitsOf v 29 26 ≤ 32768 →
    (∀ m : Fin 16, m ≠ n → s.dev.flag F.galRingEn f m = true →
      overlap (bitsOf v 14 0) (32 * 2 ^ bitsOf v 29 26) (s.dev.fld F.galRingBase f m) (s.dev.ringLines f m) = false) →
    Answers (.ringConfigWrite c f n 0 v) c 0x0202 s [] s.dev
      [RegName.addr .galRing f n, RegName.addr .galRingRd f n, RegName.addr .galRingWr f n] [] fun d =>
      d.reg .galRing f n = BitVec.ofNat 32 v &&& 0xFFC07FFF ∧ d.reg .galRingRd f n = 0 ∧ d.reg .galRingWr f n = 0) ∧
  (∀ (s : State) (c : Ctx) (f : Fin 64) (n : Fin 16) (v : Nat), Takes s c → s.dev.formeWritable f c.sess = true →
    s.dev.flag F.galRingEn f n = false → v < 2 ^ 32 → bitOf v 31 = false → bitsOf v 29 26 ≤ 9 → bitsOf v 25 22 ≤ 10 →
    bitsOf v 14 0 % (32 * 2 ^ bitsOf v 29 26) = 0 → s.dev.segArea f ≤ bitsOf v 14 0 →
    bitsOf v 14 0 + 32 * 2 ^ bitsOf v 29 26 ≤ 32768 →
    Answers (.ringConfigWrite c f n 0 v) c 0x0202 s [] s.dev [RegName.addr .galRing f n] [] fun d =>
      d.reg .galRing f n = BitVec.ofNat 32 v &&& 0xFFC07FFF) ∧
  (∀ (s : State) (c : Ctx) (f : Fin 64) (n : Fin 16) (v : Nat), Takes s c → s.dev.formeWritable f c.sess = true →
    s.dev.flag F.galRingEn f n = true → BitVec.ofNat 32 v &&& 0xFFC07FFF = s.dev.reg .galRing f n &&& 0x7FFFFFFF →
    s.dev.ringActive f n = false →
    Answers (.ringConfigWrite c f n 0 v) c 0x0202 s [] s.dev [RegName.addr .galRing f n] [] fun d =>
      d.flag F.galRingEn f n = false) ∧
  (∀ (s : State) (c : Ctx) (f : Fin 64) (n : Fin 16) (v : Nat), Takes s c → s.dev.formeWritable f c.sess = true →
    s.dev.flag F.galRingEn f n = true → BitVec.ofNat 32 v &&& 0xFFC07FFF ≠ s.dev.reg .galRing f n &&& 0x7FFFFFFF →
    Refuses (.ringConfigWrite c f n 0 v) c 0x0202 s stBusy 0) ∧
  (∀ (s : State) (r : RawPacket) (p : Refill) (x : Device) (c n : Nat), s.dev.live = true → n = fieldB r.header 2 1 % 8 →
    s.dev.tagCount r n = some c → x = countRx n 2 c s.dev → refillOf r.header (s.dev.plain r n (some c)) = p →
    (s.dev.flag F.galRingEn p.forme p.ring = false ∨ s.dev.formeWritable p.forme p.sess = false ∨ p.resvOk = false ∨ p.count = 0 ∨
      64 < p.count ∨ p.pos % 32 ≠ 0 ∨ p.data.length ≠ 32 * p.count) →
    Completes (.refillPacket r) s fun d =>
      NotesOnly x d ∧ Frame { x.noted d with ev := d.ev } d (RegName.addr .galRflag1 p.forme :: noticeRegs) ∧
      d.fld F.galRflag1Deny p.forme = s.dev.fld F.galRflag1Deny p.forme ||| 2 ^ p.ring % 2 ^ 16) ∧
  (∀ (s : State) (r : RawPacket) (p : Refill) (x : Device) (c n rd : Nat), s.dev.live = true → n = fieldB r.header 2 1 % 8 →
    s.dev.tagCount r n = some c → x = countRx n 2 c s.dev → refillOf r.header (s.dev.plain r n (some c)) = p → p.resvOk = true →
    s.dev.flag F.galRingEn p.forme p.ring = true → s.dev.formeWritable p.forme p.sess = true →
    1 ≤ p.count → p.count ≤ 64 → p.pos % 32 = 0 → p.data.length = 32 * p.count → p.pos = (s.dev.reg .galRingWr p.forme p.ring).toNat →
    rd = (s.dev.reg .galRingRd p.forme p.ring).toNat → rd ≤ p.pos → p.pos + 32 * p.count < 2 ^ 31 →
    p.pos + 32 * p.count ≤ rd + 32 * s.dev.ringLines p.forme p.ring →
    Completes (.refillPacket r) s fun d =>
      Frame { x with galley := d.galley, sramErrs := d.sramErrs } d
        ([RegName.addr .galRingWr p.forme p.ring] ++ (if p.ring < 4 then [RegName.addr .galLate01 p.forme (p.ring / 2)]
          else [RegName.addr .galLate27 p.forme (p.ring / 2 - 2)])) ∧
      d.reg .galRingWr p.forme p.ring = BitVec.ofNat 32 (p.pos + 32 * p.count) ∧
      d.galley = (List.range p.count).foldl (fun g q =>
        cellPuts g (s.dev.ringByte p.forme p.ring (p.pos + 32 * q)) (sliceB p.data (32 * q) 32)) s.dev.galley) ∧
  (∀ (s : State) (r : RawPacket) (n : Nat), s.dev.live = true → n = fieldB r.header 2 1 % 8 → s.dev.tagCount r n = none →
    (s.dev.session n).isOpen = true →
    Completes (.refillPacket r) s fun d =>
      Frame s.dev d [RegName.addr .secSessfail n] ∧ d.reg .secSessfail n = s.dev.reg .secSessfail n + 1)

/-- Writes of FREQ_HI and OFS_HI commit the carrier's word at the first sample of the current word; MARKER_CTRL_WRITE takes
SEL, INV and TRIM; OP_MODE_WRITE stages the setting, or is BUSY where it would raise P_FS while the channel runs; a strobe
counts, keeps its index, makes an enabled forme LIVE and puts the settings staged up to it in force; OUTPUT_ENABLE sets
ENABLED; MUTE_ALL clears ENABLED and LIVE and reaches each port at the first sample it can reach, where a safe interval starts
at a port not in MUTE; a safe interval that has run out ends. Nothing else changes. -/
def Obligations.OutputSettings : Prop :=
  (∀ (s : State) (c : Ctx) (f : Fin 64) (n : Fin 32) (v : Nat), Takes s c → v < 2 ^ 32 → s.dev.formeWritable f c.sess = true →
    Completes (.carrierFreqCommit c f n v) s fun d =>
      Replies s.dev d c 0x0202 stOk 1 0 [] ∧
      Frame (({ s.dev with formes := d.formes } : Device).replied d) d [RegName.addr .ceAccepted] ∧
      (∀ q, q ≠ f.val → sfind d.formes q = sfind s.dev.formes q) ∧
      ∃ a b, (s.dev.forme f).changes = a ++ b ∧ d.forme f = { s.dev.forme f with
        changes := a ++ [⟨s.dev.ssi, 0, 0, n, false, false, some (bitOf v 16), (s.dev.reg .fmCarFreqLo f n).toNat + 2 ^ 32 * bitsOf v 15 0⟩] ++ b }) ∧
  (∀ (s : State) (c : Ctx) (f : Fin 64) (n : Fin 32) (v : Nat), Takes s c → v < 2 ^ 32 → s.dev.formeWritable f c.sess = true →
    Completes (.carrierOfsCommit c f n v) s fun d =>
      Replies s.dev d c 0x0202 stOk 1 0 [] ∧
      Frame (({ s.dev with formes := d.formes } : Device).replied d) d [RegName.addr .ceAccepted] ∧
      (∀ q, q ≠ f.val → sfind d.formes q = sfind s.dev.formes q) ∧
      ∃ a b, (s.dev.forme f).changes = a ++ b ∧ d.forme f = { s.dev.forme f with
        changes := a ++ [⟨s.dev.ssi, 0, 0, n, true, false, none, (s.dev.reg .fmCarOfsLo f n).toNat + 2 ^ 32 * bitsOf v 15 0⟩] ++ b }) ∧
  (∀ (s : State) (c : Ctx) (f : Fin 64) (v : Nat), Takes s c → v < 2 ^ 32 → s.dev.formeWritable f c.sess = true →
    Answers (.markerCtrlWrite c f v) c 0x0202 s [] s.dev [RegName.addr .fmMkCtrl f] [] fun d =>
      d.fld F.fmMkCtrlSel f = bitsOf v 15 0 ∧ d.flag F.fmMkCtrlInv f = bitOf v 16 ∧ d.fld F.fmMkCtrlTrim f = bitsOf v 29 24) ∧
  (∀ (s : State) (c : Ctx) (p : Fin 512) (v : Nat), Takes s c → v < 2 ^ 32 → s.dev.seqWritable p c.sess = true →
    validMode (v &&& 0x333) = true → s.dev.offers = [] →
    (s.dev.seqQuiet p = true ∨ s.dev.pfsWith p (v &&& 0x333) ≤ s.dev.pfsPort p) →
    Answers (.opModeWrite c p v) c 0x0202 s []
      (s.dev.putPort p { s.dev.port p with staged := (s.dev.port p).staged ++ [⟨s.dev.ssi, 0, v &&& 0x333⟩] })
      [RegName.addr .opMode p] [] fun d => d.reg .opMode p = BitVec.ofNat 32 (v &&& 0x333)) ∧
  (∀ (s : State) (c : Ctx) (p : Fin 512) (v : Nat), Takes s c → v < 2 ^ 32 → s.dev.seqWritable p c.sess = true →
    validMode (v &&& 0x333) = true → s.dev.fld F.csStatusState p = 2 → s.dev.pfsPort p < s.dev.pfsWith p (v &&& 0x333) →
    Refuses (.opModeWrite c p v) c 0x0202 s stBusy 0) ∧
  (∀ (s : State) (c : Ctx) (f : Fin 64) (v : Nat) (on : Bool), Takes s c → s.dev.formeWritable f c.sess = true →
    (s.dev.fld F.fmStrobecnt f = 0 ∨ s.dev.reg64 .fmLaststrobeLo .fmLaststrobeHi f ≠ s.dev.ssi) →
    on = (s.dev.flag F.fmOutenLive f || s.dev.flag F.fmOutenEnabled f) →
    Completes (.formeStrobeWrite c f v) s fun d =>
      Replies s.dev d c 0x0202 stOk 1 0 [] ∧
      Frame (({ s.dev with ports := d.ports, struck := d.struck, offers := d.offers, cal := d.cal, ev := d.ev } : Device).replied d) d
        ([RegName.addr .ceAccepted, RegName.addr .fmStrobecnt f, RegName.addr .fmLaststrobeLo f, RegName.addr .fmLaststrobeHi f,
          RegName.addr .fmOuten f, RegName.addr .calStatus] ++ (List.range 8).map fun m => RegName.addr .opStatus (8 * f.val + m)) ∧
      d.ev.now.take (s.dev.ev.now.length + 1) = s.dev.ev.now ++ [⟨evCode 5 f 5, s.dev.ssi, false, []⟩] ∧
      f.val ∈ d.struck ∧ d.reg64 .fmLaststrobeLo .fmLaststrobeHi f = s.dev.ssi ∧ d.flag F.fmOutenLive f = on ∧
      d.reg .fmStrobecnt f = s.dev.reg .fmStrobecnt f + 1 ∧
      (∀ p ∈ (List.range 8).map (8 * f.val + ·), ∃ q, q = ((s.dev.port p).staged.filter fun g => decide (g.index ≤ s.dev.ssi)).foldl
          takeStaging (s.dev.port p) ∧
        { q with staged := (s.dev.port p).staged.filter (fun g => decide (s.dev.ssi < g.index)), muted := false
                 safe := (d.port p).safe, biasFrom := (d.port p).biasFrom } = d.port p ∧
        (effMode q.mode (s.dev.liveAt p s.dev.ssi || on) ≠
            effMode (s.dev.port p).mode (s.dev.liveAt p s.dev.ssi && !(s.dev.port p).muted) → (s.dev.port p).safe = none →
          ((d.port p).safe.map fun g => (g.start, g.stop)) = some (s.dev.ssi, s.dev.ssi + 768))) ∧
      (∀ p : Fin 512, p.val / 8 ≠ f.val → sfind d.ports p = sfind s.dev.ports p)) ∧
  (∀ (s : State) (c : Ctx) (mask : Nat), Takes s c → (∀ f ∈ bitsSet 64 mask, s.dev.formeWritable f c.sess = true) →
    Answers (.outputEnable c mask) c 0x0503 s [] s.dev ((bitsSet 64 mask).map fun f => RegName.addr .fmOuten f) [] fun d =>
      ∀ f ∈ bitsSet 64 mask, d.flag F.fmOutenEnabled f = true ∧ d.flag F.fmOutenLive f = s.dev.flag F.fmOutenLive f) ∧
  (∀ (s : State) (c : Ctx), Takes s c →
    Completes (.muteAll c) s fun d =>
      Replies s.dev d c 0x0F02 stOk 1 0 [] ∧
      Frame (({ s.dev with ports := d.ports, offers := d.offers, cal := d.cal, ev := d.ev } : Device).replied d) d
        (RegName.addr .ceAccepted :: RegName.addr .calStatus :: (List.range 64).map fun f => RegName.addr .fmOuten f) ∧
      (∀ f : Fin 64, d.flag F.fmOutenEnabled f = false ∧ d.flag F.fmOutenLive f = false) ∧
      ∀ p ∈ s.dev.ports.map Prod.fst, d.port p = { s.dev.port p with
        muteAt := some ((s.dev.port p).muteAt.getD (s.dev.reach, s.dev.flag F.fmOutenLive (p / 8))) }) ∧
  (∀ (d : Device) (n p : Nat) (q : Port) (l : Bool), sfind d.ports p = some q → q.muteAt = some (n, l) → q.safe = none →
    effMode q.mode (l && !q.muted) % 4 ≠ 0 →
    (muteReach n d).port p = { q with
      muteAt := none, muted := true, safe := some ⟨n, n + 768, effMode q.mode (l && !q.muted), false, true, 0, false⟩ }) ∧
  (∀ (s : State) (p : Fin 512) (g : Safe), Runs s → (s.dev.port p).safe = some g → g.stop ≤ s.dev.ssi →
    Completes (.safeIntervalEnd p) s fun d =>
      Frame (s.dev.putPort p { s.dev.port p with
        safe := none, biasFrom := if g.hold = true then g.stop else (s.dev.port p).biasFrom }) d [])

/-- IP_CTRL takes RANGE and CAPDEC, and is BUSY where RANGE would change inside a window or capture; CAP_EN takes with an area
in raw memory. WIN issued on time opens a window of its length on each of its tones, and CAPT a capture; where a WIN would
overlap a window, only ISSUE_LATE and its event follow. A word of converter codes of which some lie at full scale stands as the
word's samples, sets ADC_OVR with one event at the first, and marks CLIP in the windows and captures that contain one. At the
end of a capture whose samples are all in its buffer what is left is padded to a line, its header line follows, DRAM takes
lines in order as it has room, and CAP_WR moves past them. CAPTURE_END and DECIMATED_SAMPLE may bring the samples of the word,
which then stand and set ADC_OVR where one lies at full scale, and CAPTURE_END may bring errors, which the buffer's next word
takes. -/
def Obligations.InputsAndCaptures : Prop :=
  (∀ (s : State) (c : Ctx) (i : Fin 64) (v : Nat), Takes s c → v < 2 ^ 32 → s.dev.seqWritable (512 + i.val) c.sess = true →
    bitsOf v 6 4 ≤ 3 → (bitsOf v 1 0 = s.dev.fld F.ipCtrlRange i ∨ s.dev.inputOpen i s.dev.ssi = false) →
    (s.dev.offers.any fun o => o.k == 512 + i.val && o.idle) = false →
    Answers (.ipCtrlWrite c i v) c 0x0202 s [] s.dev [RegName.addr .ipCtrl i] [] fun d =>
      d.fld F.ipCtrlRange i = bitsOf v 1 0 ∧ d.fld F.ipCtrlCapdec i = bitsOf v 6 4) ∧
  (∀ (s : State) (c : Ctx) (i : Fin 64) (v : Nat), Takes s c → v < 2 ^ 32 → s.dev.seqWritable (512 + i.val) c.sess = true →
    bitsOf v 6 4 ≤ 3 → bitsOf v 1 0 ≠ s.dev.fld F.ipCtrlRange i → s.dev.inputOpen i s.dev.ssi = true →
    Refuses (.ipCtrlWrite c i v) c 0x0202 s stBusy 0) ∧
  (∀ (s : State) (c : Ctx) (i : Fin 64) (v : Nat), Takes s c → v < 2 ^ 32 → s.dev.seqWritable (512 + i.val) c.sess = true →
    (s.dev.offers.any fun o => o.k == 512 + i.val && o.idle) = false → sget 0 s.dev.hwNow (RegName.addr .ipCapCtrl i) = 0 →
    s.dev.linesIn (s.dev.reg .ipCapBase i).toNat (s.dev.reg .ipCapSize i).toNat (· == 2) = true →
    Answers (.capCtrlWrite c i v) c 0x0202 s [] s.dev [RegName.addr .ipCapCtrl i] [] fun d =>
      d.flag F.ipCapCtrlEn i = bitOf v 0 ∧ d.flag F.ipCapCtrlWrap i = bitOf v 1) ∧
  (∀ (s : State) (c : Ctx) (i : Fin 64) (v : Nat), Takes s c → v < 2 ^ 32 → s.dev.seqWritable (512 + i.val) c.sess = true →
    bitOf v 0 = true → s.dev.linesIn (s.dev.reg .ipCapBase i).toNat (s.dev.reg .ipCapSize i).toNat (· == 2) = false →
    Refuses (.capCtrlWrite c i v) c 0x0202 s stBadArg 0) ∧
  (∀ (s : State) (i : Fin 64) (xs : List Int) (n : Nat) (ns : List Nat), Runs s → sfind (s.dev.input i).words (s.dev.ssi / 32) = none →
    xs.length = 32 → (s.dev.offers.any fun o => o.k == 512 + i.val && o.cut.isSome) = false →
    ((List.range 32).filter fun j => xs.getD j 0 == 2047 || xs.getD j 0 == -2048).map (fun j => s.dev.ssi + j) = n :: ns →
    Completes (.adcOvr i xs) s fun d =>
      Frame { s.dev with inputs := d.inputs, lanes := d.lanes } d [RegName.addr .ipStatus i] [⟨ipEvent i 0, n, false, []⟩] ∧
      d.flag F.ipStatusAdcOvr i = true ∧
      d.input i = { s.dev.input i with
        words := sput (s.dev.input i).words (s.dev.ssi / 32) xs, ovr := n :: ns
        caps := (s.dev.input i).caps.map fun c => if (n :: ns).any c.openAt then { c with clip := true } else c } ∧
      (∀ q, q ≠ i.val → sfind d.inputs q = sfind s.dev.inputs q) ∧
      ∀ t : Fin 16, (d.lane (16 * i.val + t.val)).wins = (s.dev.lane (16 * i.val + t.val)).wins.map fun w =>
        if (n :: ns).any w.openAt then w.mark rfClip else w) ∧
  (∀ (s : State) (i : Fin 64) (adv : Bool) (tones n : Nat), Runs s → s.dev.nextInstr (512 + i.val) = some (.win adv tones n) →
    s.dev.reach ≤ (s.dev.seq (512 + i.val)).t → s.dev.windowClash i tones (s.dev.seq (512 + i.val)).t n = false →
    Completes (.win i) s fun d =>
      Frame { IssuedAdv s.dev (512 + i.val) (64 * n) adv with lanes := d.lanes } d [RegName.addr .csPc (512 + i.val)] ∧
      (∀ t ∈ bitsSet 16 tones, (d.lane (16 * i.val + t)).wins = insertWin
        { w := (s.dev.seq (512 + i.val)).t, len := n, late := (s.dev.seq (512 + i.val)).t
          serial := ((s.dev.seq (512 + i.val)).blk.map Blk.serial).getD 0, uid := ((s.dev.seq (512 + i.val)).blk.map Blk.uid).getD 0
          flags := 0 } (s.dev.lane (16 * i.val + t)).wins) ∧
      ∀ l : Fin 1024, (l.val / 16 ≠ i.val ∨ bitOf tones (l.val % 16) = false) → sfind d.lanes l = sfind s.dev.lanes l) ∧
  (∀ (s : State) (i : Fin 64) (adv : Bool) (tones n : Nat), Runs s → s.dev.nextInstr (512 + i.val) = some (.win adv tones n) →
    (s.dev.seq (512 + i.val)).t < s.dev.ssi + 32 → s.dev.windowClash i tones (s.dev.seq (512 + i.val)).t n = true →
    Completes (.win i) s fun d =>
      Frame (IssuedAdv s.dev (512 + i.val) (64 * n) adv) d [RegName.addr .csPc (512 + i.val), RegName.addr .csStatus (512 + i.val)]
        [⟨seqEvent (512 + i.val) 7, (s.dev.seq (512 + i.val)).t, false, []⟩] ∧ d.flag F.csStatusIssueLate (512 + i.val) = true) ∧
  (∀ (s : State) (i : Fin 64) (adv : Bool) (n : Nat), Runs s → s.dev.nextInstr (512 + i.val) = some (.capt adv n) →
    s.dev.reach ≤ (s.dev.seq (512 + i.val)).t → s.dev.captureClash i (s.dev.seq (512 + i.val)).t n = false →
    Completes (.capt i) s fun d =>
      Frame ((IssuedAdv s.dev (512 + i.val) (32 * n) adv).updInput i fun x => { x with
        caps := x.caps ++ [{ start := (s.dev.seq (512 + i.val)).t, len := n
                             serial := ((s.dev.seq (512 + i.val)).blk.map Blk.serial).getD 0
                             refused := !(s.dev.flag F.ipCapCtrlEn i), engine := none, late := (s.dev.seq (512 + i.val)).t }] }) d
        [RegName.addr .csPc (512 + i.val)]) ∧
  (∀ (s : State) (i : Fin 64) (xs : List Int) (k : Capture) (ls : List (Nat × List Byte × Nat)), Runs s → (s.dev.input i).caps = [k] →
    k.isOpen = true → k.ended = false → k.stop < s.dev.ssi + 32 → (sfind (s.dev.input i).words (s.dev.ssi / 32)).isSome = true →
    k.taken = k.stored → k.odd.length < 64 → k.trunc = false → k.meas = [] → s.dev.sramErrs = [] →
    (s.dev.inputs.all fun x => x.1 == i || x.2.held.isEmpty) = true →
    ls = (s.dev.input i).held
      ++ (if k.odd.isEmpty then [] else [(s.dev.capLine i k (1 + 3 * k.taken / 64), sliceB (joinHalves k.odd) 0 32, k.frees (3 * k.taken / 64))])
      ++ [(s.dev.capLine i k 0, k.header i k.lost.length, 0)] →
    Completes (.captureEnd i xs []) s fun d =>
      Frame { s.dev with inputs := d.inputs, mc := d.mc } d [RegName.addr .ipStatus i, RegName.addr .ipCapWr i] ∧
      d.flag F.ipStatusCapActive i = false ∧ d.reg .ipCapWr i = BitVec.ofNat 32 (s.dev.capNext i k) ∧
      (∀ q, q ≠ i.val → sfind d.inputs q = sfind s.dev.inputs q) ∧
      ∃ a b, ls = a ++ b ∧ d.input i = { s.dev.input i with
          caps := [{ k with ended := true }], held := b, fill := (d.input i).fill
          drained := ((s.dev.input i).drained + a.length) % 512 } ∧
        (∀ x ∈ a, ∃ r ∈ d.mc.q ++ d.mc.wait, r.write = true ∧ r.req = 1 ∧ r.line = x.1 ∧ r.data = sliceB x.2.1 0 32) ∧
        (b = [] ∨ d.writeRoom (b.headD (0, [], 0)).1 = false)) ∧
  (∀ (s : State) (i : Fin 64) (l : Fin 1024) (xs : List Int) (errs : List (Nat × Nat)), Runs s → l.val / 16 = i.val →
    sfind (s.dev.input i).words (s.dev.ssi / 32) = none → xs.length = 32 →
    (s.dev.offers.any fun o => o.k == 512 + i.val && o.cut.isSome) = false →
    (Completes (.captureEnd i xs errs) s fun d => sfind (d.input i).words (s.dev.ssi / 32) = some xs ∧
      ((xs.any fun x => x == 2047 || x == -2048) = true → d.flag F.ipStatusAdcOvr i = true)) ∧
    Completes (.decimatedSample l xs) s fun d => sfind (d.input i).words (s.dev.ssi / 32) = some xs ∧
      ((xs.any fun x => x == 2047 || x == -2048) = true → d.flag F.ipStatusAdcOvr i = true)) ∧
  (∀ (s : State) (i : Fin 64) (errs : List (Nat × Nat)), Runs s → errs ≠ [] → (s.dev.input i).current = none → (s.dev.input i).held = [] →
    Completes (.captureEnd i [] errs) s fun d =>
      Frame { s.dev with sramErrs := d.sramErrs, inputs := d.inputs } d [] ∧ d.input i = s.dev.input i ∧
      (∀ q, q ≠ i.val → sfind d.inputs q = sfind s.dev.inputs q) ∧
      d.sramErrsAt 6 i (s.dev.input i).drained = errNormal (s.dev.sramErrsAt 6 i (s.dev.input i).drained ++ errs))

/-- A decimated sample enters the buffer in its cycle and counts; clamped, it marks DDC_SAT. A program starts with its latched
KP, PS and pc, its accumulators clear. Each instruction does its own: NOP nothing, MAC accumulates a sample with a kernel tap
or KREG, SKIP discards one and counts, REP begins a repeat, SETKP and SETPS set KP and PS, ADD adds or subtracts a shifted
accumulator, CLR clears one, and END latches the result accumulator and frees the lane for the next step. Where END has not
come the finish step latches it with LAG. Nothing outside the lane changes but DDC_SAT. -/
def Obligations.DemodulationEngine : Prop :=
  (∀ (s : State) (l : Fin 1024) (w : Win) (k : Nat) (i q : Int) (clamp : Bool), Runs s →
    (s.dev.lane l).nextSample = some (w, k) → (∀ v ∈ (s.dev.lane l).wins, v.w = w.w → v = w) → s.dev.ssi ≤ w.entry k →
    w.entry k < s.dev.ssi + 32 → w.entry k / 8 ≤ (s.dev.lane l).step → w.ended = false →
    w.decimate k ((List.range w.dec).map fun j => s.dev.sampleAt (l / 16) (w.w + w.dec * k + j)) = (i, q, clamp) →
    Completes (.decimatedSample l []) s fun d =>
      Frame (s.dev.putLane l { (s.dev.lane l).putWin (if clamp then { w with k := k + 1 }.mark rfDdcSat else { w with k := k + 1 }) with
        buf := (s.dev.lane l).buf ++ [(w.w, k, i, q)] }) d [RegName.addr .ipStatus (l / 16)] ∧
      d.flag F.ipStatusDdcSat (l / 16) = (s.dev.flag F.ipStatusDdcSat (l / 16) || clamp)) ∧
  (∀ (s : State) (l : Fin 1024) (w : Win) (t : LaneSet), Runs s → (s.dev.lane l).current = some w → w.set = some t →
    (s.dev.lane l).run = false → (s.dev.lane l).free ≤ (s.dev.lane l).step → 0 < w.k → s.dev.ssi / 8 ≤ (s.dev.lane l).step →
    Completes (.demodProgramStart l) s fun d =>
      Frame (s.dev.putLane l { s.dev.lane l with
        run := true, rep := none, skip := 0, kp := t.kbase, ps := bitsOf t.ctrl 19 16, pc := bitsOf t.ctrl 31 24
        acc := [(0, 0, false), (0, 0, false), (0, 0, false), (0, 0, false)] }) d []) ∧
  (∀ (s : State) (l : Fin 1024) (w : Win) (t : LaneSet), Runs s → Engaged s.dev l w t → s.dev.nextD l (s.dev.lane l) = .nop →
    Completes (.demodNop l) s fun d => Frame (s.dev.putLane l (s.dev.lane l).nextPc.stepOn) d []) ∧
  (∀ (s : State) (l : Fin 1024) (w : Win) (t : LaneSet) (a : Nat) (conj ksrc : Bool) (i q ti tq : Int) (tap : Int × Int), Runs s →
    Engaged s.dev l w t → s.dev.nextD l (s.dev.lane l) = .mac a conj ksrc → w.used < w.n → w.used ∉ w.lost →
    (s.dev.lane l).buf.find? (fun b => b.1 == w.w && b.2.1 == w.used) = some (w.w, w.used, i, q) →
    tap = (if ksrc then (toSigned 16 (bitsOf t.kreg 15 0), toSigned 16 (bitsOf t.kreg 31 16)) else
      s.dev.tapAt (l / 16) (s.dev.lane l).kp) →
    (ti, tq) = (if conj then (i * tap.1 + q * tap.2, q * tap.1 - i * tap.2) else (i * tap.1 - q * tap.2, i * tap.2 + q * tap.1)) →
    Completes (.demodMac l) s fun d =>
      Frame (s.dev.putLane l (({ s.dev.lane l with
        buf := (s.dev.lane l).buf.filter fun b => !(b.1 == w.w && b.2.1 == w.used)
        acc := listSet (s.dev.lane l).acc a (accAdd ((s.dev.lane l).acc.getD a (0, 0, false)) (ti / 2 ^ (s.dev.lane l).ps)
          (tq / 2 ^ (s.dev.lane l).ps))
        kp := if ksrc then (s.dev.lane l).kp else advKp t (s.dev.lane l).kp }.nextPc.putWin { w with used := w.used + 1 }).stepOn)) d []) ∧
  (∀ (s : State) (l : Fin 1024) (w : Win) (t : LaneSet) (a : Nat) (conj ksrc : Bool), Runs s → Engaged s.dev l w t →
    s.dev.nextD l (s.dev.lane l) = .mac a conj ksrc → w.n ≤ w.used → (s.dev.lane l).acc.length = 4 → a < 4 →
    Completes (.demodMac l) s fun d =>
      Frame (s.dev.putLane l ({ s.dev.lane l with
        acc := listSet (s.dev.lane l).acc a (accAdd ((s.dev.lane l).acc.getD a (0, 0, false)) 0 0)
        kp := if ksrc then (s.dev.lane l).kp else advKp t (s.dev.lane l).kp }.nextPc.stepOn)) d []) ∧
  (∀ (s : State) (l : Fin 1024) (w : Win) (t : LaneSet) (advk : Bool) (n : Nat) (b : Nat × Nat × Int × Int), Runs s →
    Engaged s.dev l w t → s.dev.nextD l (s.dev.lane l) = .skip advk n → w.used < w.n → w.used ∉ w.lost →
    (s.dev.lane l).buf.find? (fun b => b.1 == w.w && b.2.1 == w.used) = some b → (s.dev.lane l).skip = 0 → 1 < n →
    Completes (.demodSkip l) s fun d =>
      Frame (s.dev.putLane l (({ s.dev.lane l with
        buf := (s.dev.lane l).buf.filter fun b => !(b.1 == w.w && b.2.1 == w.used), skip := n - 1
        kp := if advk then advKp t (s.dev.lane l).kp else (s.dev.lane l).kp }.putWin { w with used := w.used + 1 }).stepOn)) d []) ∧
  (∀ (s : State) (l : Fin 1024) (w : Win) (t : LaneSet) (len n : Nat), Runs s → Engaged s.dev l w t →
    s.dev.nextD l (s.dev.lane l) = .rep len n →
    Completes (.demodRep l) s fun d =>
      Frame (s.dev.putLane l { s.dev.lane l with pc := (s.dev.lane l).pc + 1, rep := some ((s.dev.lane l).pc + 1, len, n) }.stepOn) d []) ∧
  (∀ (s : State) (l : Fin 1024) (w : Win) (t : LaneSet) (tap : Nat), Runs s → Engaged s.dev l w t →
    s.dev.nextD l (s.dev.lane l) = .setkp tap →
    Completes (.demodSetkp l) s fun d => Frame (s.dev.putLane l { s.dev.lane l with kp := tap }.nextPc.stepOn) d []) ∧
  (∀ (s : State) (l : Fin 1024) (w : Win) (t : LaneSet) (ps : Nat), Runs s → Engaged s.dev l w t →
    s.dev.nextD l (s.dev.lane l) = .setps ps →
    Completes (.demodSetps l) s fun d => Frame (s.dev.putLane l { s.dev.lane l with ps := ps }.nextPc.stepOn) d []) ∧
  (∀ (s : State) (l : Fin 1024) (w : Win) (t : LaneSet) (a b sh : Nat) (sub : Bool) (i q : Int) (sat : Bool), Runs s →
    Engaged s.dev l w t → s.dev.nextD l (s.dev.lane l) = .add a b sub sh → (s.dev.lane l).acc.getD b (0, 0, false) = (i, q, sat) →
    Completes (.demodAdd l) s fun d =>
      Frame (s.dev.putLane l { s.dev.lane l with
        acc := listSet (s.dev.lane l).acc a (accAdd ((s.dev.lane l).acc.getD a (0, 0, false))
          (if sub then -(i / 2 ^ sh) else i / 2 ^ sh) (if sub then -(q / 2 ^ sh) else q / 2 ^ sh)) }.nextPc.stepOn) d []) ∧
  (∀ (s : State) (l : Fin 1024) (w : Win) (t : LaneSet) (a : Nat), Runs s → Engaged s.dev l w t →
    s.dev.nextD l (s.dev.lane l) = .clr a →
    Completes (.demodClr l) s fun d =>
      Frame (s.dev.putLane l { s.dev.lane l with acc := listSet (s.dev.lane l).acc a (0, 0, false) }.nextPc.stepOn) d []) ∧
  (∀ (s : State) (l : Fin 1024) (w : Win) (t : LaneSet), Runs s → Engaged s.dev l w t → s.dev.nextD l (s.dev.lane l) = .endP →
    Completes (.demodEnd l) s fun d =>
      Frame (s.dev.putLane l ({ s.dev.lane l with
        run := false, rep := none, skip := 0, free := (s.dev.lane l).step + 1
        buf := (s.dev.lane l).buf.filter fun b => b.1 != w.w }.putWin { w with
          ended := true, result := (s.dev.lane l).acc.getD (bitsOf t.ctrl 15 14) (0, 0, false) }).stepOn) d []) ∧
  (∀ (s : State) (l : Fin 1024) (w : Win) (t : LaneSet), Runs s → (s.dev.lane l).wins = [w] → w.set = some t → w.handed = false →
    w.ended = true → s.dev.ssi / 8 ≤ w.finish → w.finish < s.dev.ssi / 8 + 4 → w.k = w.n → 0 < w.n → (s.dev.lane l).step = w.finish →
    Completes (.finishStep l) s fun d =>
      Frame (s.dev.putLane l { s.dev.lane l with step := w.finish + 1, wins := [{ w with handed := true }] }) d []) ∧
  (∀ (s : State) (l : Fin 1024) (w : Win) (t : LaneSet), Runs s → (s.dev.lane l).wins = [w] → w.set = some t → w.handed = false →
    w.ended = false → s.dev.ssi / 8 ≤ w.finish → w.finish < s.dev.ssi / 8 + 4 → w.k = w.n → 0 < w.n → (s.dev.lane l).step = w.finish →
    (s.dev.lane l).run = true → stepInstr s.dev l (s.dev.lane l) w t = none → (s.dev.lane l).buf.length ≤ 16 →
    Completes (.finishStep l) s fun d =>
      Frame (s.dev.putLane l { s.dev.lane l with
        run := false, rep := none, skip := 0, free := w.finish + 1, step := w.finish + 1
        buf := (s.dev.lane l).buf.filter fun b => b.1 != w.w
        wins := [{ w with
          ended := true, handed := true, result := (s.dev.lane l).acc.getD (bitsOf t.ctrl 15 14) (0, 0, false)
          flags := orBit w.flags rfLag }] }) d [])

/-- The record mover takes the oldest record from the ring: to the spool as a DRAM write of its line with SPOOL_WR one on,
waiting with SPOOL_FULL where it is full, or on the link, encrypted, in a record packet of up to 64 for the record session,
waiting with NOSESS where that is closed; behind the packet's last record go its tag and what waited. KERN_LOAD writes taps and
KERN_READ answers them; DPROG_LOAD and a write of a DPROG word put demodulation words where the whole store then keeps R204,
and such a write is refused otherwise. -/
def Obligations.RecordsAndLoads : Prop :=
  (∀ (s : State) (i : Fin 64) (r : Record) (rest : List Record), Runs s → (s.dev.input i).ring = r :: rest →
    s.dev.packetPort i = none → s.dev.flag F.ipRecCtrlDest i = true → s.dev.spoolFull i = true →
    Completes (.recordMove i) s fun d => Frame s.dev d [RegName.addr .ipStatus i] ∧ d.flag F.ipStatusSpoolFull i = true) ∧
  (∀ (s : State) (i : Fin 64) (r : Record) (rest : List Record), Runs s → (s.dev.input i).ring = r :: rest →
    s.dev.packetPort i = none → s.dev.flag F.ipRecCtrlDest i = true → s.dev.spoolFull i = false →
    s.dev.flag F.memStatusFrozen = false → s.dev.sramErrs = [] →
    Completes (.recordMove i) s fun d =>
      Frame { s.dev.putInput i { s.dev.input i with
        ring := rest, gone := ((s.dev.input i).gone + 1) % 1024
        spool := sput (s.dev.input i).spool ((s.dev.reg .ipSpoolBase i).toNat + (s.dev.reg .ipSpoolWr i).toNat) r } with mc := d.mc } d
        [RegName.addr .ipSpoolWr i] ∧
      d.reg .ipSpoolWr i = BitVec.ofNat 32 (((s.dev.reg .ipSpoolWr i).toNat + 1) % (s.dev.reg .ipSpoolSize i).toNat) ∧
      d.mc = { s.dev.mc with seq := d.mc.seq, wait := d.mc.wait, q := d.mc.q, chans := d.mc.chans, merge := d.mc.merge } ∧
      ∃ w ∈ d.mc.q ++ d.mc.wait, w.write = true ∧ w.req = 2 ∧ w.id = i.val ∧
        w.line = (s.dev.reg .ipSpoolBase i).toNat + (s.dev.reg .ipSpoolWr i).toNat ∧ w.data = sliceB r.read 0 32) ∧
  (∀ (s : State) (i : Fin 64) (r : Record) (rest : List Record) (p : Nat), Runs s → (s.dev.input i).ring = r :: rest →
    (s.dev.packetPort i = some p ∨ s.dev.packetPort i = none ∧ s.dev.flag F.ipRecCtrlDest i = false ∧ s.dev.fld F.ipRecCtrlPort i = p) →
    ((s.dev.session (s.dev.recSession i)).isOpen && (s.dev.session (s.dev.recSession i)).via == p) = false →
    Completes (.recordMove i) s fun d => Frame s.dev d [RegName.addr .ipStatus i] ∧ d.flag F.ipStatusNosess i = true) ∧
  (∀ (s : State) (i : Fin 64) (r : Record) (rest : List Record) (p n : Nat) (x : Session), Runs s → (s.dev.input i).ring = r :: rest →
    s.dev.packetPort i = none → s.dev.flag F.ipRecCtrlDest i = false → s.dev.fld F.ipRecCtrlPort i = p →
    s.dev.flag F.lkPctlRole p = false → s.dev.fld F.lkPstatLstate p = 3 → s.dev.session (s.dev.recSession i) = x →
    x.isOpen = true → x.via = p → ((s.dev.link p).out.filter fun f => f.vc == 3).length < (s.dev.link p).cred.getD 2 0 →
    (s.dev.link p).packet = none → s.dev.sramErrs = [] → n = min 64 (rest.length + 1) →
    Completes (.recordMove i) s fun d =>
      Frame { s.dev.putInput i { s.dev.input i with ring := rest, gone := ((s.dev.input i).gone + 1) % 1024 } with
        links := d.links, bulkSeq := d.bulkSeq, sess := (countTx (s.dev.recSession i) 3 s.dev).sess } d [] ∧
      (d.link p).out.take ((s.dev.link p).out.length + 2) = (s.dev.link p).out
        ++ [mkFrame 3 true false (s.dev.bulkHeader (s.dev.recSession i) 1 i n (sget 0 s.dev.bulkSeq p) 0),
            mkFrame 3 false false (counterMode (x.key 1) (x.iv 1 3 (x.next 3)) 0 r.read)] ∧
      (d.link p).packet.map (fun k => (k.input, k.left)) = (if n = 1 then none else some (i.val, n - 1)) ∧
      ∀ q, q ≠ p → sfind d.links q = sfind s.dev.links q) ∧
  (∀ (s : State) (i : Fin 64) (r : Record) (rest : List Record) (p : Nat) (k : Streamed) (ct : List Byte), Runs s →
    (s.dev.input i).ring = r :: rest → s.dev.packetPort i = some p → s.dev.flag F.lkPctlRole p = false →
    s.dev.fld F.lkPstatLstate p = 3 → (s.dev.session (s.dev.recSession i)).isOpen = true →
    (s.dev.session (s.dev.recSession i)).via = p →
    ((s.dev.link p).out.filter fun f => f.vc == 3).length < (s.dev.link p).cred.getD 2 0 →
    (s.dev.link p).packet = some k → s.dev.sramErrs = [] → ct = counterMode k.key k.iv (k.sent.length / 16) r.read →
    Completes (.recordMove i) s fun d =>
      Frame { s.dev.putInput i { s.dev.input i with ring := rest, gone := ((s.dev.input i).gone + 1) % 1024 } with
        links := sput s.dev.links p (if k.left ≤ 1 then { s.dev.link p with
            packet := none, after := []
            out := (s.dev.link p).out ++ [mkFrame 3 false false ct,
              mkFrame 3 false true (sliceB (gcmTag k.key k.iv k.header (k.sent ++ ct)) 0 32)] ++ (s.dev.link p).after }
          else { s.dev.link p with
            packet := some { k with left := k.left - 1, sent := k.sent ++ ct }
            out := (s.dev.link p).out ++ [mkFrame 3 false false ct] }) } d []) ∧
  (∀ (s : State) (c : Ctx) (i first : Nat) (taps : List (Int × Int)), Takes s c → i < 64 → taps ≠ [] → first + taps.length ≤ 32768 →
    s.dev.seqWritable (512 + i) c.sess = true →
    (∀ l : Fin 16, ∀ w ∈ s.dev.openWins (16 * i + l.val), meets first taps.length (w.set.getD (s.dev.laneSet (16 * i + l.val))).kbase
      (w.set.getD (s.dev.laneSet (16 * i + l.val))).klen = false) →
    Alters (.kernLoad c i first taps) c 0x0601 s (fun d => { sramStored 3 i first taps.length 8 s.dev with kernels := d.kernels }) [] fun d =>
      (∀ j ∈ List.range taps.length, sget (0 : Word) d.kernels (32768 * i + first + j) =
        BitVec.ofNat 32 (ofSigned 16 (taps.getD j (0, 0)).1 + 65536 * ofSigned 16 (taps.getD j (0, 0)).2)) ∧
      ∀ a, (a < 32768 * i + first ∨ 32768 * i + first + taps.length ≤ a) → sfind d.kernels a = sfind s.dev.kernels a) ∧
  (∀ (s : State) (c : Ctx) (i first n : Nat), Takes s c → i < 64 → 1 ≤ n → first + n ≤ 32768 →
    s.dev.seqReadable (512 + i) c.sess = true →
    OnlyAnswers (.kernRead c i first n) c 0x0603 s
      ((List.range n).flatMap fun j => leBytes 4 (sget (0 : Word) s.dev.kernels (32768 * i + first + j)).toNat)) ∧
  (∀ (s : State) (c : Ctx) (i first : Nat) (ws : List Nat), Takes s c → i < 64 → ws ≠ [] → first + ws.length ≤ 256 →
    (∀ w ∈ ws, w < 2 ^ 32) → s.dev.seqWritable (512 + i) c.sess = true → (∀ l : Fin 16, s.dev.openWins (16 * i + l.val) = []) →
    dprogFault (dprogWith s.dev i first ws) = none →
    Answers (.dprogLoad c i first ws) c 0x0602 s [] (sramStored 4 i first ws.length 8 s.dev) ((List.range ws.length).map fun j => RegName.addr .ipDprog i (first + j)) []
      fun d => ∀ j ∈ List.range ws.length, d.reg .ipDprog i (first + j) = BitVec.ofNat 32 (ws.getD j 0)) ∧
  (∀ (s : State) (c : Ctx) (i : Fin 64) (a : Fin 256) (v : Nat), Takes s c → v < 2 ^ 32 → (s.dev.offers.any fun o => o.k == 512 + i.val && o.idle) = false →
    s.dev.seqWritable (512 + i.val) c.sess = true → (∀ l : Fin 16, s.dev.openWins (16 * i.val + l.val) = []) →
    dprogFault (dprogWith s.dev i a [v]) = none →
    Answers (.dprogRegWrite c i a v) c 0x0202 s [] (sramStored 4 i a 1 8 s.dev) [RegName.addr .ipDprog i a] [] fun d => d.reg .ipDprog i a = BitVec.ofNat 32 v) ∧
  (∀ (s : State) (c : Ctx) (i : Fin 64) (a : Fin 256) (v x : Nat), Takes s c → v < 2 ^ 32 →
    s.dev.seqWritable (512 + i.val) c.sess = true → (∀ l : Fin 16, s.dev.openWins (16 * i.val + l.val) = []) →
    dprogFault (dprogWith s.dev i a [v]) = some x →
    Refuses (.dprogRegWrite c i a v) c 0x0202 s stBadArg (x - a))

/-- In a reserved slot of an up port the oldest queued VC1 block, else a timing block, is sent under the port's keys, kept and
owed its tag; a skipped or unused slot only counts. A decision frame outside its window of indices is dropped and counted. In
it, its word arrives at the remote position of an accepted slot, on time with its due index, else with a late one, counted and
flagged; each up port that an entry names gets the frame with HOPS one up; HOPS 3 is counted and goes nowhere; and one neither
delivered nor forwarded is counted. While a port is down each slot accepted on it receives UNDECIDED. Nothing else changes. -/
def Obligations.DecisionWords : Prop :=
  (∀ (s : State) (p : Fin 8) (v b ct : Nat) (t : List Nat), Runs s → s.dev.portUp p = true → s.dev.slotV p = v →
    (s.dev.flag F.lkPstatSkip p && s.dev.fld F.lkPstatSkiplane p == v % 8) = false → (s.dev.link p).vq = b :: t → bitsOf b 63 60 ≠ 3 →
    ct = b ^^^ vc1Stream (s.dev.link p).txKeys v →
    Completes (.vc1BlockSend p) s fun d => Frame ((s.dev.putLink p { s.dev.link p with
      vq := t, kept := (s.dev.link p).kept.filter (fun k => decide (v < k.1 + 256)) ++ [(v, b)]
      owed := (s.dev.link p).owed ++ [(v, vc1Tag (s.dev.link p).txKeys v ct)], slot := v + 1 }).updSport p fun y => { y with
        tx := sput y.tx (16 * v + v % 8) (1, flipBits 64 ct) }) d []) ∧
  (∀ (s : State) (p : Fin 8) (v b ct : Nat) (t : List Nat), Runs s → s.dev.portUp p = true → s.dev.slotV p = v →
    (s.dev.flag F.lkPstatSkip p && s.dev.fld F.lkPstatSkiplane p == v % 8) = false → (s.dev.link p).vq = [] →
    (s.dev.link p).tq = b :: t → 2 ≤ bitsOf b 59 58 → ct = b ^^^ vc1Stream (s.dev.link p).txKeys v →
    Completes (.vc1BlockSend p) s fun d => Frame ((s.dev.putLink p { s.dev.link p with
      tq := t, kept := (s.dev.link p).kept.filter (fun k => decide (v < k.1 + 256)) ++ [(v, b)]
      owed := (s.dev.link p).owed ++ [(v, vc1Tag (s.dev.link p).txKeys v ct)], slot := v + 1 }).updSport p fun y => { y with
        tx := sput y.tx (16 * v + v % 8) (1, flipBits 64 ct) }) d []) ∧
  (∀ (s : State) (p : Fin 8) (v : Nat), Runs s → s.dev.portUp p = true → s.dev.slotV p = v →
    (s.dev.flag F.lkPstatSkip p = true ∧ s.dev.fld F.lkPstatSkiplane p = v % 8 ∨ (s.dev.link p).vq = [] ∧ (s.dev.link p).tq = []) →
    Completes (.vc1BlockSend p) s fun d => Frame (s.dev.putLink p { s.dev.link p with slot := v + 1 }) d []) ∧
  (∀ (s : State) (p : Fin 8) (b m : Vc1Block) (x : Int), Runs s → s.dev.portUp p = true → s.dev.decrypted p b = m →
    Vc1Block.good m = true → Vc1Block.type m = 1 → x = nearIndex (bitsOf m.bits 46 16) s.dev.issueIndex 31 →
    (x < (s.dev.issueIndex : Int) - 1048576 ∨ (s.dev.issueIndex : Int) + 131072 < x) →
    Completes (.decisionFrameRx p b) s fun d =>
      Frame (s.dev.putLink p { s.dev.link p with
        acted := (s.dev.link p).acted ++ [(b.v, s.dev.ssi, 0, vc1Tag (s.dev.link p).rxKeys b.v b.bits)] }) d
        [RegName.addr .dfStatus, RegName.addr .dfRxdrop] ∧
      d.flag F.dfStatusStale = true ∧ d.reg .dfRxdrop = s.dev.reg .dfRxdrop + 1) ∧
  (∀ (s : State) (p : Fin 8) (b m : Vc1Block) (c x a : Nat) (w : DecWord), Runs s → s.dev.portUp p = true → s.dev.decrypted p b = m →
    Vc1Block.good m = true → Vc1Block.type m = 1 → c = bitsOf m.bits 54 47 → nearIndex (bitsOf m.bits 46 16) s.dev.issueIndex 31 = (x : Int) →
    s.dev.issueIndex ≤ x + 1048576 → x ≤ s.dev.issueIndex + 131072 → a = s.dev.issueIndex + 128 →
    (s.dev.fwdOut c p).1 = false → bitsOf m.bits 59 58 ≠ 3 → s.dev.flag F.dfXinEn 0 c = true → s.dev.fld F.dfXinPort 0 c = p →
    w = { a := max x a, state := bitsOf m.bits 57 56, f := bitOf m.bits 55 || decide (x < a), reach := s.dev.cycle + 2
          rx := s.dev.rxNext } →
    Completes (.decisionFrameRx p b) s fun d =>
      Frame { s.dev.putLink p { s.dev.link p with
          acted := (s.dev.link p).acted ++ [(b.v, s.dev.ssi, s.dev.rxNext, vc1Tag (s.dev.link p).rxKeys b.v b.bits)] } with
        words := sput s.dev.words (1024 + c) ((sget [] s.dev.words (1024 + c) ++ [w]).drop ((sget [] s.dev.words (1024 + c)).length - 3))
        placed := s.dev.placed ++ [(1024 + c, bitsOf m.bits 57 56)]
        seqs := s.dev.seqs.map fun k => (k.1, { k.2 with
          cond := k.2.cond.map fun z => z.offer (1024 + c) w, old := k.2.old.map fun z => z.offer (1024 + c) w })
        rx := s.dev.rx ++ [{ id := s.dev.rxNext, ch := c, port := p, d := x, fwd := [], suspect := true, uses := [] }]
        rxNext := s.dev.rxNext + 1
        ev := if x < a then { s.dev.ev with later := s.dev.ev.later ++ [⟨evCode 0 2 0, a, false, []⟩] } else s.dev.ev } d
        (RegName.addr .dfWord 0 (1024 + c) :: if x < a then [RegName.addr .dfLatecnt, RegName.addr .dfStatus] else []) ∧
      d.reg .dfWord 0 (1024 + c) = BitVec.ofNat 32 (8 * b2n w.f + 4 + w.state) ∧
      (x < a → d.reg .dfLatecnt = s.dev.reg .dfLatecnt + 1 ∧ d.flag F.dfStatusLateRx = true)) ∧
  (∀ (s : State) (p : Fin 8) (b m : Vc1Block) (c h : Nat) (x : Int) (out : List Nat), Runs s → s.dev.portUp p = true →
    s.dev.decrypted p b = m → Vc1Block.good m = true → Vc1Block.type m = 1 → c = bitsOf m.bits 54 47 → h = bitsOf m.bits 59 58 →
    x = nearIndex (bitsOf m.bits 46 16) s.dev.issueIndex 31 → (s.dev.issueIndex : Int) - 1048576 ≤ x →
    x ≤ (s.dev.issueIndex : Int) + 131072 → s.dev.fwdOut c p = (true, out) → h < 3 →
    (∀ r ∈ out, s.dev.portUp r = true ∧ (s.dev.link r).vq.length < 64) →
    (s.dev.flag F.dfXinEn 0 c && s.dev.fld F.dfXinPort 0 c == p.val) = false →
    Completes (.decisionFrameRx p b) s fun d =>
      Frame { s.dev with
        links := d.links, rxNext := s.dev.rxNext + 1
        rx := s.dev.rx ++ [{ id := s.dev.rxNext, ch := c, port := p, d := x.toNat, fwd := out, suspect := true, uses := [] }] } d [] ∧
      d.link p = { s.dev.link p with
        acted := (s.dev.link p).acted ++ [(b.v, s.dev.ssi, s.dev.rxNext, vc1Tag (s.dev.link p).rxKeys b.v b.bits)] } ∧
      (∀ r ∈ out, d.link r = { s.dev.link r with
        vq := (s.dev.link r).vq ++ [decisionFrame (h + 1) (bitsOf m.bits 57 56) (bitOf m.bits 55) c (bitsOf m.bits 46 16)] }) ∧
      ∀ q, q ∉ p.val :: out → sfind d.links q = sfind s.dev.links q) ∧
  (∀ (s : State) (p : Fin 8) (b m : Vc1Block) (c : Nat) (x : Int), Runs s → s.dev.portUp p = true →
    s.dev.decrypted p b = m → Vc1Block.good m = true → Vc1Block.type m = 1 → c = bitsOf m.bits 54 47 →
    x = nearIndex (bitsOf m.bits 46 16) s.dev.issueIndex 31 → (s.dev.issueIndex : Int) - 1048576 ≤ x →
    x ≤ (s.dev.issueIndex : Int) + 131072 → (∀ r ∈ (s.dev.fwdOut c p).2, s.dev.portUp r = true) →
    (s.dev.flag F.dfXinEn 0 c && s.dev.fld F.dfXinPort 0 c == p.val) = false → (bitsOf m.bits 59 58 = 3) = (s.dev.fwdOut c p).1 →
    Completes (.decisionFrameRx p b) s fun d =>
      Frame { s.dev.putLink p { s.dev.link p with
          acted := (s.dev.link p).acted ++ [(b.v, s.dev.ssi, s.dev.rxNext, vc1Tag (s.dev.link p).rxKeys b.v b.bits)] } with
        rxNext := s.dev.rxNext + 1
        rx := s.dev.rx ++ [{ id := s.dev.rxNext, ch := c, port := p, d := x.toNat, fwd := [], suspect := true, uses := [] }] } d
        [RegName.addr .dfStatus, RegName.addr .dfRxdrop] ∧
      d.reg .dfRxdrop = s.dev.reg .dfRxdrop + 1 ∧
      d.flag (if bitsOf m.bits 59 58 = 3 then F.dfStatusHoplimit else F.dfStatusUnrouted) = true) ∧
  (∀ (s : State) (p : Fin 8), Runs s → s.dev.portUp p = false →
    Completes (.syntheticUndecidedWord p) s fun d =>
      Frame { s.dev with
        words := d.words, seqs := d.seqs, placed := s.dev.placed ++ (s.dev.slotsBare p).map fun c => (1024 + c, 3) } d
        ((s.dev.slotsBare p).map fun c => RegName.addr .dfWord 0 (1024 + c)) ∧
      OnlyLatched s.dev d ∧ (∀ q, (∀ c ∈ s.dev.slotsBare p, q ≠ 1024 + c) → sfind d.words q = sfind s.dev.words q) ∧
      ∀ c ∈ s.dev.slotsBare p, d.reg .dfWord 0 (1024 + c) = 7 ∧ (sget [] d.words (1024 + c)).getLast? =
        some { a := s.dev.issueIndex + 64, state := 3, f := false, reach := s.dev.cycle })

/-- A tag that verifies ends the wait for its block and the suspicion of its word. A tag that fails, or one that has not come
within 8,192 samples, halts the link: TAG_FAIL counts, CAUSE says so, the frames held are lost, and the words suspect on the
port, where there are any, become tainted. A revoke frame taints the words of its channel from its index on, counts once and
presents its event; where it names none, nothing but the frame's receipt remains. -/
def Obligations.TagsAndTaint : Prop :=
  (∀ (s : State) (p : Fin 8) (v t : Nat), Runs s → s.dev.isPeer p = true → s.dev.fld F.lkPstatLstate p ≠ 4 →
    (∀ a ∈ (s.dev.link p).acted, a.1 % 2 ^ 32 = v → a.2.2.2 = t) →
    Completes (.vc1TagFrameRx p ⟨[(v, t)]⟩) s fun d =>
      Frame { s.dev.putLink p { s.dev.link p with acted := (s.dev.link p).acted.filter fun a => a.1 % 2 ^ 32 != v } with
        rx := s.dev.rx.map fun r => if ((s.dev.link p).acted.any fun a => a.1 % 2 ^ 32 == v && a.2.2.1 == r.id) then
          { r with suspect := false } else r } d []) ∧
  (∀ (s : State) (p : Fin 8) (v t : Nat), Runs s → s.dev.isPeer p = true → s.dev.linkOpen p = true → s.dev.suspects p = [] →
    (∃ a ∈ (s.dev.link p).acted, a.1 % 2 ^ 32 = v ∧ a.2.2.2 ≠ t) →
    Completes (.vc1TagFrameRx p ⟨[(v, t)]⟩) s fun d =>
      Frame (s.dev.exited d) d (RegName.addr .secTagfail 0 p :: exitRegs s.dev p)
        [⟨ceEvent 10, s.dev.ssi, false, []⟩, ⟨lkEvent 8, s.dev.ssi, false, []⟩] ∧
      LinkExited s.dev d p 4 6 ∧ d.reg .secTagfail 0 p = s.dev.reg .secTagfail 0 p + 1 ∧ (d.link p).acted = [] ∧
      (d.sport p).tx = []) ∧
  (∀ (s : State) (p : Fin 8), Runs s → s.dev.linkOpen p = true → s.dev.suspects p = [] → s.dev.tagLate p = true →
    Completes (.tagTimeout p) s fun d =>
      Frame (s.dev.exited d) d (RegName.addr .secTagfail 0 p :: exitRegs s.dev p)
        [⟨ceEvent 10, s.dev.ssi, false, []⟩, ⟨lkEvent 8, s.dev.ssi, false, []⟩] ∧
      LinkExited s.dev d p 4 6 ∧ d.reg .secTagfail 0 p = s.dev.reg .secTagfail 0 p + 1 ∧ (d.link p).acted = [] ∧
      (d.sport p).tx = []) ∧
  (∀ (s : State) (p : Fin 8), Runs s → s.dev.linkOpen p = true → s.dev.tagLate p = true →
    (∃ r ∈ s.dev.rx, r.port = p.val ∧ r.suspect = true ∧ r.tainted = false) →
    (∀ r ∈ s.dev.rx, r.port = p.val → r.uses = [] ∧ r.caps = [] ∧ r.fwd = []) →
    (∀ r ∈ s.dev.rx, ∀ q ∈ s.dev.rx, r.id = q.id → r = q) → s.dev.inputs = [] →
    Completes (.tagTimeout p) s fun d =>
      Frame { s.dev.exited d with
        rx := s.dev.rx.map fun r => if r.port = p.val ∧ r.suspect = true then { r with suspect := false, tainted := true } else r } d
        ([RegName.addr .secTagfail 0 p, RegName.addr .dfTaintcnt] ++ exitRegs s.dev p)
        [⟨ceEvent 10, s.dev.ssi, false, []⟩, ⟨lkEvent 8, s.dev.ssi, false, []⟩, ⟨evCode 0 2 1, s.dev.ssi, false, []⟩] ∧
      LinkExited s.dev d p 4 6 ∧ d.flag F.dfStatusTaint = true ∧ d.reg .dfTaintcnt = s.dev.reg .dfTaintcnt + 1) ∧
  (∀ (s : State) (p : Fin 8) (b m : Vc1Block) (c : Nat) (x : Int), Runs s → s.dev.portUp p = true → s.dev.decrypted p b = m →
    Vc1Block.good m = true → Vc1Block.type m = 4 → c = bitsOf m.bits 54 47 → x = nearIndex (bitsOf m.bits 46 16) s.dev.issueIndex 31 →
    (s.dev.fwdOut c p).1 = false → bitsOf m.bits 59 58 ≠ 3 → (∀ r ∈ s.dev.rx, r.ch = c → x ≤ r.d → r.tainted = true) →
    Completes (.revokeFrameRx p b) s fun d =>
      Frame (s.dev.putLink p { s.dev.link p with
        acted := (s.dev.link p).acted ++ [(b.v, s.dev.ssi, 0, vc1Tag (s.dev.link p).rxKeys b.v b.bits)] }) d []) ∧
  (∀ (s : State) (p : Fin 8) (b m : Vc1Block) (c : Nat) (x : Int), Runs s → s.dev.portUp p = true → s.dev.decrypted p b = m →
    Vc1Block.good m = true → Vc1Block.type m = 4 → c = bitsOf m.bits 54 47 → x = nearIndex (bitsOf m.bits 46 16) s.dev.issueIndex 31 →
    (s.dev.fwdOut c p).1 = false → bitsOf m.bits 59 58 ≠ 3 → (∃ r ∈ s.dev.rx, r.ch = c ∧ x ≤ r.d ∧ r.tainted = false) →
    (∀ r ∈ s.dev.rx, r.uses = [] ∧ r.caps = []) → (∀ r ∈ s.dev.rx, ∀ q ∈ s.dev.rx, r.id = q.id → r = q) → s.dev.inputs = [] →
    Completes (.revokeFrameRx p b) s fun d =>
      Frame { s.dev.putLink p { s.dev.link p with
          acted := (s.dev.link p).acted ++ [(b.v, s.dev.ssi, 0, vc1Tag (s.dev.link p).rxKeys b.v b.bits)] } with
        rx := s.dev.rx.map fun r => if r.ch = c ∧ x ≤ r.d then { r with suspect := false, tainted := true } else r } d
        [RegName.addr .dfStatus, RegName.addr .dfTaintcnt] [⟨evCode 0 2 2, s.dev.ssi, false, []⟩] ∧
      d.flag F.dfStatusRevoked = true ∧ d.reg .dfTaintcnt = s.dev.reg .dfTaintcnt + 1)

/-- A trigger edge moves its input's level; a selected one is presented with its trimmed stamp, held while that lies ahead, or
counted in OVER where the cycle had one. A write of DT takes and clears its history; TG_ARM arms an engine and TG_DISARM takes
it to IDLE when the cycle ends. A timer's expiry, the end of a hold-off, a capture that finds another open, which sets CAPREF,
and the delivery of a held remote event do that and nothing else. -/
def Obligations.TriggerInputs : Prop :=
  (∀ (s : State) (t : Fin 16) (stamp : Nat), Runs s → bitOf (s.dev.fld F.tiCfgEdge t) 0 = false →
    Completes (.triggerEdge t true stamp) s fun d =>
      Frame { s.dev with trig := { s.dev.trig with levels := orBit s.dev.trig.levels t } } d []) ∧
  (∀ (s : State) (t : Fin 16) (stamp x : Nat), Runs s → bitOf (s.dev.fld F.tiCfgEdge t) 1 = true → bitOf s.dev.trig.levels t = true →
    sfind s.dev.trig.edgeAt t ≠ some s.dev.cycle → sfind s.dev.trig.now.edges t = none →
    (stamp : Int) + toSigned 12 (s.dev.fld F.tiCfgTrim t) = x → x < s.dev.ssi + 32 →
    Completes (.triggerEdge t false stamp) s fun d =>
      Frame { s.dev with trig := { s.dev.trig with
        levels := s.dev.trig.levels - 2 ^ t.val, edgeAt := sput s.dev.trig.edgeAt t s.dev.cycle
        now := { s.dev.trig.now with edges := sput s.dev.trig.now.edges t x } } } d [] [⟨tgEvent (16 + t) 0, x, false, []⟩]) ∧
  (∀ (s : State) (t : Fin 16) (stamp x : Nat), Runs s → bitOf (s.dev.fld F.tiCfgEdge t) 0 = true →
    sfind s.dev.trig.edgeAt t ≠ some s.dev.cycle → (stamp : Int) + toSigned 12 (s.dev.fld F.tiCfgTrim t) = x → s.dev.ssi + 32 ≤ x →
    Completes (.triggerEdge t true stamp) s fun d =>
      Frame { s.dev with trig := { s.dev.trig with
        levels := orBit s.dev.trig.levels t, edgeAt := sput s.dev.trig.edgeAt t s.dev.cycle, held := s.dev.trig.held ++ [(t.val, x)] } } d []) ∧
  (∀ (s : State) (t : Fin 16) (stamp : Nat), Runs s → bitOf (s.dev.fld F.tiCfgEdge t) 0 = true →
    sfind s.dev.trig.edgeAt t = some s.dev.cycle →
    Completes (.triggerEdge t true stamp) s fun d =>
      Frame { s.dev with trig := { s.dev.trig with levels := orBit s.dev.trig.levels t } } d [RegName.addr .tiCfg t] ∧
      d.fld F.tiCfgOver t = (s.dev.fld F.tiCfgOver t + 1) % 2 ^ 8) ∧
  (∀ (s : State) (t : Fin 16) (x : Nat), Runs s → s.dev.trig.held = [(t.val, x)] → x < s.dev.ssi + 32 →
    sfind s.dev.trig.now.edges t = none →
    Completes (.heldEdgePresent t) s fun d =>
      Frame { s.dev with trig := { s.dev.trig with
        held := [], now := { s.dev.trig.now with edges := sput s.dev.trig.now.edges t x } } } d []
        [⟨tgEvent (16 + t) 0, x, false, []⟩]) ∧
  (∀ (s : State) (c : Ctx) (u : Fin 16) (v : Nat), Takes s c → v < 2 ^ 32 → validLane (bitsOf v 10 0) = true →
    s.dev.laneAway (bitsOf v 10 0) c.sess = false →
    Answers (.dtWrite c u v) c 0x0202 s [] { s.dev with trig := { s.dev.trig with hist := sput s.dev.trig.hist u [] } }
      [RegName.addr .dt u] [] fun d => d.reg .dt u = BitVec.ofNat 32 v &&& 0xFFFF07FF) ∧
  (∀ (s : State) (c : Ctx) (n : Fin 16) (v : Nat), Takes s c → v < 2 ^ 32 → bitsOf v 17 16 ≤ 1 → bitsOf v 19 18 ≠ 3 →
    (s.dev.tgArmed n = false ∨ BitVec.ofNat 32 v &&& 0xFFFFFFFE = s.dev.reg .tgCtrl n &&& 0xFFFFFFFE) →
    s.dev.ecAway (bitsOf v 31 24) c.sess = false → (∀ b : Fin 32, s.dev.ecAway (32 * bitsOf v 22 20 + b) c.sess = false) →
    (∀ x ∈ List.range (bitsOf v 15 12 + 1), s.dev.fld F.tgSTNextT n x ≤ bitsOf v 15 12 ∧ s.dev.fld F.tgSENextE n x ≤ bitsOf v 15 12) →
    Answers (.tgArm c n v) c 0x0202 s [] { s.dev with
      trig := { s.dev.trig with eng := sput s.dev.trig.eng n { s.dev.tg n with chg := some (some s.dev.ssi) } }
      ev := { s.dev.ev with
        lift := s.dev.ev.lift ++ s.dev.ev.cut.filter fun k =>
          (RegName.addr .tgCtrl n :: (List.range 32).map fun b => 2 ^ 34 + 32 * n.val + b).contains k } } [RegName.addr .tgCtrl n] [] fun d => d.reg .tgCtrl n = BitVec.ofNat 32 (orBit v 0)) ∧
  (∀ (s : State) (c : Ctx) (n : Fin 16) (v : Nat), Takes s c → v < 2 ^ 32 → bitsOf v 17 16 ≤ 1 → bitsOf v 19 18 ≠ 3 →
    (s.dev.tgArmed n = false ∨ BitVec.ofNat 32 v &&& 0xFFFFFFFE = s.dev.reg .tgCtrl n &&& 0xFFFFFFFE) →
    s.dev.ecAway (bitsOf v 31 24) c.sess = false → (∀ b : Fin 32, s.dev.ecAway (32 * bitsOf v 22 20 + b) c.sess = false) →
    (∀ x ∈ List.range (bitsOf v 15 12 + 1), s.dev.fld F.tgSTNextT n x ≤ bitsOf v 15 12 ∧ s.dev.fld F.tgSENextE n x ≤ bitsOf v 15 12) →
    Answers (.tgDisarm c n v) c 0x0202 s [] { s.dev with
      trig := { s.dev.trig with eng := sput s.dev.trig.eng n { s.dev.tg n with chg := some none } }
      ev := { s.dev.ev with
        lift := s.dev.ev.lift ++ s.dev.ev.cut.filter fun k =>
          (RegName.addr .tgCtrl n :: (List.range 32).map fun b => 2 ^ 34 + 32 * n.val + b).contains k } } [RegName.addr .tgCtrl n] [] fun d => d.reg .tgCtrl n = BitVec.ofNat 32 v &&& 0xFFFFFFFE) ∧
  (∀ (s : State) (n : Fin 16) (m : Fin 4) (t : Nat), Runs s → (s.dev.tg n).timers.getD m none = some (t, false) → t < s.dev.ssi + 32 →
    Completes (.triggerTimerExpire n m) s fun d =>
      Frame (s.dev.putTg n { s.dev.tg n with timers := listSet (s.dev.tg n).timers m (some (t, true)) }) d []) ∧
  (∀ (s : State) (n : Fin 16) (h : HoldOff), Runs s → (s.dev.tg n).hold = some h →
    (match h.stop with | some x => x < s.dev.ssi + 32 | none => h.left = 0) →
    Completes (.holdoffEnd n) s fun d =>
      Frame (s.dev.putTg n { s.dev.tg n with hold := none }) d [RegName.addr .tgStatus n] ∧ d.flag F.tgStatusHoldoff n = false ∧
      d.fld F.tgStatusEstate n = s.dev.fld F.tgStatusEstate n) ∧
  (∀ (s : State) (n : Fin 16) (x i len : Nat) (rx : List Nat), Runs s → (s.dev.tg n).caps = [(x, i, len, rx)] → x < s.dev.ssi + 32 →
    (∀ e ∈ s.dev.inputs, ∀ k ∈ e.2.caps, k.isOpen = false → k.engine = none → x < k.start) → ((s.dev.input i).caps.any fun k => k.openAt x) = true →
    Completes (.tgCaptureStart n) s fun d =>
      Frame (s.dev.putTg n { s.dev.tg n with caps := [] }) d [RegName.addr .tgStatus n] ∧ d.flag F.tgStatusCapref n = true) ∧
  (∀ (s : State) (j : Fin 16) (x : Nat) (late : Bool) (rx : List Nat), Runs s → s.dev.trig.remote = [(j.val, x, late, rx)] →
    x < s.dev.ssi + 32 →
    Completes (.remoteEventDeliver j) s fun d =>
      Frame { s.dev with trig := { s.dev.trig with remote := [] } } d [] [⟨tgEvent (48 + j) 0, x, late, rx⟩])

/-- The transition an engine has taken moves CUR to its next state, enters it at its stamp, applies the clears, counts and
timer starts of its action field, and with DISARM has the engine leave for IDLE when the cycle ends; with FIRE it also presents
the engine's event with the transition's stamp, counts it, keeps it in LASTFIRE, starts its hold-off and its capture, and ends
the run at the number of FIREs asked for. A capture that can start takes its serial number and opens. An event frame in time
for an accepted producer is held until its due index, one past it is presented at once with LATE, and one that is too old only
sets XSTALE; each up port that an entry names gets the frame with HOPS one up, and HOPS 3 only sets XHOPLIMIT. -/
def Obligations.TriggerTransitions : Prop :=
  (∀ (s : State) (n : Fin 16) (k : CondNow) (act next : Nat), Runs s → s.dev.transition n = some (k, act, next) → next < 16 →
    (s.dev.tg n).since.length = 4 → bitOf act 0 = false →
    Completes (.triggerTransition n) s fun d =>
      Frame (s.dev.putTg n { (s.dev.tg n).depend act k.rx with
        entered := k.stamp, moved := some s.dev.cycle, heard := (s.dev.tg n).heard.filter fun x => decide (k.stamp < x)
        timers := (List.range 4).map fun m =>
          if bitOf act (10 + m) then some (k.stamp + s.dev.fld F.tgTperiod n m, false) else (s.dev.tg n).timers.getD m none
        since := (List.range 4).map fun m =>
          if s.dev.fld F.tgLimit n m ≤ countAfter act m (s.dev.fld F.tgCount n m) then
            some (((s.dev.tg n).since.getD m none).getD k.stamp) else none
        chg := if bitOf act 14 then some none else (s.dev.tg n).chg }) d
        (RegName.addr .tgStatus n :: (List.range 4).map fun m => RegName.addr .tgCount n m) ∧
      d.fld F.tgStatusCur n = next ∧ d.fld F.tgStatusEstate n = s.dev.fld F.tgStatusEstate n ∧
      ∀ m : Fin 4, d.fld F.tgCount n m = countAfter act m (s.dev.fld F.tgCount n m)) ∧
  (∀ (s : State) (n : Fin 16) (k : CondNow) (act next x : Nat) (rx : List Nat), Runs s → s.dev.transition n = some (k, act, next) →
    next < 16 → (s.dev.tg n).since.length = 4 → bitOf act 0 = true → rx = (k.rx ++ (s.dev.tg n).path).eraseDups →
    x = k.stamp + 768 + s.dev.fld F.tgCapdly n →
    Completes (.triggerTransition n) s fun d =>
      Frame { s.dev.putTg n { (s.dev.tg n).depend act k.rx with
        entered := k.stamp, moved := some s.dev.cycle, heard := (s.dev.tg n).heard.filter fun x => decide (k.stamp < x)
        timers := (List.range 4).map fun m =>
          if bitOf act (10 + m) then some (k.stamp + s.dev.fld F.tgTperiod n m, false) else (s.dev.tg n).timers.getD m none
        since := (List.range 4).map fun m =>
          if s.dev.fld F.tgLimit n m ≤ countAfter act m (s.dev.fld F.tgCount n m) then
            some (((s.dev.tg n).since.getD m none).getD k.stamp) else none
        chg := if bitOf act 14 then some none else (s.dev.tg n).chg
        fires := (s.dev.tg n).fires + 1, hold := (s.dev.holdFor n k.stamp).1, thr := max (s.dev.tg n).thr (s.dev.holdFor n k.stamp).2
        path := []
        caps := (s.dev.tg n).caps ++ if s.dev.flag F.tgCapCapen n then
          [(x, s.dev.fld F.tgCapCapIn n, s.dev.fld F.tgCaplen n, rx)] else [] } with
          ev := (s.dev.present (tgEvent n 0) k.stamp k.late rx).ev } d
        ([RegName.addr .tgStatus n, RegName.addr .tgFirecnt n, RegName.addr .tgLastfireLo n, RegName.addr .tgLastfireHi n]
          ++ (List.range 4).map fun m => RegName.addr .tgCount n m) ∧
      d.fld F.tgStatusCur n = next ∧ d.reg .tgFirecnt n = s.dev.reg .tgFirecnt n + 1 ∧
      d.reg64 .tgLastfireLo .tgLastfireHi n = k.stamp % 2 ^ 64 ∧
      d.flag F.tgStatusHoldoff n = ((s.dev.holdFor n k.stamp).1.isSome || s.dev.flag F.tgStatusHoldoff n) ∧
      d.fld F.tgStatusEstate n = (if s.dev.fld F.tgCtrlNfire n ≠ 0 ∧ s.dev.fld F.tgCtrlNfire n ≤ (s.dev.tg n).fires + 1 then 2
        else s.dev.fld F.tgStatusEstate n) ∧
      ∀ m : Fin 4, d.fld F.tgCount n m = countAfter act m (s.dev.fld F.tgCount n m)) ∧
  (∀ (s : State) (n : Fin 16) (x i len : Nat), Runs s → (s.dev.tg n).caps = [(x, i, len, [])] → x < s.dev.ssi + 32 → i < 64 →
    (∀ e ∈ s.dev.inputs, ∀ k ∈ e.2.caps, k.isOpen = false → k.engine = none → x < k.start) → (s.dev.input i).caps = [] → (s.dev.input i).full = false → s.dev.flag F.ipCapCtrlEn i = true → s.dev.flag F.ipCapCtrlWrap i = true →
    s.dev.fld F.ipCtrlCapdec i ≤ 3 → s.dev.unitsUsed x + capUnits (s.dev.fld F.ipCtrlCapdec i) ≤ 64 →
    (s.dev.reg .ipCapWr i).toNat < (s.dev.reg .ipCapSize i).toNat →
    Completes (.tgCaptureStart n) s fun d =>
      Frame { s.dev.putTg n { s.dev.tg n with caps := [] } with inputs := d.inputs, free := d.free } d [RegName.addr .ipCapser i, RegName.addr .ipStatus i] ∧
      d.reg .ipCapser i = s.dev.reg .ipCapser i + 1 ∧ d.flag F.ipStatusCapActive i = true ∧
      (∃ k, (d.input i).caps = [k] ∧ k.start = x ∧ k.len = len ∧ k.serial = 0xFFFFFF00 + n.val ∧ k.engine = some n.val ∧
        k.isOpen = true ∧ k.capser = (d.reg .ipCapser i).toNat) ∧
      ∀ q, q ≠ i → sfind d.inputs q = sfind s.dev.inputs q) ∧
  (∀ (s : State) (p : Fin 8) (b m : Vc1Block) (x : Int), Runs s → s.dev.portUp p = true → s.dev.decrypted p b = m →
    Vc1Block.good m = true → Vc1Block.type m = 2 →
    x = nearIndex (bitsOf m.bits 39 16) s.dev.ssi 24 + 32 * bitsOf m.bits 48 40 → x < (s.dev.ssi : Int) - 1048576 →
    Completes (.eventFrameRx p b) s fun d =>
      Frame (s.dev.putLink p { s.dev.link p with acted := (s.dev.link p).acted ++ [(b.v, s.dev.ssi, 0, vc1Tag (s.dev.link p).rxKeys b.v b.bits)] }) d [RegName.addr .tgXstatus] ∧
      d.flag F.tgXstatusXstale = true) ∧
  (∀ (s : State) (p : Fin 8) (b m : Vc1Block) (x : Nat) (j : Fin 16), Runs s → s.dev.portUp p = true → s.dev.decrypted p b = m →
    Vc1Block.good m = true → Vc1Block.type m = 2 →
    nearIndex (bitsOf m.bits 39 16) s.dev.ssi 24 + 32 * bitsOf m.bits 48 40 = (x : Int) → s.dev.ssi + 32 ≤ x →
    bitsOf m.bits 59 58 ≠ 3 → (∀ g : Fin 16, s.dev.flag F.tgFwdEn g = false) →
    (∀ g : Fin 16, (s.dev.flag F.tgXinEn 0 g && s.dev.fld F.tgXinPort 0 g == p.val && s.dev.fld F.tgXinSev 0 g == bitsOf m.bits 56 49) = decide (g = j)) →
    s.dev.trig.remote = [] →
    Completes (.eventFrameRx p b) s fun d =>
      Frame { s.dev.putLink p { s.dev.link p with acted := (s.dev.link p).acted ++ [(b.v, s.dev.ssi, s.dev.rxNext, vc1Tag (s.dev.link p).rxKeys b.v b.bits)] } with
        rxNext := s.dev.rxNext + 1
        rx := s.dev.rx ++ [{ id := s.dev.rxNext, ch := 256 + bitsOf m.bits 56 49, port := p, d := x, fwd := [], suspect := true, uses := [] }]
        trig := { s.dev.trig with remote := [(j.val, x, bitOf m.bits 57, [s.dev.rxNext])] } } d []) ∧
  (∀ (s : State) (p : Fin 8) (b m : Vc1Block) (x : Nat) (j : Fin 16), Runs s → s.dev.portUp p = true → s.dev.decrypted p b = m →
    Vc1Block.good m = true → Vc1Block.type m = 2 →
    nearIndex (bitsOf m.bits 39 16) s.dev.ssi 24 + 32 * bitsOf m.bits 48 40 = (x : Int) → s.dev.ssi ≤ x + 1048576 → x < s.dev.ssi →
    bitsOf m.bits 59 58 ≠ 3 → (∀ g : Fin 16, s.dev.flag F.tgFwdEn g = false) →
    (∀ g : Fin 16, (s.dev.flag F.tgXinEn 0 g && s.dev.fld F.tgXinPort 0 g == p.val && s.dev.fld F.tgXinSev 0 g == bitsOf m.bits 56 49) = decide (g = j)) →
    Completes (.eventFrameRx p b) s fun d =>
      Frame { s.dev.putLink p { s.dev.link p with acted := (s.dev.link p).acted ++ [(b.v, s.dev.ssi, s.dev.rxNext, vc1Tag (s.dev.link p).rxKeys b.v b.bits)] } with
        rxNext := s.dev.rxNext + 1
        rx := s.dev.rx ++ [{ id := s.dev.rxNext, ch := 256 + bitsOf m.bits 56 49, port := p, d := x, fwd := [], suspect := true, uses := [] }] } d
        [RegName.addr .tgXstatus]
        [⟨tgEvent (48 + j) 0, s.dev.ssi, true, [s.dev.rxNext]⟩, ⟨tgEvent 64 0, s.dev.ssi, false, []⟩] ∧
      d.flag F.tgXstatusXlate = true) ∧
  (∀ (s : State) (p : Fin 8) (b m : Vc1Block) (x h : Nat) (out : List Nat), Runs s → s.dev.portUp p = true → s.dev.decrypted p b = m →
    Vc1Block.good m = true → Vc1Block.type m = 2 →
    nearIndex (bitsOf m.bits 39 16) s.dev.ssi 24 + 32 * bitsOf m.bits 48 40 = (x : Int) → s.dev.ssi ≤ x + 1048576 → h = bitsOf m.bits 59 58 →
    out = (if h = 3 then [] else (List.range 8).filter fun r => r != p.val && s.dev.portUp r && (List.range 16).any fun g =>
      s.dev.flag F.tgFwdEn g && decide (s.dev.fld F.tgFwdSevLo g ≤ bitsOf m.bits 56 49) &&
        decide (bitsOf m.bits 56 49 ≤ s.dev.fld F.tgFwdSevHi g) && bitOf (s.dev.fld F.tgFwdIoIn g) p && bitOf (s.dev.fld F.tgFwdIoOut g) r) →
    (∀ r ∈ out, (s.dev.link r).vq.length < 64) →
    (∀ g : Fin 16, (s.dev.flag F.tgXinEn 0 g && s.dev.fld F.tgXinPort 0 g == p.val && s.dev.fld F.tgXinSev 0 g == bitsOf m.bits 56 49) = false) →
    Completes (.eventFrameRx p b) s fun d =>
      Frame { s.dev with
        links := d.links, rxNext := s.dev.rxNext + 1
        rx := s.dev.rx ++ [{ id := s.dev.rxNext, ch := 256 + bitsOf m.bits 56 49, port := p, d := x, fwd := [], suspect := true, uses := [] }] }
        d (if h = 3 then [RegName.addr .tgXstatus] else []) ∧
      d.flag F.tgXstatusXhoplimit = (s.dev.flag F.tgXstatusXhoplimit || decide (h = 3)) ∧
      d.link p = { s.dev.link p with
        acted := (s.dev.link p).acted ++ [(b.v, s.dev.ssi, s.dev.rxNext, vc1Tag (s.dev.link p).rxKeys b.v b.bits)] } ∧
      (∀ r ∈ out, d.link r = { s.dev.link r with vq := (s.dev.link r).vq ++
        [eventFrame (h + 1) (bitOf m.bits 57) (bitsOf m.bits 56 49) (bitsOf m.bits 48 40) (bitsOf m.bits 39 16)] }) ∧
      ∀ q, q ∉ p.val :: out → sfind d.links q = sfind s.dev.links q)

/-- MEM_READ enters a read of each of its lines, its reply to follow; MEM_WRITE of whole lines enters their writes, its reply
waiting while a queue is full, and of part of a line a merge entry of its bytes; MEM_SETCLASS starts its rewrite, whose end
zeroes what is left of the granules, gives them the new class, leaves every other byte and class and then replies; MEM_THAW
ends a freeze and with action 1 zeroes the line at fault; MEM_DIAG, MEM_REPAIR_ADD and MEM_SCRUB_NOW answer, add and queue.
While DRAM is frozen reads, writes, rewrites and scrubs are refused. -/
def Obligations.MemoryCommands : Prop :=
  (∀ (s : State) (c : Ctx) (first n : Nat), Takes s c → 1 ≤ n → n ≤ 4096 → first + n ≤ dramLines →
    s.dev.linesAway c.sess first n = false → s.dev.flag F.memStatusFrozen = false → s.dev.rewriting first n = false →
    Completes (.memRead c first n) s fun d =>
      d.eng.out.length = s.dev.eng.out.length + b2n c.ack ∧
      Frame { s.dev with mc := d.mc, eng := { s.dev.eng with out := d.eng.out } } d [RegName.addr .ceAccepted] ∧
      d.mc = { s.dev.mc with
        seq := d.mc.seq, wait := d.mc.wait, q := d.mc.q, merge := d.mc.merge, behind := d.mc.behind, nextId := s.dev.mc.nextId + 1
        host := s.dev.mc.host ++ [{ id := s.dev.mc.nextId, ctx := c, opcode := 0x0A01, lines := (List.range n).map (first + ·) }] } ∧
      ∀ l ∈ (List.range n).map (first + ·), ∃ r ∈ d.mc.q ++ d.mc.wait ++ d.mc.behind,
        r.write = false ∧ r.line = l ∧ r.req = 3 ∧ r.id = s.dev.mc.nextId) ∧
  (∀ (s : State) (c : Ctx) (line : Nat) (data : List Byte), Takes s c → data ≠ [] → data.length % 32 = 0 → data.length ≤ 256 →
    line + data.length / 32 ≤ dramLines → s.dev.linesAway c.sess line (data.length / 32) = false →
    s.dev.flag F.memStatusFrozen = false → s.dev.rewriting line (data.length / 32) = false → s.dev.mc.q = [] → s.dev.mc.wait = [] →
    Alters (.memWrite c (32 * line) data) c 0x0A02 s (fun d => { s.dev with mc := { s.dev.mc with
        seq := d.mc.seq, q := d.mc.q, chans := d.mc.chans, merge := d.mc.merge, nextId := s.dev.mc.nextId + 1 } }) [] fun d =>
      ∀ j ∈ List.range (data.length / 32), ∃ r ∈ d.mc.q,
        r.write = true ∧ r.line = line + j ∧ r.data = sliceB data (32 * j) 32 ∧ r.req = 3 ∧ r.id = s.dev.mc.nextId) ∧
  (∀ (s : State) (c : Ctx) (line : Nat) (data : List Byte), Takes s c → data.length = 32 → line < dramLines →
    s.dev.linesAway c.sess line 1 = false → s.dev.flag F.memStatusFrozen = false → s.dev.rewriting line 1 = false →
    8 ≤ (s.dev.mc.q.filter fun r => r.write && dPc r.line == dPc line && dBank r.line == dBank line && r.req != 4).length →
    s.dev.mc.wait = [] →
    Completes (.memWrite c (32 * line) data) s fun d =>
      d.eng.out.length = s.dev.eng.out.length + b2n c.ack ∧
      Frame { s.dev with mc := d.mc, eng := { s.dev.eng with out := d.eng.out } } d [RegName.addr .ceAccepted] ∧
      d.mc = { s.dev.mc with
        seq := d.mc.seq, wait := d.mc.wait, q := d.mc.q, chans := d.mc.chans, merge := d.mc.merge, nextId := s.dev.mc.nextId + 1
        hostw := s.dev.mc.hostw ++ [⟨s.dev.mc.nextId, c, 32 * line + 32, []⟩] } ∧
      ∃ r ∈ d.mc.wait, r.write = true ∧ r.line = line ∧ r.data = sliceB data 0 32 ∧ r.req = 3 ∧ r.id = s.dev.mc.nextId) ∧
  (∀ (s : State) (c : Ctx) (addr : Nat) (data : List Byte), Takes s c → data ≠ [] → addr % 32 + data.length ≤ 32 → data.length < 32 →
    addr / 32 < dramLines → s.dev.linesAway c.sess (addr / 32) 1 = false → s.dev.flag F.memStatusFrozen = false →
    s.dev.rewriting (addr / 32) 1 = false → (∀ e ∈ s.dev.mc.merge, e.line ≠ addr / 32) → s.dev.mc.merge.length < 16 →
    (∀ r ∈ s.dev.mc.wait ++ s.dev.mc.q ++ s.dev.mc.chans.flatMap (fun x => x.2.flight), r.req ≠ 4) → (∀ r ∈ s.dev.mc.wait, r.req = 3 → r.id ≠ s.dev.mc.nextId) →
    Answers (.memWrite c addr data) c 0x0A02 s []
      { s.dev with mc := { s.dev.mc with
        nextId := s.dev.mc.nextId + 2
        merge := s.dev.mc.merge ++ [⟨s.dev.mc.nextId + 1, addr / 32, data.zipIdx.map fun x => (addr % 32 + x.2, x.1), s.dev.cycle, false⟩] } }
      [] [] fun _ => True) ∧
  (∀ (s : State) (c : Ctx) (first n cls : Nat), Takes s c → 1 ≤ n → first + n ≤ 48 → cls ≤ 2 →
    s.dev.flag F.memStatusFrozen = false → s.dev.mc.setclass = none → s.dev.granulesUsed (2 ^ 25 * first) (2 ^ 25 * n) = false →
    (∀ e ∈ s.dev.mc.merge, e.line < 2 ^ 25 * first ∨ 2 ^ 25 * (first + n) ≤ e.line) →
    Completes (.memSetclass c first n cls) s fun d =>
      d.eng.out.length = s.dev.eng.out.length + b2n c.ack ∧
      Frame { s.dev with mc := { s.dev.mc with setclass := some ⟨some c, first, n, cls, 2 ^ 25 * first, []⟩ }, eng := { s.dev.eng with out := d.eng.out } } d
        [RegName.addr .ceAccepted, RegName.addr .memStatus] ∧ d.flag F.memStatusSetclassBusy = true) ∧
  (∀ (s : State) (c : Ctx) (j : ClassJob), Runs s → s.dev.flag F.memStatusFrozen = false → s.dev.mc.setclass = some j →
    j.ctx = some c → j.cls < 4 → j.first + j.count ≤ 48 → s.dev.eng.running = none →
    Completes .setclassDone s fun d =>
      Frame (({ s.dev with dram := d.dram, mc := d.mc } : Device).replied d) d
        [RegName.addr .memStatus, RegName.addr .memGran 0 0, RegName.addr .memGran 0 1, RegName.addr .memGran 0 2] ∧
      (∀ a, cellGet d.dram a = if 2 ^ 30 * j.first ≤ a ∧ a < 2 ^ 30 * (j.first + j.count) ∧ j.holds (a / 32) = false then 0
        else cellGet s.dev.dram a) ∧
      (∀ k : Fin 48, d.granClass k = if j.first ≤ k.val ∧ k.val < j.first + j.count then j.cls else s.dev.granClass k) ∧
      d.mc = { s.dev.mc with
        setclass := none, flips := d.mc.flips, q := s.dev.mc.q.filter fun r => r.req != 6
        wait := s.dev.mc.wait.filter fun r => r.req != 6 } ∧
      d.flag F.memStatusSetclassBusy = false ∧
      ∃ r, d.eng.out = s.dev.eng.out ++ [r] ∧ r.opcode = 0x0A03 ∧ r.status = stOk ∧ r.seq = c.seq ∧ r.sess = c.sess ∧ r.via = c.via) ∧
  (∀ (s : State) (c : Ctx), Takes s c → s.dev.flag F.memStatusFrozen = true → s.dev.mc.wait = [] → s.dev.mc.hostw = [] →
    (∀ x ∈ s.dev.inputs, x.2.held = []) →
    Answers (.memThaw c 0) c 0x0A04 s [] s.dev [RegName.addr .memStatus] [⟨memEvent 1, s.dev.ssi, false, []⟩] fun d =>
      d.flag F.memStatusFrozen = false) ∧
  (∀ (s : State) (c : Ctx), Takes s c → s.dev.flag F.memStatusFrozen = true → s.dev.mc.wait = [] → s.dev.mc.hostw = [] →
    (∀ x ∈ s.dev.inputs, x.2.held = []) →
    s.dev.fld F.memFrzCauseCause < 3 →
    Answers (.memThaw c 1) c 0x0A04 s []
      { s.dev with
        dram := cellPuts s.dev.dram (32 * (s.dev.reg .memFrzLine).toNat) (zeros 32)
        mc := { s.dev.mc with flips := sdel s.dev.mc.flips (s.dev.reg .memFrzLine).toNat } } [RegName.addr .memStatus]
      [⟨memEvent 1, s.dev.ssi, false, []⟩] fun d => d.flag F.memStatusFrozen = false) ∧
  (∀ (s : State) (c : Ctx) (line : Nat), Takes s c → line < dramLines → s.dev.linesAway c.sess line 1 = false → s.dev.rewriting line 1 = false →
    OnlyAnswers (.memDiag c line) c 0x0A05 s
      (natBytes (s.dev.storedWord line) ++ leBytes 1 (s.dev.lineClass line) ++ zeros 3
        ++ leBytes 4 (decodeLine (s.dev.lineClass line) (s.dev.storedWord line)).synd)) ∧
  (∀ (s : State) (c : Ctx) (r : Repair), Takes s c → r.kind ≤ 1 → r.stack ≤ 1 → r.ch ≤ 15 → r.pc ≤ 1 → r.bg ≤ 15 → r.bank ≤ 3 →
    (r.kind = 0 → r.row < 12288 ∧ ∀ e ∈ s.dev.repairs, e.take 6 ≠ [0, r.stack, r.ch, r.pc, r.bg, r.bank]) →
    s.dev.fld F.memRepairFree ≠ 0 → s.dev.flag F.thStatusFuseOk = true →
    Answers (.memRepairAdd c r) c 0x0A06 s []
      { s.dev with repairs := s.dev.repairs ++ [[r.kind, r.stack, r.ch, r.pc, r.bg, r.bank, r.row]] } [RegName.addr .memRepairFree] []
      fun d => d.reg .memRepairFree = BitVec.ofNat 32 (s.dev.fld F.memRepairFree - 1)) ∧
  (∀ (s : State) (c : Ctx) (first n : Nat), Takes s c → 1 ≤ n → first + n ≤ 48 → s.dev.flag F.memStatusFrozen = false →
    s.dev.rewriting (2 ^ 25 * first) (2 ^ 25 * n) = false →
    Answers (.memScrubNow c first n) c 0x0A07 s []
      { s.dev with mc := { s.dev.mc with
        ranges := s.dev.mc.ranges ++ [(2 ^ 25 * first, 2 ^ 25 * (first + n))]
        resume := if s.dev.mc.ranges = [] then some (s.dev.reg .memScrubLine).toNat else s.dev.mc.resume } }
      (if s.dev.mc.ranges = [] then [RegName.addr .memScrubLine] else []) [] fun d =>
      s.dev.mc.ranges = [] → d.reg .memScrubLine = BitVec.ofNat 32 (2 ^ 25 * first)) ∧
  (∀ (s : State) (c : Ctx) (first n cls : Nat) (data : List Byte), Takes s c → s.dev.flag F.memStatusFrozen = true → 1 ≤ n →
    first + n ≤ 48 → cls ≤ 2 → s.dev.linesAway c.sess first n = false → data ≠ [] → data.length ≤ 32 →
    s.dev.linesAway c.sess first 1 = false →
    Refuses (.memRead c first n) c 0x0A01 s stFrozen 0 ∧ Refuses (.memWrite c (32 * first) data) c 0x0A02 s stFrozen 0 ∧
      Refuses (.memSetclass c first n cls) c 0x0A03 s stFrozen 0 ∧ Refuses (.memScrubNow c first n) c 0x0A07 s stFrozen 0)

/-- In a command slot a queued write to its bank's open row is stored and leaves its queue, and a queued read there goes out; a
closed row is opened, and another row closed. A read of MEM_READ's only line that returns sound is answered with its data; one
whose word cannot be corrected freezes the controller with its line and cause, as a parity error and a missing response do. A
late merge entry begins its read; t_REFI adds to the refresh debt, or forces a refresh at 8; a stack's temperature switches its
rate. -/
def Obligations.DramController : Prop :=
  (∀ (s : State) (r : DReq), Runs s → s.dev.flag F.memStatusFrozen = false → s.dev.mc.q = [r] → s.dev.mc.wait = [] →
    (∀ x ∈ s.dev.mc.chans, x.2.forced = false ∧ x.2.debt = 0 ∧ x.2.skip ≠ some (s.dev.cycle, s.dev.mc.slots)) →
    s.dev.mc.hostw = [] → (∀ j, s.dev.mc.setclass = some j → j.stop ≤ j.fed) → r.write = true → r.req ≠ 6 →
    sfind (s.dev.chan (dPc r.line)).rows (dBank r.line) = some (dRow r.line) →
    Completes .dramCommandSlot s fun d =>
      Frame { s.dev with
        dram := cellPuts s.dev.dram (32 * r.line) r.data
        mc := { s.dev.mc with
          q := [], chans := d.mc.chans, flips := sdel s.dev.mc.flips r.line, slots := s.dev.mc.slots + 1 } } d [] ∧
      d.chan (dPc r.line) = { s.dev.chan (dPc r.line) with
        wr := true, ptr := dBank r.line
        last := some { r with old := some (cellGets s.dev.dram (32 * r.line) 32, sget [] s.dev.mc.flips r.line) }
        flight := (s.dev.chan (dPc r.line)).flight.map fun x => if x.line = r.line then { x with stale := true } else x } ∧
      ∀ q, q ≠ dPc r.line → sfind d.mc.chans q = sfind s.dev.mc.chans q) ∧
  (∀ (s : State) (r : DReq), Runs s → s.dev.flag F.memStatusFrozen = false → s.dev.mc.q = [r] → s.dev.mc.wait = [] →
    (∀ x ∈ s.dev.mc.chans, x.2.forced = false ∧ x.2.debt = 0 ∧ x.2.skip ≠ some (s.dev.cycle, s.dev.mc.slots)) →
    s.dev.mc.hostw = [] → (∀ j, s.dev.mc.setclass = some j → j.stop ≤ j.fed) → r.write = false →
    sfind (s.dev.chan (dPc r.line)).rows (dBank r.line) = some (dRow r.line) →
    Completes .dramCommandSlot s fun d =>
      Frame { s.dev with mc := { s.dev.mc with q := [], chans := d.mc.chans, slots := s.dev.mc.slots + 1 } } d [] ∧
      d.chan (dPc r.line) = { s.dev.chan (dPc r.line) with
        wr := false, ptr := dBank r.line, last := some r
        flight := (s.dev.chan (dPc r.line)).flight ++ [{ r with
          data := natBytes (s.dev.storedWord r.line), cls := s.dev.lineClass r.line }] } ∧
      ∀ q, q ≠ dPc r.line → sfind d.mc.chans q = sfind s.dev.mc.chans q) ∧
  (∀ (s : State) (r : DReq), Runs s → s.dev.flag F.memStatusFrozen = false → s.dev.mc.q = [r] → s.dev.mc.wait = [] →
    (∀ x ∈ s.dev.mc.chans, x.2.forced = false ∧ x.2.debt = 0 ∧ x.2.skip ≠ some (s.dev.cycle, s.dev.mc.slots)) →
    s.dev.mc.hostw = [] → (∀ j, s.dev.mc.setclass = some j → j.stop ≤ j.fed) → sfind (s.dev.chan (dPc r.line)).rows (dBank r.line) = none →
    Completes .dramCommandSlot s fun d =>
      Frame { s.dev with mc := { s.dev.mc with chans := d.mc.chans, slots := s.dev.mc.slots + 1 } } d [] ∧
      d.chan (dPc r.line) = { s.dev.chan (dPc r.line) with
        wr := r.write, ptr := dBank r.line, rows := sput (s.dev.chan (dPc r.line)).rows (dBank r.line) (dRow r.line) } ∧
      ∀ q, q ≠ dPc r.line → sfind d.mc.chans q = sfind s.dev.mc.chans q) ∧
  (∀ (s : State) (r : DReq) (row : Nat), Runs s → s.dev.flag F.memStatusFrozen = false → s.dev.mc.q = [r] → s.dev.mc.wait = [] →
    (∀ x ∈ s.dev.mc.chans, x.2.forced = false ∧ x.2.debt = 0 ∧ x.2.skip ≠ some (s.dev.cycle, s.dev.mc.slots)) →
    s.dev.mc.hostw = [] → (∀ j, s.dev.mc.setclass = some j → j.stop ≤ j.fed) → 
    sfind (s.dev.chan (dPc r.line)).rows (dBank r.line) = some row → row ≠ dRow r.line →
    Completes .dramCommandSlot s fun d =>
      Frame { s.dev with mc := { s.dev.mc with chans := d.mc.chans, slots := s.dev.mc.slots + 1 } } d [] ∧
      d.chan (dPc r.line) = { s.dev.chan (dPc r.line) with
        wr := r.write, ptr := dBank r.line, rows := sdel (s.dev.chan (dPc r.line)).rows (dBank r.line) } ∧
      ∀ q, q ≠ dPc r.line → sfind d.mc.chans q = sfind s.dev.mc.chans q) ∧
  (∀ (s : State) (p : Fin 64) (r : DReq) (rest : List DReq) (h : HostOp) (w : Decoded), Runs s → (s.dev.chan p).flight = r :: rest →
    w = decodeLine r.cls (r.data.map BitVec.toNat) → w.bad = false → w.fixed = false → r.req = 3 → s.dev.mc.hostw = [] → s.dev.mc.host = [h] → h.id = r.id → h.lines = [r.line] → h.got = [] → h.bind = none →
    s.dev.eng.running = none →
    Completes (.dramReadReturn p []) s fun d =>
      Frame (({ s.dev with
        mc := { s.dev.mc with host := [], chans := sput s.dev.mc.chans p { s.dev.chan p with flight := rest } } } : Device).replied d) d [] ∧
      ∃ a, d.eng.out = s.dev.eng.out ++ [a] ∧ a.via = h.ctx.via ∧ a.sess = h.ctx.sess ∧ a.seq = h.ctx.seq ∧ a.opcode = h.opcode ∧
        a.status = stOk ∧ a.data = natBytes w.data ∧ a.length = a.data.length) ∧
  (∀ (s : State) (p : Fin 64) (r : DReq) (rest : List DReq) (errs : List (Nat × Nat)) (w : Decoded), Runs s →
    (s.dev.chan p).flight = r :: rest → w = decodeLine r.cls (withErrors (r.data.map BitVec.toNat) errs) → w.bad = true → r.cls < 2 →
    r.req = 4 → r.write = false → s.dev.flag F.memStatusFrozen = false → s.dev.mc.hostw = [] →
    Completes (.dramReadReturn p errs) s fun d =>
      NotesOnly s.dev d ∧ Frame { s.dev.noted d with mc := d.mc, ev := d.ev } d
        ([RegName.addr .memStatus, RegName.addr .memFreezes, RegName.addr .memFrzCause, RegName.addr .memFrzLine,
          RegName.addr .memFrzSynd, RegName.addr .memFrzSsiLo, RegName.addr .memFrzSsiHi] ++ noticeRegs) ∧
      d.ev.now.take (s.dev.ev.now.length + 1) = s.dev.ev.now ++ [⟨memEvent 0, s.dev.ssi, false, []⟩] ∧
      d.flag F.memStatusFrozen = true ∧ d.fld F.memFrzCauseCause = 1 + r.cls ∧
      d.reg .memFrzLine = BitVec.ofNat 32 r.line ∧ d.reg .memFrzSynd = BitVec.ofNat 32 w.synd ∧
      d.reg64 .memFrzSsiLo .memFrzSsiHi = s.dev.ssi % 2 ^ 64 ∧ d.reg .memFreezes = s.dev.reg .memFreezes + 1 ∧
      d.mc = { s.dev.mc with
        chans := (sput s.dev.mc.chans p { s.dev.chan p with flight := rest }).map fun x => (x.1, { x.2 with rows := [] })
        flips := if r.stale ∨ errs = [] then s.dev.mc.flips else sput s.dev.mc.flips r.line (sget [] s.dev.mc.flips r.line ++ errs) }) ∧
  (∀ (s : State) (st : Fin 2) (ch : Fin 16), Runs s → s.dev.flag F.memStatusFrozen = false →
    (s.dev.chan (st.val + 2 * ch.val)).last = none → (s.dev.chan (st.val + 2 * ch.val + 32)).last = none →
    Completes (.caParityError st ch) s fun d =>
      NotesOnly s.dev d ∧ Frame { s.dev.noted d with mc := d.mc, ev := d.ev } d
        ([RegName.addr .memStatus, RegName.addr .memFreezes, RegName.addr .memFrzCause, RegName.addr .memFrzLine,
          RegName.addr .memFrzSynd, RegName.addr .memFrzSsiLo, RegName.addr .memFrzSsiHi] ++ noticeRegs) ∧
      d.ev.now.take (s.dev.ev.now.length + 1) = s.dev.ev.now ++ [⟨memEvent 0, s.dev.ssi, false, []⟩] ∧
      d.flag F.memStatusFrozen = true ∧ d.fld F.memFrzCauseCause = 3 ∧
      d.mc = { s.dev.mc with chans := s.dev.mc.chans.map fun x => (x.1, { x.2 with rows := [] }) }) ∧
  (∀ (s : State) (p : Fin 64) (r : DReq) (rest : List DReq), Runs s → (s.dev.chan p).flight = r :: rest →
    s.dev.flag F.memStatusFrozen = false → r.req = 4 → r.write = false →
    Completes (.dramNoResponse p) s fun d =>
      NotesOnly s.dev d ∧ Frame { s.dev.noted d with mc := d.mc, ev := d.ev } d
        ([RegName.addr .memStatus, RegName.addr .memFreezes, RegName.addr .memFrzCause, RegName.addr .memFrzLine,
          RegName.addr .memFrzSynd, RegName.addr .memFrzSsiLo, RegName.addr .memFrzSsiHi] ++ noticeRegs) ∧
      d.ev.now.take (s.dev.ev.now.length + 1) = s.dev.ev.now ++ [⟨memEvent 0, s.dev.ssi, false, []⟩] ∧
      d.flag F.memStatusFrozen = true ∧ d.fld F.memFrzCauseCause = 4 ∧ d.reg .memFrzLine = BitVec.ofNat 32 r.line ∧
      d.mc = { s.dev.mc with
        chans := (sput s.dev.mc.chans p { s.dev.chan p with flight := rest }).map fun x => (x.1, { x.2 with rows := [] }) }) ∧
  (∀ (s : State) (e : MergeEnt), Runs s → s.dev.flag F.memStatusFrozen = false → s.dev.mc.merge = [e] → e.reading = false →
    s.dev.mergeLate e = true →
    Completes (.mergeTimeout e.num) s fun d =>
      Frame { s.dev with mc := { s.dev.mc with
        seq := d.mc.seq, wait := d.mc.wait, q := d.mc.q, merge := [{ e with reading := true }] } } d [] ∧
      ∃ r ∈ d.mc.q ++ d.mc.wait, r.write = false ∧ r.line = e.line ∧ r.req = 5 ∧ r.id = e.num) ∧
  (∀ (s : State) (p : Fin 64), Runs s → (s.dev.chan p).refAt ≤ s.dev.cycle → (s.dev.chan p).debt < 8 →
    Completes (.refreshDue p) s fun d =>
      Frame (s.dev.putChan p { s.dev.chan p with
        refAt := (s.dev.chan p).refAt + s.dev.refi (p.val % 2), debt := (s.dev.chan p).debt + 1 }) d
        [RegName.addr .drRefstat 0 (p.val % 2)]) ∧
  (∀ (s : State) (p : Fin 64), Runs s → (s.dev.chan p).refAt ≤ s.dev.cycle → 8 ≤ (s.dev.chan p).debt →
    Completes (.refreshDue p) s fun d =>
      Frame (s.dev.putChan p { s.dev.chan p with refAt := (s.dev.chan p).refAt + s.dev.refi (p.val % 2), forced := true }) d
        [RegName.addr .drRefstat 0 (p.val % 2), RegName.addr .memStatus] [⟨memEvent 7, s.dev.ssi, false, []⟩] ∧
      d.flag F.memStatusRefForced = true) ∧
  (∀ (s : State) (st : Fin 2) (t : Nat), Runs s → 358150 < t → s.dev.flag F.drRefstatHot 0 st = false →
    Completes (.stackTempReport st t) s fun d =>
      Frame s.dev d [RegName.addr .drRefstat 0 st, RegName.addr .memStatus] [⟨memEvent 9, s.dev.ssi, false, []⟩] ∧
      d.flag F.drRefstatHot 0 st = true ∧ d.flag F.memStatusStackHot = true ∧ d.refi st = 975) ∧
  (∀ (s : State) (st : Fin 2) (t : Nat), Runs s → t ≤ 358150 → s.dev.flag F.drRefstatHot 0 st = true →
    Completes (.stackTempReport st t) s fun d =>
      Frame s.dev d [RegName.addr .drRefstat 0 st, RegName.addr .memStatus] [⟨memEvent 10, s.dev.ssi, false, []⟩] ∧
      d.flag F.drRefstatHot 0 st = false ∧ d.refi st = 1950)

/-- A DRAM scrub read in a free slot goes out and SCRUB_LINE moves on; with scrub off and no range asked for it does nothing.
An SRAM scrub that finds a word sound only counts the pass at its last word; one it corrects is sound again, counts CORR_SRAM
and presents its event; one of the engine's own memories that it cannot correct halts the engine; with scrub off it does
nothing. -/
def Obligations.Scrub : Prop :=
  (∀ (s : State) (l n : Nat), Runs s → s.dev.flag F.memStatusFrozen = false → s.dev.flag F.memCtrlScrubEn = true → s.dev.mc.ranges = [] →
    s.dev.scrubNext (s.dev.reg .memScrubLine).toNat dramLines = some l → s.dev.scrubSlot l = true →
    s.dev.scrubNext (l + 1) dramLines = some n → s.dev.leadNow = 0 →
    Completes .scrubRead s fun d =>
      Frame { s.dev with mc := { s.dev.mc with seq := s.dev.mc.seq + 1, chans := d.mc.chans } } d [RegName.addr .memScrubLine] ∧
      d.reg .memScrubLine = BitVec.ofNat 32 n ∧
      (∃ f, (d.chan (dPc l)).flight = (s.dev.chan (dPc l)).flight ++ [f] ∧ f.line = l ∧ f.req = 4 ∧ f.write = false) ∧
      ∀ q, q ≠ dPc l → sfind d.mc.chans q = sfind s.dev.mc.chans q) ∧
  (∀ (s : State), Runs s → s.dev.flag F.memCtrlScrubEn = false → s.dev.mc.ranges = [] →
    Completes .scrubRead s fun d => Frame s.dev d []) ∧
  (∀ (s : State) (region inst word : Nat), Runs s → s.dev.flag F.memCtrlSramScrubEn = false →
    Completes (.sramScrub region inst word []) s fun d => Frame s.dev d []) ∧
  (∀ (s : State) (region inst word : Nat), Runs s → s.dev.flag F.memCtrlSramScrubEn = true → (region, word) ≠ (11, 73727) →
    s.dev.sramErrsAt region inst word = [] →
    Completes (.sramScrub region inst word []) s fun d => Frame s.dev d []) ∧
  (∀ (s : State) (inst : Nat), Runs s → s.dev.flag F.memCtrlSramScrubEn = true → s.dev.sramErrsAt 11 inst 73727 = [] →
    Completes (.sramScrub 11 inst 73727 []) s fun d =>
      Frame s.dev d [RegName.addr .memSramPasses] ∧ d.reg .memSramPasses = s.dev.reg .memSramPasses + 1) ∧
  (∀ (s : State) (region inst word : Nat) (errs : List (Nat × Nat)) (w : Decoded), Runs s → s.dev.flag F.memCtrlSramScrubEn = true →
    (region, word) ≠ (11, 73727) → sfind s.dev.sramErrs (s.dev.sramPlace region inst word) = none →
    w = errDecode (sramClass region) (errNormal errs) → w.bad = false → w.fixed = true →
    (∀ x ∈ (errDecode (sramClass region) errs).data, x = 0) → s.dev.mc.corrS ≠ some s.dev.cycle →
    Completes (.sramScrub region inst word errs) s fun d =>
      Frame { s.dev with mc := { s.dev.mc with corrS := some s.dev.cycle } } d [RegName.addr .memCorrSram]
        [⟨memEvent 3, s.dev.ssi, false, []⟩] ∧ d.reg .memCorrSram = s.dev.reg .memCorrSram + 1) ∧
  (∀ (s : State) (region inst word : Nat) (errs : List (Nat × Nat)), Runs s → s.dev.flag F.memCtrlSramScrubEn = true → 9 ≤ region →
    region ≤ 11 → (region, word) ≠ (11, 73727) → sfind s.dev.sramErrs (s.dev.sramPlace region inst word) = none →
    (errDecode 0 (errNormal errs)).bad = true →
    Completes (.sramScrub region inst word errs) s fun d =>
      NotesOnly s.dev d ∧ Frame { s.dev.noted d with
        eng := { s.dev.eng with halted := true }, ev := d.ev
        sramErrs := sput s.dev.sramErrs (s.dev.sramPlace region inst word) (errNormal errs) } d
        ([RegName.addr .memUeSram, RegName.addr .memStatus, RegName.addr .memSue] ++ noticeRegs) ∧
      d.ev.now.take (s.dev.ev.now.length + 1) = s.dev.ev.now ++ [⟨memEvent 4, s.dev.ssi, false, []⟩] ∧
      d.reg .memUeSram = s.dev.reg .memUeSram + 1 ∧ d.flag F.memStatusSramUe = true ∧
      d.reg .memSue = BitVec.ofNat 32 (region * 2 ^ 28 + inst % 64 * 2 ^ 22 + word % 2 ^ 17))

/-- An enabled port starts its nine lanes at NOSIG with its scramblers loaded and is DOWN; a disabled one has all its lanes OFF
and its link DOWN. A signal takes a lane to SEARCH where a search is due, else to CDR; its loss takes it to NOSIG, CDR lock to
HUNT, loss of lock back to CDR; leaving LOCKED counts with event 0, and a lane that was placed is placed no more. The search
tries the sixteen codes and keeps the best. The 96th valid header in a row locks a lane, an invalid one starts the count anew;
one in LOCKED counts and the 24th of a window sends it to HUNT. A lane in a near-end loop, or OFF, hears no block. LN_CTL takes
on a lane that carries nothing, and is refused otherwise. -/
def Obligations.LaneStates : Prop :=
  (∀ (s : State) (c : Ctx) (p : Fin 8) (v : Nat), Takes s c → v < 2 ^ 32 → s.dev.flag F.lnPctlEn p = false → s.dev.pstate p = 0 →
    s.dev.lstate p = 0 → (∀ k : Fin 9, s.dev.laneState (9 * p.val + k.val) = 0) →
    Completes (.lnPortEnable c p v) s fun d =>
      Replies s.dev d c 0x0202 stOk 1 0 [] ∧
      Frame ({ s.dev with links := d.links, slanes := d.slanes, sports := d.sports }.replied d) d
        ([RegName.addr .ceAccepted, RegName.addr .lnPctl p, RegName.addr .lnPstat p]
          ++ (List.range 9).map fun k => RegName.addr .lnStat (9 * p.val + k)) [⟨lkEvent 3, s.dev.ssi, false, []⟩] ∧
      d.flag F.lnPctlEn p = true ∧ d.flag F.lnPctlEqs p = bitOf v 1 ∧ d.pstate p = 1 ∧
      (∀ k : Fin 9, d.laneState (9 * p.val + k.val) = 1 ∧ d.slane (9 * p.val + k.val) = {}) ∧
      d.sport p = { from_ := s.dev.cycle, scr := (List.range 9).map fun k => scramblerSeed (9 * p + k), prbs := List.replicate 9 (2 ^ 31 - 1) } ∧
      (d.link p).slot = 0 ∧ (∀ q, q ≠ p.val → sfind d.links q = sfind s.dev.links q) ∧
      (∀ q, q ≠ p.val → sfind d.sports q = sfind s.dev.sports q) ∧
      ∀ q, q ∉ (List.range 9).map (9 * p.val + ·) → sfind d.slanes q = sfind s.dev.slanes q) ∧
  (∀ (s : State) (c : Ctx) (p : Fin 8) (v : Nat), Takes s c → v < 2 ^ 32 → s.dev.flag F.lnPctlEn p = true →
    Completes (.lnPortDisable c p v) s fun d =>
      ((∀ r ∈ s.dev.eng.out, r.via ≠ p) → c.via ≠ p → Replies s.dev d c 0x0202 stOk 1 0 []) ∧
      Frame { s.dev.exited d with slanes := d.slanes, ev := d.ev } d
        ([RegName.addr .ceAccepted, RegName.addr .lnPctl p, RegName.addr .lnPstat p, RegName.addr .lnDowncnt p]
          ++ (List.range 9).flatMap (fun k => [RegName.addr .lnStat (9 * p.val + k), RegName.addr .lnUnlockcnt (9 * p.val + k)])
          ++ exitRegs s.dev p) ∧
      d.flag F.lnPctlEn p = false ∧ d.pstate p = 0 ∧ (∀ k : Fin 9, d.laneState (9 * p.val + k.val) = 0) ∧
      (s.dev.pstate p ≠ 0 → s.dev.linkOpen p = true → d.lstate p = 0 ∧ d.fld F.lkPstatCause p = 2 ∧ (d.link p).replay = [] ∧
        (d.link p).out = [] ∧ (d.link p).vq = [] ∧ ∀ c ∈ s.dev.slotsOf p, sget [] d.words (1024 + c) = [s.dev.synthetic]) ∧
      (d.sport p).tx = [] ∧ (d.sport p).line = [] ∧ ∀ q, q ≠ p.val → sfind d.links q = sfind s.dev.links q) ∧
  (∀ (s : State) (n : Fin 72), Runs s → s.dev.laneState n = 1 → s.dev.flag F.lnPctlEqs (n.val / 9) = true →
    (s.dev.slane n).searched = false →
    Completes (.signalDetect n) s fun d =>
      Frame (s.dev.updSlane n fun x => { x with best := 0, bestAt := 0, eqAt := s.dev.cycle + 25000 }) d
        [RegName.addr .lnStat n, RegName.addr .lnPstat (n.val / 9), RegName.addr .lnCtl n] ∧
      d.laneState n = 2 ∧ d.flag F.lnStatSigdet n = true ∧ d.fld F.lnCtlCtle n = 0) ∧
  (∀ (s : State) (n : Fin 72), Runs s → s.dev.laneState n = 1 →
    (s.dev.flag F.lnPctlEqs (n.val / 9) = false ∨ (s.dev.slane n).searched = true) →
    Completes (.signalDetect n) s fun d =>
      Frame s.dev d [RegName.addr .lnStat n, RegName.addr .lnPstat (n.val / 9)] ∧ d.laneState n = 3 ∧ d.flag F.lnStatSigdet n = true) ∧
  (∀ (s : State) (n : Fin 72), Runs s → s.dev.laneState n ≠ 0 → s.dev.laneState n ≠ 5 →
    Completes (.signalLoss n) s fun d =>
      Frame s.dev d [RegName.addr .lnStat n, RegName.addr .lnPstat (n.val / 9)] ∧ d.laneState n = 1 ∧ d.flag F.lnStatSigdet n = false) ∧
  (∀ (s : State) (n : Fin 72), Runs s → s.dev.laneState n = 5 → s.dev.carried (n.val / 9) (n.val % 9) = none →
    Completes (.signalLoss n) s fun d =>
      Frame (s.dev.updSlane n fun x => { x with al := none, time := none, queue := [] }) d
        [RegName.addr .lnStat n, RegName.addr .lnPstat (n.val / 9), RegName.addr .lnUnlockcnt n] [⟨lkEvent 0, s.dev.ssi, false, []⟩] ∧
      d.laneState n = 1 ∧ d.flag F.lnStatUnlocked n = true ∧ d.reg .lnUnlockcnt n = s.dev.reg .lnUnlockcnt n + 1) ∧
  (∀ (s : State) (n : Fin 72) (j : Nat), Runs s → s.dev.laneState n = 5 → s.dev.carried (n.val / 9) (n.val % 9) = some j →
    Completes (.signalLoss n) s fun d =>
      Frame { s.dev.exited d with slanes := d.slanes, ev := d.ev } d
        ([RegName.addr .lnStat n, RegName.addr .lnPstat (n.val / 9), RegName.addr .lnUnlockcnt n, RegName.addr .lnDowncnt (n.val / 9)]
          ++ exitRegs s.dev (n.val / 9)) ∧
      d.laneState n = 1 ∧ d.flag F.lnStatUnlocked n = true ∧ d.reg .lnUnlockcnt n = s.dev.reg .lnUnlockcnt n + 1 ∧
      d.fld F.lnPstatPlaced (n.val / 9) = s.dev.fld F.lnPstatPlaced (n.val / 9) - 2 ^ j ∧
      d.slane n = { s.dev.slane n with al := none, time := none, queue := [] } ∧
      (∀ q, q ≠ n.val → sfind d.slanes q = sfind s.dev.slanes q) ∧
      ((s.dev.pstate (n.val / 9) = 3 ∨ s.dev.pstate (n.val / 9) = 4) →
        d.pstate (n.val / 9) = if (s.dev.placedLanes (n.val / 9)).length = 8 then 4 else 1)) ∧
  (∀ (s : State) (n : Fin 72), Runs s → s.dev.laneState n = 3 → s.dev.flag F.thStartLaneclk = false →
    Completes (.cdrLock n) s fun d =>
      Frame (s.dev.updSlane n fun x => { x with hunt := 0 }) d [RegName.addr .lnStat n, RegName.addr .lnPstat (n.val / 9)] ∧
      d.laneState n = 4) ∧
  (∀ (s : State) (n : Fin 72), Runs s → (s.dev.laneState n = 2 ∨ s.dev.laneState n = 4) →
    Completes (.cdrUnlock n) s fun d =>
      Frame s.dev d [RegName.addr .lnStat n, RegName.addr .lnPstat (n.val / 9)] ∧ d.laneState n = 3) ∧
  (∀ (s : State) (n : Fin 72), Runs s → s.dev.laneState n = 5 →
    Completes (.cdrUnlock n) s fun d =>
      Frame { s.dev.exited d with slanes := d.slanes, ev := d.ev } d
        ([RegName.addr .lnStat n, RegName.addr .lnPstat (n.val / 9), RegName.addr .lnUnlockcnt n, RegName.addr .lnDowncnt (n.val / 9)]
          ++ exitRegs s.dev (n.val / 9)) ∧
      d.laneState n = 3 ∧ d.flag F.lnStatUnlocked n = true ∧ d.reg .lnUnlockcnt n = s.dev.reg .lnUnlockcnt n + 1) ∧
  (∀ (s : State) (n : Fin 72) (m : Nat), Runs s → s.dev.laneState n = 2 → (s.dev.slane n).eqAt ≤ s.dev.cycle →
    s.dev.fld F.lnCtlCtle n < 15 → m < 256 → (s.dev.fld F.lnCtlCtle n = 0 ∨ (s.dev.slane n).best < m) →
    Completes (.eqSearchStep n m) s fun d =>
      Frame (s.dev.updSlane n fun x => { x with best := m, bestAt := s.dev.fld F.lnCtlCtle n, eqAt := x.eqAt + 25000 }) d
        [RegName.addr .lnCtl n] ∧ d.fld F.lnCtlCtle n = s.dev.fld F.lnCtlCtle n + 1) ∧
  (∀ (s : State) (n : Fin 72) (m : Nat), Runs s → s.dev.laneState n = 2 → (s.dev.slane n).eqAt ≤ s.dev.cycle →
    s.dev.fld F.lnCtlCtle n < 15 → s.dev.fld F.lnCtlCtle n ≠ 0 → m < 256 → m ≤ (s.dev.slane n).best →
    Completes (.eqSearchStep n m) s fun d =>
      Frame (s.dev.updSlane n fun x => { x with eqAt := x.eqAt + 25000 }) d [RegName.addr .lnCtl n] ∧
      d.fld F.lnCtlCtle n = s.dev.fld F.lnCtlCtle n + 1) ∧
  (∀ (s : State) (n : Fin 72) (m : Nat), Runs s → s.dev.laneState n = 2 → (s.dev.slane n).eqAt ≤ s.dev.cycle →
    s.dev.fld F.lnCtlCtle n = 15 → m ≤ (s.dev.slane n).best → (s.dev.slane n).best < 256 → (s.dev.slane n).bestAt < 16 →
    Completes (.eqSearchStep n m) s fun d =>
      Frame (s.dev.updSlane n fun x => { x with searched := true }) d
        [RegName.addr .lnCtl n, RegName.addr .lnEye n, RegName.addr .lnStat n, RegName.addr .lnPstat (n.val / 9)] ∧
      d.fld F.lnCtlCtle n = (s.dev.slane n).bestAt ∧ d.fld F.lnEyeCode n = (s.dev.slane n).bestAt ∧
      d.fld F.lnEyeMargin n = (s.dev.slane n).best ∧ d.laneState n = 3) ∧
  (∀ (s : State) (n : Fin 72) (m : Nat), Runs s → s.dev.laneState n = 2 → (s.dev.slane n).eqAt ≤ s.dev.cycle →
    s.dev.fld F.lnCtlCtle n = 15 → m < 256 → (s.dev.slane n).best < m →
    Completes (.eqSearchStep n m) s fun d =>
      Frame (s.dev.updSlane n fun x => { x with best := m, bestAt := 15, searched := true }) d
        [RegName.addr .lnCtl n, RegName.addr .lnEye n, RegName.addr .lnStat n, RegName.addr .lnPstat (n.val / 9)] ∧
      d.fld F.lnCtlCtle n = 15 ∧ d.fld F.lnEyeCode n = 15 ∧ d.fld F.lnEyeMargin n = m ∧ d.laneState n = 3) ∧
  (∀ (s : State) (n : Fin 72) (hdr body : Nat), Runs s →
    (s.dev.fld F.lnCtlLoop n = 1 ∨ s.dev.fld F.lnCtlLoop n = 2 ∨ s.dev.laneState n = 0) →
    Completes (.laneBlockRx n hdr body) s fun d => Frame s.dev d []) ∧
  (∀ (s : State) (n : Fin 72) (hdr body : Nat), Runs s → s.dev.fld F.lnCtlLoop n ≠ 1 → s.dev.fld F.lnCtlLoop n ≠ 2 →
    let b := if s.dev.flag F.lnCtlRxinv n then invertBlock (hdr, body) else (hdr, body)
    s.dev.laneState n ≠ 0 → s.dev.laneState n ≠ 4 → s.dev.laneState n ≠ 5 →
    Completes (.laneBlockRx n hdr body) s fun d =>
      Frame (s.dev.updSlane n fun x => { x with dscr := lastBits 64 x.dscr b.2, came := b }) d []) ∧
  (∀ (s : State) (n : Fin 72) (hdr body : Nat), Runs s → s.dev.fld F.lnCtlLoop n ≠ 1 → s.dev.fld F.lnCtlLoop n ≠ 2 →
    s.dev.laneState n = 4 →
    let b := if s.dev.flag F.lnCtlRxinv n then invertBlock (hdr, body) else (hdr, body)
    b.1 ≠ 1 → b.1 ≠ 2 →
    Completes (.laneBlockRx n hdr body) s fun d =>
      Frame (s.dev.updSlane n fun x => { x with dscr := lastBits 64 x.dscr b.2, came := b, hunt := 0 }) d []) ∧
  (∀ (s : State) (n : Fin 72) (hdr body : Nat), Runs s → s.dev.fld F.lnCtlLoop n ≠ 1 → s.dev.fld F.lnCtlLoop n ≠ 2 →
    s.dev.laneState n = 4 →
    let b := if s.dev.flag F.lnCtlRxinv n then invertBlock (hdr, body) else (hdr, body)
    (b.1 = 1 ∨ b.1 = 2) → (s.dev.slane n).hunt < 95 →
    Completes (.laneBlockRx n hdr body) s fun d =>
      Frame (s.dev.updSlane n fun x => { x with dscr := lastBits 64 x.dscr b.2, came := b, hunt := x.hunt + 1 }) d []) ∧
  (∀ (s : State) (n : Fin 72) (hdr body : Nat), Runs s → s.dev.fld F.lnCtlLoop n ≠ 1 → s.dev.fld F.lnCtlLoop n ≠ 2 →
    s.dev.laneState n = 4 →
    let b := if s.dev.flag F.lnCtlRxinv n then invertBlock (hdr, body) else (hdr, body)
    (b.1 = 1 ∨ b.1 = 2) → 95 ≤ (s.dev.slane n).hunt →
    Completes (.laneBlockRx n hdr body) s fun d =>
      Frame (s.dev.updSlane n fun x => { x with
        dscr := lastBits 64 x.dscr b.2, came := b, hunt := 0, win := 0, bad := 0, al := none, prbs := 0, seen := 0 }) d
        [RegName.addr .lnStat n, RegName.addr .lnPstat (n.val / 9)] ∧ d.laneState n = 5) ∧
  (∀ (s : State) (n : Fin 72) (hdr body : Nat), Runs s → s.dev.fld F.lnCtlLoop n ≠ 1 → s.dev.fld F.lnCtlLoop n ≠ 2 →
    s.dev.laneState n = 5 →
    let b := if s.dev.flag F.lnCtlRxinv n then invertBlock (hdr, body) else (hdr, body)
    let ok := b.1 == 1 || b.1 == 2
    let plain := descramble (s.dev.slane n).dscr b.2
    (s.dev.slane n).bad + b2n (!ok) < 24 →
    Completes (.laneBlockRx n hdr body) s fun d =>
      Frame { s.dev with slanes := d.slanes, sports := d.sports, links := d.links, inbox := d.inbox, free := d.free } d
        [RegName.addr .lnHdrerr n, RegName.addr .lnStat n, RegName.addr .lnBlkerr n, RegName.addr .lnPrbserr n] ∧ d.laneState n = 5 ∧
      (d.slane n).dscr = lastBits 64 (s.dev.slane n).dscr b.2 ∧ (d.slane n).came = b ∧
      (d.slane n).win = (if (s.dev.slane n).win = 255 then 0 else (s.dev.slane n).win + 1) ∧
      (d.slane n).bad = (if (s.dev.slane n).win = 255 then 0 else (s.dev.slane n).bad + b2n (!ok)) ∧
      d.reg .lnHdrerr n = s.dev.reg .lnHdrerr n + BitVec.ofNat 32 (b2n (!ok)) ∧
      d.reg .lnBlkerr n = s.dev.reg .lnBlkerr n + BitVec.ofNat 32 (b2n (b.1 == 2 && badControl plain)) ∧
      (∀ q, q ≠ n.val / 9 → sfind d.links q = sfind s.dev.links q) ∧ ∀ q, q ≠ n.val / 9 → sfind d.sports q = sfind s.dev.sports q) ∧
  (∀ (s : State) (n : Fin 72) (hdr body : Nat), Runs s → s.dev.fld F.lnCtlLoop n ≠ 1 → s.dev.fld F.lnCtlLoop n ≠ 2 →
    s.dev.laneState n = 5 →
    let b := if s.dev.flag F.lnCtlRxinv n then invertBlock (hdr, body) else (hdr, body)
    b.1 ≠ 1 → b.1 ≠ 2 → 23 ≤ (s.dev.slane n).bad →
    Completes (.laneBlockRx n hdr body) s fun d =>
      Frame { s.dev.exited d with slanes := d.slanes, ev := d.ev } d
        ([RegName.addr .lnHdrerr n, RegName.addr .lnStat n, RegName.addr .lnPstat (n.val / 9), RegName.addr .lnUnlockcnt n,
          RegName.addr .lnDowncnt (n.val / 9)] ++ exitRegs s.dev (n.val / 9)) ∧
      d.laneState n = 4 ∧ (d.slane n).hunt = 0 ∧ d.reg .lnHdrerr n = s.dev.reg .lnHdrerr n + 1 ∧
      d.reg .lnUnlockcnt n = s.dev.reg .lnUnlockcnt n + 1) ∧
  (∀ (s : State) (c : Ctx) (n : Fin 72) (v : Nat), Takes s c → v < 2 ^ 13 → bitsOf v 11 10 < 2 →
    (s.dev.pstate (n.val / 9) = 3 ∨ s.dev.pstate (n.val / 9) = 4 → s.dev.carried (n.val / 9) (n.val % 9) = none) →
    Alters (.lnCtlWrite c n v) c 0x0202 s (fun d => { s.dev with slanes := d.slanes }) [RegName.addr .lnCtl n] fun d =>
      d.reg .lnCtl n = BitVec.ofNat 32 v ∧
      (d.slane n = if bitsOf v 11 10 = s.dev.fld F.lnCtlTestpat n then s.dev.slane n else { s.dev.slane n with prbs := 0, seen := 0 }) ∧
      ∀ q, q ≠ n.val → sfind d.slanes q = sfind s.dev.slanes q) ∧
  (∀ (s : State) (c : Ctx) (n : Fin 72) (v : Nat), Takes s c → v < 2 ^ 32 → 2 ≤ bitsOf v 11 10 →
    Refuses (.lnCtlWrite c n v) c 0x0202 s stBadArg 0) ∧
  (∀ (s : State) (c : Ctx) (n : Fin 72) (v j : Nat), Takes s c → v < 2 ^ 32 → bitsOf v 11 10 < 2 →
    (s.dev.pstate (n.val / 9) = 3 ∨ s.dev.pstate (n.val / 9) = 4) → s.dev.carried (n.val / 9) (n.val % 9) = some j →
    Refuses (.lnCtlWrite c n v) c 0x0202 s stBusy 0)

/-- An ALIGN whose CHECK fails only sets BADALIGN; a good one on a locked lane outside the far-end loop shows its logical lane;
the first of its time opens it, the last closes it: lanes are placed, ALSEQ shown, and the port is UP with eight lanes placed,
DEGRADED with seven, else ALIGNING or DOWN; one more than 31 blocks late sets DESKEW_FAIL. Every 16,384th block that a pair
sends is its ALIGN, with its logical lane, the port, the device number, the time's count and CHECK; what a scrambler does, a
descrambler undoes. An alignment time of an enabled port is counted, a DOWN port with seven lanes placed by their ALIGN becomes
ALIGNING, and a skipped lane moves to the spare. ROLE and DEVID take while the ports concerned are disabled, and are refused
with BUSY otherwise. -/
def Obligations.Alignment : Prop :=
  (∀ (s : State) (n : Fin 72) (b : AlignBlock), Runs s → (s.dev.laneState n ≠ 5 ∨ s.dev.fld F.lnCtlLoop n = 3) →
    Completes (.alignBlockRx n b) s fun d => Frame s.dev d []) ∧
  (∀ (s : State) (n : Fin 72) (b : AlignBlock), Runs s → s.dev.laneState n = 5 → s.dev.fld F.lnCtlLoop n ≠ 3 → alignGood b = false →
    Completes (.alignBlockRx n b) s fun d => Frame s.dev d [RegName.addr .lnStat n] ∧ d.flag F.lnStatBadalign n = true) ∧
  (∀ (s : State) (n : Fin 72) (b : AlignBlock), Runs s → s.dev.laneState n = 5 → s.dev.fld F.lnCtlLoop n ≠ 3 → alignGood b = true →
    (s.dev.sport (n.val / 9)).judge = none → (∀ x ∈ (s.dev.sport (n.val / 9)).last, x.1 ≠ alignSeq b) →
    Completes (.alignBlockRx n b) s fun d =>
      Frame ((s.dev.updSlane n fun x => { x with al := some b }).updSport (n.val / 9) fun x =>
        { x with judge := some (alignSeq b, b.at_, s.dev.cycle + 20) }) d [RegName.addr .lnStat n] ∧
      d.fld F.lnStatLlane n = bitsOf b.body 11 8) ∧
  (∀ (s : State) (n : Fin 72) (b : AlignBlock) (first x : Nat) (k : Fin 9), Runs s → s.dev.laneState n = 5 →
    s.dev.fld F.lnCtlLoop n ≠ 3 → alignGood b = true →
    (s.dev.sport (n.val / 9)).judge = some (alignSeq b, first, x) → b.at_ ≤ first + 31 → 9 * (n.val / 9) + k.val ≠ n.val →
    k.val ∈ s.dev.liveLanes (n.val / 9) → (∀ a ∈ (s.dev.slane (9 * (n.val / 9) + k.val)).al, alignSeq a ≠ alignSeq b) →
    Completes (.alignBlockRx n b) s fun d =>
      Frame (s.dev.updSlane n fun x => { x with al := some b }) d [RegName.addr .lnStat n] ∧
      d.fld F.lnStatLlane n = bitsOf b.body 11 8) ∧
  (∀ (s : State) (n : Fin 72) (b : AlignBlock) (first : Nat), Runs s → s.dev.laneState n = 5 → s.dev.fld F.lnCtlLoop n ≠ 3 →
    alignGood b = true → (s.dev.sport (n.val / 9)).judge = none → (s.dev.sport (n.val / 9)).last = some (alignSeq b, first) →
    (s.dev.sport (n.val / 9)).skewed ≠ some (alignSeq b) → first + 31 < b.at_ →
    Completes (.alignBlockRx n b) s fun d =>
      Frame ((s.dev.updSlane n fun x => { x with al := some b }).updSport (n.val / 9) fun x => { x with skewed := some (alignSeq b) }) d
        [RegName.addr .lnStat n, RegName.addr .lnPstat (n.val / 9)] [⟨lkEvent 5, s.dev.ssi, false, []⟩] ∧
      d.flag F.lnPstatDeskewFail (n.val / 9) = true) ∧
  (∀ (s : State) (n : Fin 72) (b : AlignBlock) (first x : Nat), Runs s → s.dev.laneState n = 5 → s.dev.fld F.lnCtlLoop n ≠ 3 →
    alignGood b = true → (s.dev.sport (n.val / 9)).judge = some (alignSeq b, first, x) → b.at_ ≤ first + 31 →
    (∀ k : Fin 9, k.val ∈ s.dev.liveLanes (n.val / 9) → 9 * (n.val / 9) + k.val = n.val ∨
      ∃ a, (s.dev.slane (9 * (n.val / 9) + k.val)).al = some a ∧ alignSeq a = alignSeq b) →
    Completes (.alignBlockRx n b) s fun d =>
      Frame { s.dev.exited d with slanes := d.slanes, ev := d.ev } d
        ([RegName.addr .lnStat n, RegName.addr .lnPmap (n.val / 9), RegName.addr .lnPstat (n.val / 9), RegName.addr .lnPeer (n.val / 9),
          RegName.addr .lnAlseq (n.val / 9), RegName.addr .lnUpcnt (n.val / 9), RegName.addr .lnDowncnt (n.val / 9)]
          ++ (List.range 9).map (fun k => RegName.addr .lnDskw (9 * (n.val / 9) + k)) ++ exitRegs s.dev (n.val / 9)) ∧
      d.fld F.lnStatLlane n = bitsOf b.body 11 8 ∧ d.reg .lnAlseq (n.val / 9) = BitVec.ofNat 32 (alignSeq b) ∧
      (d.sport (n.val / 9)).judge = none ∧ (d.sport (n.val / 9)).last = some (alignSeq b, first) ∧
      (let n8 := (d.placedLanes (n.val / 9)).length
       if n8 = 8 then d.pstate (n.val / 9) = 3 else if n8 = 7 then d.pstate (n.val / 9) = 4
       else d.pstate (n.val / 9) = 1 ∨ d.pstate (n.val / 9) = 2)) ∧
  (∀ (d : Device) (p : Fin 8) (k : Fin 9) (t : Nat), (d.sport p).time = 16384 * t → d.fld F.lnCtlLoop (9 * p.val + k.val) ≠ 3 →
    (∀ j ∈ (d.link p).onSpare, j < 8) →
    ∃ b, (d.sendPair p k).1 = (2, scramble ((d.sport p).scr.getD k 0) b) ∧ b % 256 = 0x78 ∧ bitsOf b 14 12 = p.val ∧
      bitsOf b 11 8 = ((d.link p).carries k).getD 15 ∧ bitsOf b 29 16 = d.fld F.lkDevidDevid ∧ bitsOf b 47 32 = t % 65536 ∧
      alignGood ⟨b, 0⟩ = true) ∧
  (∀ (r b : Nat), r < 2 ^ 58 → b < 2 ^ 64 → descramble r (scramble r b) = b) ∧
  (∀ (s : State) (p : Fin 8), Runs s → s.dev.alignDue p = false → Completes (.alignTime p) s fun d => Frame s.dev d []) ∧
  (∀ (s : State) (p : Fin 8), Runs s → s.dev.alignDue p = true → s.dev.flag F.lkPstatSkip p = false → s.dev.pstate p ≠ 1 →
    s.dev.pstate p ≠ 2 →
    Completes (.alignTime p) s fun d => Frame (s.dev.updSport p fun x => { x with sent := x.sent + 1 }) d []) ∧
  (∀ (s : State) (p : Fin 8) (j : Nat), Runs s → s.dev.alignDue p = true → s.dev.flag F.lkPstatSkip p = true →
    s.dev.fld F.lkPstatSkiplane p = j → (s.dev.link p).onSpare = none → s.dev.pstate p ≠ 1 → s.dev.pstate p ≠ 2 →
    Completes (.alignTime p) s fun d =>
      Frame { (s.dev.updSport p fun x => { x with sent := x.sent + 1 }).updLink p fun x => { x with onSpare := some j } with
        ev := { s.dev.ev with evc := d.ev.evc } } d [RegName.addr .lkPstat p, RegName.addr .lkSparecnt p]
        [⟨lkEvent 10, s.dev.ssi, false, []⟩] ∧
      d.flag F.lkPstatSkip p = false ∧ d.flag F.lkPstatSpared p = true ∧ d.reg .lkSparecnt p = s.dev.reg .lkSparecnt p + 1 ∧
      (d.link p).carries 8 = some j ∧ (j < 8 → (d.link p).carries j = none)) ∧
  (∀ (s : State) (p : Fin 8), Runs s → s.dev.alignDue p = true → s.dev.flag F.lkPstatSkip p = false → s.dev.pstate p = 1 →
    7 ≤ ((s.dev.liveLanes p).filter fun k => s.dev.fld F.lnStatLlane (9 * p.val + k) != 15).length → s.dev.lstate p = 0 →
    Completes (.alignTime p) s fun d =>
      Frame (s.dev.updSport p fun x => { x with sent := x.sent + 1, rxu := none, rxf := none }) d [RegName.addr .lnPstat p] ∧
      d.pstate p = 2) ∧
  (∀ (s : State) (p : Fin 8), Runs s → s.dev.alignDue p = true → s.dev.flag F.lkPstatSkip p = false → s.dev.pstate p = 2 →
    ((s.dev.liveLanes p).filter fun k => s.dev.fld F.lnStatLlane (9 * p.val + k) != 15).length < 7 → s.dev.lstate p = 0 →
    Completes (.alignTime p) s fun d =>
      Frame (s.dev.updSport p fun x => { x with sent := x.sent + 1, rxu := none, rxf := none, ext := none }) d
        [RegName.addr .lnPstat p] [⟨lkEvent 3, s.dev.ssi, false, []⟩] ∧ d.pstate p = 1) ∧
  (∀ (s : State) (c : Ctx) (p : Fin 8) (v : Nat), Takes s c → v < 2 ^ 32 → (bitOf v 1 = false ∨ s.dev.lstate p ≠ 4) →
    (s.dev.flag F.lnPctlEn p = false ∨ bitOf v 0 = s.dev.flag F.lkPctlRole p) →
    Answers (.lkRoleWrite c p v) c 0x0202 s [] s.dev [RegName.addr .lkPctl p] [] fun d => d.flag F.lkPctlRole p = bitOf v 0) ∧
  (∀ (s : State) (c : Ctx) (p : Fin 8) (v : Nat), Takes s c → v < 2 ^ 32 → bitOf v 0 ≠ s.dev.flag F.lkPctlRole p →
    s.dev.flag F.lnPctlEn p = true → Refuses (.lkRoleWrite c p v) c 0x0202 s stBusy 0) ∧
  (∀ (s : State) (c : Ctx) (v : Nat), Takes s c → v < 2 ^ 32 → (∀ p : Fin 8, s.dev.flag F.lnPctlEn p = false) →
    Answers (.devidWrite c v) c 0x0202 s [] s.dev [RegName.addr .lkDevid] [] fun d => d.fld F.lkDevidDevid = v % 2 ^ 14) ∧
  (∀ (s : State) (c : Ctx) (v : Nat) (p : Fin 8), Takes s c → v < 2 ^ 32 → s.dev.flag F.lnPctlEn p = true →
    Refuses (.devidWrite c v) c 0x0202 s stBusy 0)

/-- In INIT a due LINIT is sent and a received one kept; with both ends answered a host port enters UP, counted with event 6,
and a peer port ATTEST, where it sends its HELLO; an end that does not fit sets ROLEMIS. In ATTEST a HELLO that passes gives
the link keys and is answered with a signed FINISH, and a good FINISH then brings UP; a HELLO or a signature that fails, or 100
ms without success, halts the link, and so does a FINISH whose tag fails. A RESET block and 8 us without LINK or LINIT take the
link DOWN with their CAUSE. RESTART takes a halted link to DOWN, and to INIT where its port works. LINK_STATS returns the
link's registers. -/
def Obligations.LinkStates : Prop :=
  (∀ (s : State) (p : Fin 8), Runs s → s.dev.linitDue p = false → Completes (.linitSend p) s fun d => Frame s.dev d []) ∧
  (∀ (s : State) (p : Fin 8), Runs s → s.dev.linitDue p = true →
    ((s.dev.link p).got && !(s.dev.link p).sentAcked && (s.dev.link p).farAcked) = false →
    Completes (.linitSend p) s fun d =>
      Frame (sendCtrl p (s.dev.linitBlock p) (s.dev.updLink p fun x => { x with
        linitAt := s.dev.cycle + 500, sentAcked := x.sentAcked || x.got, sent := s.dev.linitBlock p })) d []) ∧
  (∀ (s : State) (p : Fin 8), Runs s → s.dev.linitDue p = true → (s.dev.link p).got = true → (s.dev.link p).sentAcked = false →
    (s.dev.link p).farAcked = true → s.dev.isPeer p = false → (s.dev.link p).farKind = 0 → s.dev.fld F.lkPeerbufBuf0 p ≠ 0 →
    s.dev.fld F.lkPeerbufBuf3 p ≠ 0 →
    (∀ n : Fin 8, (s.dev.session n).isOpen = true → (s.dev.session n).via = p → (s.dev.session n).epoch < 65535) →
    Completes (.linitSend p) s fun d =>
      Frame ((sendCtrl p (s.dev.linitBlock p) (s.dev.updLink p fun x => { x with
          linitAt := s.dev.cycle + 500, sentAcked := true, sent := s.dev.linitBlock p, heard := s.dev.cycle
          cred := [8 * s.dev.fld F.lkPeerbufBuf0 p, 8 * s.dev.fld F.lkPeerbufBuf2 p, 8 * s.dev.fld F.lkPeerbufBuf3 p] })).upped d p) d
        [RegName.addr .lkPstat p, RegName.addr .lkUpcnt p] [⟨lkEvent 6, s.dev.ssi, false, []⟩] ∧ NextEpochs s.dev d p ∧
      d.lstate p = 3 ∧ d.reg .lkUpcnt p = s.dev.reg .lkUpcnt p + 1) ∧
  (∀ (s : State) (p : Fin 8), Runs s → s.dev.linitDue p = true → (s.dev.link p).got = true → (s.dev.link p).sentAcked = false →
    (s.dev.link p).farAcked = true → s.dev.isPeer p = true → (s.dev.link p).farKind = 2 → s.dev.fld F.lkPeerbufBuf0 p ≠ 0 →
    s.dev.fld F.lkPeerbufBuf3 p ≠ 0 →
    Completes (.linitSend p) s fun d =>
      Frame { sendCtrl p (s.dev.linitBlock p) s.dev with links := d.links, free := s.dev.free + 2 } d [RegName.addr .lkPstat p] ∧
      (∀ q, q ≠ p.val → sfind d.links q = sfind s.dev.links q) ∧ d.lstate p = 2 ∧
      d.link p = { s.dev.link p with
        linitAt := s.dev.cycle + 500, sentAcked := true, sent := s.dev.linitBlock p, heard := s.dev.cycle, attestAt := s.dev.cycle
        cred := [8 * s.dev.fld F.lkPeerbufBuf0 p, 8 * s.dev.fld F.lkPeerbufBuf2 p, 8 * s.dev.fld F.lkPeerbufBuf3 p]
        hello := none, far := [], txKeys := [], rxKeys := [], eph := (d.link p).eph, nonce := (d.link p).nonce
        mine := s.dev.helloBytes p (d.link p).eph (d.link p).nonce
        out := (s.dev.link p).out ++
          packetFrames 0 (attestHeader 0x7F01 (d.link p).mine.length) (d.link p).mine (zeros 16) } ∧ (d.link p).nonce.length = 32) ∧
  (∀ (s : State) (p : Fin 8), Runs s → s.dev.linitDue p = true → (s.dev.link p).got = true → (s.dev.link p).sentAcked = false →
    (s.dev.link p).farAcked = true →
    ((s.dev.link p).farKind ≠ (if s.dev.isPeer p then 2 else 0) ∨ s.dev.fld F.lkPeerbufBuf0 p = 0 ∨ s.dev.fld F.lkPeerbufBuf3 p = 0) →
    Completes (.linitSend p) s fun d =>
      Frame (sendCtrl p (s.dev.linitBlock p) (s.dev.updLink p fun x => { x with
        linitAt := s.dev.cycle + 500, sentAcked := true, sent := s.dev.linitBlock p })) d [RegName.addr .lkPstat p]
        [⟨lkEvent 11, s.dev.ssi, false, []⟩] ∧ d.flag F.lkPstatRolemis p = true ∧ d.lstate p = 1) ∧
  (∀ (s : State) (p : Fin 8) (b : LinitBlock), Runs s → s.dev.lstate p = 1 →
    (((s.dev.link p).farAcked || b.acked) && (s.dev.link p).sentAcked) = false →
    Completes (.linitRx p b) s fun d =>
      Frame (s.dev.updLink p fun x => { x with
        got := true, farKind := b.kind, farAcked := x.farAcked || b.acked, heard := s.dev.cycle }) d [RegName.addr .lkPeerbuf p] ∧
      d.fld F.lkPeerbufBuf0 p = b.buf0 % 256 ∧ d.fld F.lkPeerbufBuf2 p = b.buf2 % 256 ∧ d.fld F.lkPeerbufBuf3 p = b.buf3 % 256) ∧
  (∀ (s : State) (p : Fin 8) (b : LinitBlock), Runs s → s.dev.lstate p = 1 → ((s.dev.link p).farAcked || b.acked) = true →
    (s.dev.link p).sentAcked = true → s.dev.isPeer p = false → b.kind = 0 → b.buf0 % 256 ≠ 0 → b.buf3 % 256 ≠ 0 →
    (∀ n : Fin 8, (s.dev.session n).isOpen = true → (s.dev.session n).via = p → (s.dev.session n).epoch < 65535) →
    Completes (.linitRx p b) s fun d =>
      Frame ((s.dev.updLink p fun x => { x with
          got := true, farKind := b.kind, farAcked := true, heard := s.dev.cycle
          cred := [8 * (b.buf0 % 256), 8 * (b.buf2 % 256), 8 * (b.buf3 % 256)] }).upped d p) d
        [RegName.addr .lkPeerbuf p, RegName.addr .lkPstat p, RegName.addr .lkUpcnt p] [⟨lkEvent 6, s.dev.ssi, false, []⟩] ∧
      NextEpochs s.dev d p ∧ d.lstate p = 3 ∧ d.reg .lkUpcnt p = s.dev.reg .lkUpcnt p + 1) ∧
  (∀ (s : State) (p : Fin 8) (b : LinitBlock), Runs s → s.dev.linkOpen p = true →
    Completes (.linitRx p b) s fun d => Frame (s.dev.updLink p fun x => { x with heard := s.dev.cycle }) d []) ∧
  (∀ (s : State) (p : Fin 8) (h : Hello), Runs s → s.dev.lstate p = 2 → (s.dev.link p).hello = none → h.certOk = true →
    h.leafOk = true → sliceB h.payload 132 48 = (List.range 12).flatMap (fun w => leBytes 4 (s.dev.reg .secOwnerdig 0 w).toNat) →
    fieldB h.payload 0 2 = s.dev.fld F.lnPeerDevid p → onCurve (pointOf (sliceB h.payload 4 96)) = true →
    Completes (.helloRx p h) s fun d =>
      let key := sharedValue (s.dev.link p).eph (sliceB h.payload 4 96)
      let lower := beNat idKey < beNat (sliceB h.payload 180 96)
      let ks := if lower then linkKeys key (s.dev.link p).nonce (sliceB h.payload 100 32)
        else linkKeys key (sliceB h.payload 100 32) (s.dev.link p).nonce
      let sig := (identitySign ((s.dev.link p).mine ++ h.payload) s.dev).1
      Frame { s.dev with links := d.links, free := s.dev.free + 1 } d [] ∧
      (∀ q, q ≠ p.val → sfind d.links q = sfind s.dev.links q) ∧
      d.link p = { s.dev.link p with
        hello := some true, far := h.payload, txKeys := if lower then ks.1 else ks.2, rxKeys := if lower then ks.2 else ks.1
        out := (s.dev.link p).out ++
          packetFrames 0 (attestHeader 0x7F02 96) sig (finishTag (d.link p).txKeys (attestHeader 0x7F02 96) sig) }) ∧
  (∀ (s : State) (p : Fin 8) (h : Hello), Runs s → s.dev.lstate p = 2 → (s.dev.link p).hello = none → h.certOk = true →
    h.leafOk = true → sliceB h.payload 132 48 = (List.range 12).flatMap (fun w => leBytes 4 (s.dev.reg .secOwnerdig 0 w).toNat) →
    fieldB h.payload 0 2 = s.dev.fld F.lnPeerDevid p → onCurve (pointOf (sliceB h.payload 4 96)) = false →
    Completes (.helloRx p h) s fun d =>
      Frame { s.dev with links := d.links, free := s.dev.free + 2 } d [] ∧ (d.link p).hello = some true ∧ (d.link p).far = h.payload ∧
      (∀ q, q ≠ p.val → sfind d.links q = sfind s.dev.links q)) ∧
  (∀ (s : State) (p : Fin 8) (h : Hello), Runs s → s.dev.lstate p = 2 → (s.dev.link p).hello = none →
    (h.certOk = false ∨ h.leafOk = false ∨ fieldB h.payload 0 2 ≠ s.dev.fld F.lnPeerDevid p ∨
      sliceB h.payload 132 48 ≠ (List.range 12).flatMap fun w => leBytes 4 (s.dev.reg .secOwnerdig 0 w).toNat) →
    Completes (.helloRx p h) s fun d =>
      Frame (s.dev.exited d) d (exitRegs s.dev p) [⟨ceEvent 11, s.dev.ssi, false, []⟩, ⟨lkEvent 8, s.dev.ssi, false, []⟩] ∧
      LinkExited s.dev d p 4 7 ∧ d.reg .lkHaltcnt p = s.dev.reg .lkHaltcnt p + 1) ∧
  (∀ (s : State) (p : Fin 8) (h : Hello), Runs s → (s.dev.lstate p ≠ 2 ∨ (s.dev.link p).hello ≠ none) →
    Completes (.helloRx p h) s fun d => Frame s.dev d []) ∧
  (∀ (s : State) (p : Fin 8) (f : Finish), Runs s → s.dev.lstate p = 2 → (s.dev.link p).hello = some true →
    finishTag (s.dev.link p).rxKeys (attestHeader 0x7F02 96) f.payload = f.tag →
    (∀ n : Fin 8, (s.dev.session n).isOpen = true → (s.dev.session n).via = p → (s.dev.session n).epoch < 65535) →
    Completes (.finishRx p f true) s fun d =>
      Frame ((s.dev.updLink p fun x => { x with heard := s.dev.cycle }).upped d p) d
        [RegName.addr .lkPstat p, RegName.addr .lkUpcnt p] [⟨lkEvent 6, s.dev.ssi, false, []⟩] ∧ NextEpochs s.dev d p ∧
      d.lstate p = 3 ∧ d.reg .lkUpcnt p = s.dev.reg .lkUpcnt p + 1) ∧
  (∀ (s : State) (p : Fin 8) (f : Finish) (sigOk : Bool), Runs s → s.dev.lstate p = 2 → ((s.dev.link p).hello ≠ some true ∨ sigOk = false ∧
      finishTag (s.dev.link p).rxKeys (attestHeader 0x7F02 96) f.payload = f.tag) →
    Completes (.finishRx p f sigOk) s fun d =>
      Frame (s.dev.exited d) d (exitRegs s.dev p) [⟨ceEvent 11, s.dev.ssi, false, []⟩, ⟨lkEvent 8, s.dev.ssi, false, []⟩] ∧
      LinkExited s.dev d p 4 7 ∧ d.reg .lkHaltcnt p = s.dev.reg .lkHaltcnt p + 1) ∧
  (∀ (s : State) (p : Fin 8) (f : Finish) (sigOk : Bool), Runs s → s.dev.lstate p = 2 → (s.dev.link p).hello = some true →
    finishTag (s.dev.link p).rxKeys (attestHeader 0x7F02 96) f.payload ≠ f.tag → s.dev.suspects p = [] →
    Completes (.finishRx p f sigOk) s fun d =>
      Frame (s.dev.exited d) d (RegName.addr .secTagfail 0 p :: exitRegs s.dev p)
        [⟨ceEvent 10, s.dev.ssi, false, []⟩, ⟨lkEvent 8, s.dev.ssi, false, []⟩] ∧
      LinkExited s.dev d p 4 6 ∧ d.reg .secTagfail 0 p = s.dev.reg .secTagfail 0 p + 1) ∧
  (∀ (s : State) (p : Fin 8) (f : Finish) (sigOk : Bool), Runs s → s.dev.lstate p ≠ 2 → Completes (.finishRx p f sigOk) s fun d => Frame s.dev d []) ∧
  (∀ (s : State) (p : Fin 8), Runs s → s.dev.lstate p = 2 → (s.dev.link p).attestAt + 50000000 ≤ s.dev.cycle →
    Completes (.attestTimeout p) s fun d =>
      Frame (s.dev.exited d) d (exitRegs s.dev p) [⟨ceEvent 11, s.dev.ssi, false, []⟩, ⟨lkEvent 8, s.dev.ssi, false, []⟩] ∧
      LinkExited s.dev d p 4 7) ∧
  (∀ (s : State) (p : Fin 8), Runs s → (s.dev.lstate p ≠ 2 ∨ s.dev.cycle < (s.dev.link p).attestAt + 50000000) →
    Completes (.attestTimeout p) s fun d => Frame s.dev d []) ∧
  (∀ (s : State) (p : Fin 8), Runs s → s.dev.linkOpen p = true →
    Completes (.resetBlockRx p) s fun d =>
      Frame (s.dev.exited d) d (exitRegs s.dev p) [⟨lkEvent 7, s.dev.ssi, false, []⟩] ∧ LinkExited s.dev d p 0 4) ∧
  (∀ (s : State) (p : Fin 8), Runs s → s.dev.lstate p = 1 →
    Completes (.resetBlockRx p) s fun d => Frame s.dev d [RegName.addr .lkPstat p] ∧ d.lstate p = 0) ∧
  (∀ (s : State) (p : Fin 8), Runs s → s.dev.linkOpen p = true → (s.dev.link p).heard + 4000 ≤ s.dev.cycle →
    Completes (.linkTimeout p) s fun d =>
      Frame (s.dev.exited d) d (exitRegs s.dev p) [⟨lkEvent 7, s.dev.ssi, false, []⟩] ∧ LinkExited s.dev d p 0 5) ∧
  (∀ (s : State) (p : Fin 8), Runs s → s.dev.lstate p = 1 → (s.dev.link p).heard + 4000 ≤ s.dev.cycle →
    Completes (.linkTimeout p) s fun d => Frame s.dev d [RegName.addr .lkPstat p] ∧ d.lstate p = 0) ∧
  (∀ (s : State) (p : Fin 8), Runs s → s.dev.cycle < (s.dev.link p).heard + 4000 →
    Completes (.linkTimeout p) s fun d => Frame s.dev d []) ∧
  (∀ (s : State) (c : Ctx) (p : Fin 8) (v : Nat), Takes s c → v < 2 ^ 32 → bitOf v 0 = s.dev.flag F.lkPctlRole p → s.dev.lstate p = 4 →
    s.dev.physOk p = false →
    Answers (.linkRestart c p v) c 0x0202 s [] s.dev [RegName.addr .lkPctl p, RegName.addr .lkPstat p] [] fun d => d.lstate p = 0) ∧
  (∀ (s : State) (c : Ctx) (p : Fin 8) (v : Nat), Takes s c → v < 2 ^ 32 → bitOf v 0 = s.dev.flag F.lkPctlRole p → s.dev.lstate p = 4 →
    s.dev.physOk p = true →
    Alters (.linkRestart c p v) c 0x0202 s (fun d => { s.dev with links := d.links }) [RegName.addr .lkPctl p, RegName.addr .lkPstat p] fun d =>
      d.lstate p = 1 ∧ (∀ q, q ≠ p.val → sfind d.links q = sfind s.dev.links q) ∧
      d.link p = { s.dev.link p with
        cred := [0, 0, 0], fseq := 0, replay := [], resend := [], expect := 0, fail := none, part := [], back := [0, 0, 0], hello := none
        seen := [0, 0, 0], owe := [0, 0, 0], farAcked := false, got := false, sentAcked := false, heard := s.dev.cycle
        linitAt := s.dev.cycle }) ∧
  (∀ (s : State) (c : Ctx) (p : Fin 8) (v : Nat), Takes s c → v < 2 ^ 32 → bitOf v 0 = s.dev.flag F.lkPctlRole p → s.dev.lstate p ≠ 4 →
    Answers (.linkRestart c p v) c 0x0202 s [] s.dev [RegName.addr .lkPctl p] [] fun d => d.lstate p = s.dev.lstate p) ∧
  (∀ (s : State) (c : Ctx) (p : Nat), Takes s c → 8 ≤ p → Refuses (.linkStats c p) c 0x0B01 s stBadArg 0) ∧
  (∀ (s : State) (c : Ctx) (p : Nat), Takes s c → p < 8 →
    OnlyAnswers (.linkStats c p) c 0x0B01 s (([.lkPctl, .lkPstat, .lkCred0, .lkCred23, .lkPeerbuf, .lkReplay, .lkRtwait, .lkRetrycnt,
      .lkGiveup, .lkV1retry, .lkV1lost, .lkLostfr, .lkMisvc, .lkSparecnt, .lkFtx, .lkFrx, .lkUpcnt, .lkHaltcnt] : List RegName).flatMap
        fun r => leBytes 4 ((s.dev.accept c 0x0B01).view r p 0 0).toNat))

/-- A control block takes the next slot that it may, with its CHECK; what a frame's head carries is read back from it, and the
frame is good. A frame with a credit is sent once, kept for replay and numbered; one to resend goes first, and a VC1 tag frame
goes before new ones. The expected good frame moves E on and returns its credit, or keeps it while the command queue is full; a
peer's frame of another channel is counted; a bad one sends RETRY(E). LINK blocks carry E and the credits, and free what the
far end has. RETRY resends from its frame, RETRY1 puts a kept VC1 block first or counts it lost, a RETRY unanswered for 1 us
goes again, and after 4 us the receiver gives up: SPARE for the lane to blame, else RESET and DOWN. SPARE makes the transmitter
skip the lane and resend. -/
def Obligations.FramesAndRetries : Prop :=
  (∀ (d : Device) (p : Fin 8) (b : Nat), d.flag F.lnPctlEn p = true → d.lstate p ≠ 4 →
    ∃ n, max (d.sport p).next (d.sport p).slotNow ≤ n ∧ d.mayTake p n = true ∧
      (∀ m, max (d.sport p).next (d.sport p).slotNow ≤ m → m < n → d.mayTake p m = false) ∧
      ((sendCtrl p b d).sport p).next = n + 1 ∧ sfind ((sendCtrl p b d).sport p).tx n = some (2, sealControl b)) ∧
  (∀ (f : LFrame), f.vc < 4 → f.fseq < 4096 → f.data.length = 32 →
    let g : Sys2Proof.Frame := ⟨f.head, f.blocks.map fun b => (true, b), false⟩
    frameGood g = true ∧ frameVc g = f.vc ∧ frameFirst g = f.first ∧ frameLast g = f.tag ∧ frameSeq g = f.fseq ∧ frameData g = f.data) ∧
  (∀ (s : State) (p : Fin 8), Runs s → s.dev.linkOpen p = false → Completes (.frameSend p) s fun d => Frame s.dev d []) ∧
  (∀ (s : State) (p : Fin 8) (f : LFrame) (t : List LFrame), Runs s → s.dev.linkOpen p = true →
    (s.dev.isPeer p = true ∨ (∀ r ∈ s.dev.eng.out, r.via ≠ p) ∧ s.dev.noticesOn p = []) →
    (s.dev.link p).resend = f :: t → s.dev.sramErrsAt 8 p (f.fseq % 2048) = [] →
    Completes (.frameSend p) s fun d =>
      Frame (putSlots p ((2, f.head) :: f.blocks.map fun b => (1, b)) (s.dev.updLink p fun x => { x with resend := t })) d
        [RegName.addr .lkFtx p] ∧ d.reg .lkFtx p = s.dev.reg .lkFtx p + 1) ∧
  (∀ (s : State) (p : Fin 8) (a : Nat × Nat) (t : List (Nat × Nat)) (f : LFrame), Runs s → s.dev.linkOpen p = true →
    (s.dev.isPeer p = true ∨ (∀ r ∈ s.dev.eng.out, r.via ≠ p) ∧ s.dev.noticesOn p = []) →
    (s.dev.link p).resend = [] → (s.dev.link p).replay.length < 2048 → (s.dev.link p).owed = a :: t →
    f = { fseq := (s.dev.link p).fseq, vc := 1, first := true, tag := true, data := tagPayload (a :: t) } →
    Completes (.frameSend p) s fun d =>
      Frame (putSlots p ((2, f.head) :: f.blocks.map fun b => (1, b)) (sramWritten 8 p (f.fseq % 2048) 1 (s.dev.updLink p fun x => { x with
        owed := t.drop 1, fseq := (x.fseq + 1) % 4096, replay := x.replay ++ [f] }))) d
        [RegName.addr .lkFtx p] ∧ d.reg .lkFtx p = s.dev.reg .lkFtx p + 1) ∧
  (∀ (s : State) (p : Fin 8) (f : LFrame) (rest : List LFrame) (vc : Nat), Runs s → s.dev.linkOpen p = true →
    (s.dev.isPeer p = true ∨ (∀ r ∈ s.dev.eng.out, r.via ≠ p) ∧ s.dev.noticesOn p = []) → (s.dev.link p).resend = [] →
    (s.dev.link p).replay.length < 2048 → (s.dev.link p).owed = [] → (s.dev.link p).ready = [vc] →
    takeVc vc (s.dev.link p).out = some (f, rest) →
    Completes (.frameSend p) s fun d =>
      let g : LFrame := { f with fseq := (s.dev.link p).fseq }
      Frame (putSlots p ((2, g.head) :: g.blocks.map fun b => (1, b)) (sramWritten 8 p (g.fseq % 2048) 1 (s.dev.updLink p fun x => { x with
        out := rest, cred := listSet x.cred (vcSlot vc) (x.cred.getD (vcSlot vc) 0 - 1), fseq := (x.fseq + 1) % 4096
        replay := x.replay ++ [g] }))) d
        [RegName.addr .lkFtx p] ∧ d.reg .lkFtx p = s.dev.reg .lkFtx p + 1) ∧
  (∀ (s : State) (p : Fin 8), Runs s → s.dev.linkOpen p = true →
    (s.dev.isPeer p = true ∨ (∀ r ∈ s.dev.eng.out, r.via ≠ p) ∧ s.dev.noticesOn p = []) → (s.dev.link p).resend = [] →
    (s.dev.link p).replay.length < 2048 → (s.dev.link p).owed = [] → 2 ≤ (s.dev.link p).ready.length →
    Completes (.frameSend p) s fun d =>
      Frame { s.dev with links := d.links, sports := d.sports, sramErrs := d.sramErrs, free := s.dev.free + 1 } d [RegName.addr .lkFtx p] ∧
      d.reg .lkFtx p = s.dev.reg .lkFtx p + 1 ∧ (∀ q, q ≠ p.val → sfind d.links q = sfind s.dev.links q) ∧
      (∀ q, q ≠ p.val → sfind d.sports q = sfind s.dev.sports q) ∧
      ∃ vc ∈ (s.dev.link p).ready, ∃ f rest, takeVc vc (s.dev.link p).out = some (f, rest) ∧ d.link p = { s.dev.link p with
        out := rest, cred := listSet (s.dev.link p).cred (vcSlot vc) ((s.dev.link p).cred.getD (vcSlot vc) 0 - 1)
        fseq := ((s.dev.link p).fseq + 1) % 4096
        replay := (s.dev.link p).replay ++ [{ f with fseq := (s.dev.link p).fseq }] }) ∧
  (∀ (s : State) (p : Fin 8), Runs s → s.dev.linkOpen p = true →
    (s.dev.isPeer p = true ∨ (∀ r ∈ s.dev.eng.out, r.via ≠ p) ∧ s.dev.noticesOn p = []) → (s.dev.link p).resend = [] →
    (2048 ≤ (s.dev.link p).replay.length ∨ (s.dev.link p).owed = [] ∧ (s.dev.link p).ready = []) →
    Completes (.frameSend p) s fun d => Frame s.dev d []) ∧
  (∀ (s : State) (p : Fin 8) (f : Sys2Proof.Frame), Runs s → s.dev.linkOpen p = true → frameGood f = true →
    frameSeq f = (s.dev.link p).expect → frameVc f ≠ 1 → (s.dev.isPeer p = true → frameVc f = 0) → frameLast f = false →
    (s.dev.isPeer p = true ∨ frameVc f = 2 ∨ s.dev.queueRoom = true ∧ (s.dev.link p).waitp = []) →
    Completes (.frameRx p f) s fun d =>
      Frame (s.dev.updLink p fun x => { x with
        expect := (x.expect + 1) % 4096, fail := none
        back := listSet x.back (vcSlot (frameVc f)) (x.back.getD (vcSlot (frameVc f)) 0 + 1)
        part := sput x.part (frameVc f) ((if frameFirst f then [] else sget [] x.part (frameVc f)) ++ [frameData f]) }) d
        [RegName.addr .lkFrx p] ∧
      d.reg .lkFrx p = s.dev.reg .lkFrx p + 1) ∧
  (∀ (s : State) (p : Fin 8) (f : Sys2Proof.Frame), Runs s → s.dev.linkOpen p = true → frameGood f = true →
    frameSeq f = (s.dev.link p).expect → frameVc f ≠ 1 → frameVc f ≠ 2 → s.dev.isPeer p = false → frameLast f = false →
    (s.dev.queueRoom = false ∨ (s.dev.link p).waitp ≠ []) →
    Completes (.frameRx p f) s fun d =>
      Frame (s.dev.updLink p fun x => { x with
        expect := (x.expect + 1) % 4096, fail := none
        owe := listSet x.owe (vcSlot (frameVc f)) (x.owe.getD (vcSlot (frameVc f)) 0 + 1)
        part := sput x.part (frameVc f) ((if frameFirst f then [] else sget [] x.part (frameVc f)) ++ [frameData f]) }) d
        [RegName.addr .lkFrx p] ∧
      d.reg .lkFrx p = s.dev.reg .lkFrx p + 1) ∧
  (∀ (s : State) (p : Fin 8) (f : Sys2Proof.Frame), Runs s → s.dev.linkOpen p = true → frameGood f = true →
    frameSeq f = (s.dev.link p).expect → frameVc f = 1 → (s.dev.isPeer p = false ∨ frameTags f = []) →
    Completes (.frameRx p f) s fun d =>
      Frame (s.dev.updLink p fun x => { x with expect := (x.expect + 1) % 4096, fail := none }) d [RegName.addr .lkFrx p] ∧
      d.reg .lkFrx p = s.dev.reg .lkFrx p + 1) ∧
  (∀ (s : State) (p : Fin 8) (f : Sys2Proof.Frame), Runs s → s.dev.linkOpen p = true → frameGood f = true →
    frameSeq f = (s.dev.link p).expect → frameVc f ≠ 0 → frameVc f ≠ 1 → s.dev.isPeer p = true →
    Completes (.frameRx p f) s fun d =>
      Frame (s.dev.updLink p fun x => { x with
        expect := (x.expect + 1) % 4096, fail := none
        back := listSet x.back (vcSlot (frameVc f)) (x.back.getD (vcSlot (frameVc f)) 0 + 1) }) d [RegName.addr .lkMisvc p] ∧
      d.reg .lkMisvc p = s.dev.reg .lkMisvc p + 1) ∧
  (∀ (s : State) (p : Fin 8) (f : Sys2Proof.Frame), Runs s → s.dev.linkOpen p = true →
    (frameGood f = false ∨ frameSeq f ≠ (s.dev.link p).expect) → (s.dev.link p).fail = none →
    Completes (.frameRx p f) s fun d =>
      Frame (sendCtrl p (ctrlBlock 0x82 (s.dev.link p).expect) (s.dev.updLink p fun x => { x with
        fail := some { first := s.dev.sampleCount, last := s.dev.sampleCount, tries := 1, errs := List.replicate 8 0 } })) d
        [RegName.addr .lkPstat p] ∧ d.flag F.lkPstatRetry p = true) ∧
  (∀ (s : State) (p : Fin 8) (f : Sys2Proof.Frame) (e : RxFail), Runs s → s.dev.linkOpen p = true →
    (frameGood f = true ∧ frameSeq f ≠ (s.dev.link p).expect ∨ frameGood f = false ∧ s.dev.sampleCount < e.last + s.dev.fld F.lkRtwait p) →
    (s.dev.link p).fail = some e → Completes (.frameRx p f) s fun d => Frame s.dev d []) ∧
  (∀ (s : State) (p : Fin 8) (f : Sys2Proof.Frame) (e : RxFail), Runs s → s.dev.linkOpen p = true → frameGood f = false →
    (s.dev.link p).fail = some e → e.last + s.dev.fld F.lkRtwait p ≤ s.dev.sampleCount → e.tries < 8 →
    Completes (.frameRx p f) s fun d =>
      Frame (sendCtrl p (ctrlBlock 0x82 (s.dev.link p).expect) (s.dev.updLink p fun x => { x with
        fail := some { e with last := s.dev.sampleCount, tries := e.tries + 1 } })) d
        [RegName.addr .lkPstat p] ∧ d.flag F.lkPstatRetry p = true) ∧
  (∀ (s : State) (p : Fin 8), Runs s → s.dev.lstate p ≠ 0 → s.dev.lstate p ≠ 4 →
    Completes (.linkBlockSend p) s fun d =>
      let b := ctrlBlock 0x81 ((s.dev.link p).expect + (s.dev.link p).back.getD 0 0 % 512 * 2 ^ 12
        + (s.dev.link p).back.getD 1 0 % 512 * 2 ^ 21 + (s.dev.link p).back.getD 2 0 % 512 * 2 ^ 30)
      Frame ((sendCtrl p b (s.dev.updLink p fun x => { x with sent := b })).updSport p fun x => { x with
        linked := max x.next x.slotNow }) d []) ∧
  (∀ (s : State) (p : Fin 8), Runs s → (s.dev.lstate p = 0 ∨ s.dev.lstate p = 4) →
    Completes (.linkBlockSend p) s fun d => Frame s.dev d []) ∧
  (∀ (s : State) (p : Fin 8) (b : LinkBlock), Runs s → s.dev.linkOpen p = true →
    Completes (.linkBlockRx p b) s fun d =>
      let held (f : LFrame) : Bool := decide ((f.fseq + 4096 - b.ackseq % 4096) % 4096 < 2048)
      Frame (s.dev.updLink p fun x => { x with
        heard := s.dev.cycle, seen := [b.cr0 % 512, b.cr2 % 512, b.cr3 % 512]
        cred := [x.cred.getD 0 0 + (b.cr0 % 512 + 512 - x.seen.getD 0 0) % 512, x.cred.getD 1 0 + (b.cr2 % 512 + 512 - x.seen.getD 1 0) % 512,
          x.cred.getD 2 0 + (b.cr3 % 512 + 512 - x.seen.getD 2 0) % 512]
        replay := x.replay.filter held, resend := x.resend.filter held }) d []) ∧
  (∀ (s : State) (p : Fin 8) (b : LinkBlock), Runs s → s.dev.lstate p = 1 →
    Completes (.linkBlockRx p b) s fun d => Frame (s.dev.updLink p fun x => { x with heard := s.dev.cycle }) d []) ∧
  (∀ (s : State) (p : Fin 8) (n : Nat), Runs s → s.dev.linkOpen p = true →
    ((s.dev.link p).replay.dropWhile fun f => f.fseq != n) ≠ [] →
    Completes (.retryRx p n) s fun d =>
      Frame { s.dev.updLink p fun x => { x with resend := x.replay.dropWhile fun f => f.fseq != n } with
        ev := { s.dev.ev with evc := d.ev.evc } } d [RegName.addr .lkRetrycnt p] ∧
      d.reg .lkRetrycnt p = s.dev.reg .lkRetrycnt p + 1) ∧
  (∀ (s : State) (p : Fin 8) (n : Nat), Runs s →
    (s.dev.linkOpen p = false ∨ ((s.dev.link p).replay.dropWhile fun f => f.fseq != n) = []) →
    Completes (.retryRx p n) s fun d => Frame s.dev d []) ∧
  (∀ (s : State) (p : Fin 8) (e : RxFail), Runs s → s.dev.linkOpen p = true → (s.dev.link p).fail = some e → e.tries < 8 →
    e.last + 16000 ≤ s.dev.sampleCount →
    Completes (.retryResend p) s fun d =>
      Frame (sendCtrl p (ctrlBlock 0x82 (s.dev.link p).expect) (s.dev.updLink p fun x => { x with
        fail := some { e with last := s.dev.sampleCount, tries := e.tries + 1 } })) d [RegName.addr .lkPstat p] ∧
      d.flag F.lkPstatRetry p = true) ∧
  (∀ (s : State) (p : Fin 8), Runs s → s.dev.retryDue p = false → Completes (.retryResend p) s fun d => Frame s.dev d []) ∧
  (∀ (s : State) (p : Fin 8) (e : RxFail) (j : Nat), Runs s → s.dev.linkOpen p = true → (s.dev.link p).fail = some e →
    e.first + 64000 ≤ s.dev.sampleCount → worstLane e.errs = some j →
    Completes (.giveup p) s fun d =>
      Frame (sendCtrl p (ctrlBlock 0x84 j) (s.dev.updLink p fun x => { x with
          fail := none
          sparing := some (j, if bitOf (s.dev.fld F.lnPstatPlaced p) j then some (s.dev.pmap p j) else none, s.dev.cycle + 500) })) d
        [RegName.addr .lkGiveup p, RegName.addr .lkPstat p] [⟨lkEvent 9, s.dev.ssi, false, []⟩] ∧
      d.reg .lkGiveup p = s.dev.reg .lkGiveup p + 1 ∧ d.flag F.lkPstatGiveup p = true ∧ d.lstate p = s.dev.lstate p) ∧
  (∀ (s : State) (p : Fin 8) (e : RxFail), Runs s → s.dev.linkOpen p = true → (s.dev.link p).fail = some e →
    e.first + 64000 ≤ s.dev.sampleCount → worstLane e.errs = none →
    Completes (.giveup p) s fun d =>
      Frame (s.dev.exited d) d (RegName.addr .lkGiveup p :: exitRegs s.dev p)
        [⟨lkEvent 9, s.dev.ssi, false, []⟩, ⟨lkEvent 7, s.dev.ssi, false, []⟩] ∧ LinkExited s.dev d p 0 3 ∧
      d.flag F.lkPstatGiveup p = true ∧ d.sport p = (sendCtrl p (ctrlBlock 0x85 0) s.dev).sport p) ∧
  (∀ (s : State) (p : Fin 8), Runs s → s.dev.giveupDue p = false → Completes (.giveup p) s fun d => Frame s.dev d []) ∧
  (∀ (s : State) (p : Fin 8) (v : Nat) (k : Nat × Nat), Runs s → s.dev.portUp p = true →
    (s.dev.link p).kept.find? (fun k => k.1 % 4096 == v && decide (s.dev.slotV p ≤ k.1 + 256)) = some k →
    Completes (.retry1Rx p v) s fun d =>
      Frame (s.dev.updLink p fun x => { x with vq := k.2 :: x.vq }) d [RegName.addr .lkV1retry p] ∧
      d.reg .lkV1retry p = s.dev.reg .lkV1retry p + 1) ∧
  (∀ (s : State) (p : Fin 8) (v : Nat), Runs s → s.dev.portUp p = true → 256 ≤ (s.dev.slotV p + 4096 - 1 - v) % 4096 →
    (s.dev.link p).kept.find? (fun k => k.1 % 4096 == v && decide (s.dev.slotV p ≤ k.1 + 256)) = none →
    Completes (.retry1Rx p v) s fun d =>
      Frame s.dev d [RegName.addr .lkV1lost p, RegName.addr .lkPstat p] [⟨lkEvent 12, s.dev.ssi, false, []⟩] ∧
      d.reg .lkV1lost p = s.dev.reg .lkV1lost p + 1 ∧ d.flag F.lkPstatV1lost p = true) ∧
  (∀ (s : State) (p : Fin 8) (v : Nat), Runs s → (s.dev.portUp p = false ∨ (s.dev.slotV p + 4096 - 1 - v) % 4096 < 256 ∧
    (s.dev.link p).kept.find? (fun k => k.1 % 4096 == v && decide (s.dev.slotV p ≤ k.1 + 256)) = none) →
    Completes (.retry1Rx p v) s fun d => Frame s.dev d []) ∧
  (∀ (s : State) (p : Fin 8) (lane : Nat), Runs s → (s.dev.lstate p = 1 ∨ s.dev.linkOpen p = true) → lane < 8 →
    s.dev.flag F.lkPstatSkip p = false →
    Completes (.spareRx p lane) s fun d =>
      Frame { s.dev.updLink p fun x => { x with resend := x.replay } with ev := { s.dev.ev with evc := d.ev.evc } } d
        [RegName.addr .lkPstat p, RegName.addr .lkRetrycnt p] ∧
      d.flag F.lkPstatSkip p = true ∧ d.fld F.lkPstatSkiplane p = lane ∧ d.reg .lkRetrycnt p = s.dev.reg .lkRetrycnt p + 1) ∧
  (∀ (s : State) (p : Fin 8) (lane : Nat), Runs s → (s.dev.lstate p = 0 ∨ s.dev.lstate p = 4 ∨ s.dev.flag F.lkPstatSkip p = true) →
    Completes (.spareRx p lane) s fun d => Frame s.dev d []) ∧
  (∀ (s : State) (p : Fin 8) (j x : Nat) (o : Option Nat), Runs s → (s.dev.lstate p = 1 ∨ s.dev.linkOpen p = true) →
    (s.dev.link p).sparing = some (j, o, x) → x ≤ s.dev.cycle →
    Completes (.spareResend p) s fun d =>
      Frame (sendCtrl p (ctrlBlock 0x84 j) (s.dev.updLink p fun y => { y with sparing := some (j, o, s.dev.cycle + 500) })) d []) ∧
  (∀ (s : State) (p : Fin 8), Runs s → s.dev.spareDue p = false → Completes (.spareResend p) s fun d => Frame s.dev d [])

/-- A packet whose tag verifies, of legal length, a new sequence number and legal fields joins the queue, its number marked and
H and the packet count moved on; an urgent one joins the urgent queue, the queue full or not. A tag failure counts: on VC3 of
an open session only in SEC_SESSFAIL, else in CE_AUTHFAIL with event 0 and, for an open session, an AUTH_FAIL reply. A packet
of wrong length is answered BAD_LENGTH, a recorded number again with DUP, one under execution with status DUP, a stale one with
STALE_SEQ, and one that fails a later check with its status and DETAIL, recorded; a fifth urgent packet is BUSY. The later
checks are the destination, the opcode, the flags and the timed table, in this order. While the queue is full a packet waits at
its port. -/
def Obligations.PacketsArriving : Prop :=
  (∀ (s : State) (r : RawPacket) (p : Packet) (n : Nat), s.dev.live = true → r.via < 8 → s.dev.isPeer r.via = false →
    s.dev.lstate r.via = 3 → s.dev.openPacket r = p →
    (r.vc = 0 ∨ r.vc = 3) → p.opcode ≠ 0x0C01 → s.dev.queueRoom = true → (s.dev.link r.via).waitp = [] →
    p.tag = some n → packetTooLong p = false →
    (s.dev.session p.sess).judge p.seq = .fresh → lateChecks p s.dev = none → p.urgent = false →
    Completes (.commandPacket r) s fun d =>
      Frame { s.dev with eng := { s.dev.eng with queue := s.dev.eng.queue ++ [p] }, sess := d.sess } d [] ∧
      (∀ q, q ≠ p.sess → sfind d.sess q = sfind s.dev.sess q) ∧ sfind (d.session p.sess).marks p.seq = some .executing ∧
      (d.session p.sess).h = (if 0 < seqDist p.seq (s.dev.session p.sess).h then p.seq else (s.dev.session p.sess).h) ∧
      (d.session p.sess).rx = listSet (s.dev.session p.sess).rx (vcSlot r.vc) (n + 1) ∧
      (d.session p.sess).keys = (s.dev.session p.sess).keys ∧ (d.session p.sess).isOpen = (s.dev.session p.sess).isOpen) ∧
  (∀ (s : State) (r : RawPacket) (p : Packet) (n : Nat), s.dev.live = true → r.via < 8 → s.dev.isPeer r.via = false →
    s.dev.lstate r.via = 3 → s.dev.openPacket r = p →
    r.vc = 0 → p.opcode ≠ 0x0C01 → p.tag = some n → packetTooLong p = false → (s.dev.session p.sess).judge p.seq = .fresh →
    lateChecks p s.dev = none → p.urgent = true → s.dev.eng.urgq.length < 4 →
    Completes (.commandPacket r) s fun d =>
      Frame { s.dev with eng := { s.dev.eng with urgq := s.dev.eng.urgq ++ [(p, s.dev.cycle)] }, sess := d.sess } d [] ∧
      (∀ q, q ≠ p.sess → sfind d.sess q = sfind s.dev.sess q) ∧ sfind (d.session p.sess).marks p.seq = some .executing) ∧
  (∀ (s : State) (r : RawPacket) (p : Packet), s.dev.live = true → r.via < 8 → s.dev.isPeer r.via = false →
    s.dev.lstate r.via = 3 → s.dev.openPacket r = p →
    (r.vc = 0 ∨ r.vc = 3) → (p.urgent = false ∨ r.vc = 3) → (s.dev.queueRoom = false ∨ (s.dev.link r.via).waitp ≠ []) →
    Completes (.commandPacket r) s fun d => Frame (s.dev.updLink r.via fun x => { x with waitp := x.waitp ++ [r] }) d []) ∧
  (∀ (s : State) (r : RawPacket), Runs s → r.via ≠ 8 →
    (8 ≤ r.via ∨ s.dev.isPeer r.via = true ∨ s.dev.lstate r.via ≠ 3 ∨ r.vc ≠ 0 ∧ r.vc ≠ 3) →
    Completes (.commandPacket r) s fun d => Frame s.dev d []) ∧
  (∀ (s : State) (r : RawPacket) (p : Packet), s.dev.live = true → r.via < 8 → s.dev.isPeer r.via = false →
    s.dev.lstate r.via = 3 → s.dev.openPacket r = p → r.vc = 0 → p.opcode ≠ 0x0C01 → s.dev.queueRoom = true → (s.dev.link r.via).waitp = [] →
    p.tag = none → (s.dev.session p.sess).isOpen = true →
    Completes (.commandPacket r) s fun d =>
      Frame { s.dev with eng := { s.dev.eng with out := d.eng.out } } d [RegName.addr .ceAuthfail, RegName.addr .ceAlert]
        [⟨ceEvent 0, s.dev.ssi, false, []⟩] ∧
      d.reg .ceAuthfail = s.dev.reg .ceAuthfail + 1 ∧ d.flag F.ceAlertAuth = true ∧
      ∃ a, d.eng.out = s.dev.eng.out ++ [a] ∧ a.status = stAuthFail ∧ a.seq = p.seq ∧ a.sess = p.sess ∧ a.via = r.via) ∧
  (∀ (s : State) (r : RawPacket) (p : Packet), s.dev.live = true → r.via < 8 → s.dev.isPeer r.via = false →
    s.dev.lstate r.via = 3 → s.dev.openPacket r = p → r.vc = 0 → p.opcode ≠ 0x0C01 → s.dev.queueRoom = true → (s.dev.link r.via).waitp = [] →
    p.tag = none → (s.dev.session p.sess).isOpen = false →
    Completes (.commandPacket r) s fun d =>
      Frame s.dev d [RegName.addr .ceAuthfail, RegName.addr .ceAlert] [⟨ceEvent 0, s.dev.ssi, false, []⟩] ∧
      d.reg .ceAuthfail = s.dev.reg .ceAuthfail + 1 ∧ d.flag F.ceAlertAuth = true) ∧
  (∀ (s : State) (r : RawPacket) (p : Packet), s.dev.live = true → r.via < 8 → s.dev.isPeer r.via = false →
    s.dev.lstate r.via = 3 → s.dev.openPacket r = p → r.vc = 3 → p.opcode ≠ 0x0C01 → s.dev.queueRoom = true → (s.dev.link r.via).waitp = [] →
    p.tag = none → (s.dev.session p.sess).isOpen = true →
    Completes (.commandPacket r) s fun d =>
      Frame s.dev d [RegName.addr .secSessfail p.sess] ∧ d.reg .secSessfail p.sess = s.dev.reg .secSessfail p.sess + 1) ∧
  (∀ (s : State) (r : RawPacket) (p : Packet) (n : Nat), s.dev.live = true → r.via < 8 → s.dev.isPeer r.via = false →
    s.dev.lstate r.via = 3 → s.dev.openPacket r = p →
    (r.vc = 0 ∨ r.vc = 3) → p.opcode ≠ 0x0C01 → s.dev.queueRoom = true → (s.dev.link r.via).waitp = [] → p.tag = some n → packetTooLong p = true →
    Completes (.commandPacket r) s fun d =>
      Frame { s.dev with eng := { s.dev.eng with out := d.eng.out }, sess := (countRx p.sess r.vc n s.dev).sess } d [] ∧
      ∃ a, d.eng.out = s.dev.eng.out ++ [a] ∧ a.status = stBadLength ∧ a.seq = p.seq ∧ a.opcode = p.opcode ∧ a.via = r.via) ∧
  (∀ (s : State) (r : RawPacket) (p : Packet) (n status flags steps x detail len op : Nat) (data : List Byte), s.dev.live = true → r.via < 8 → s.dev.isPeer r.via = false →
    s.dev.lstate r.via = 3 → s.dev.openPacket r = p →
    (r.vc = 0 ∨ r.vc = 3) → p.opcode ≠ 0x0C01 → s.dev.queueRoom = true → (s.dev.link r.via).waitp = [] → p.tag = some n → packetTooLong p = false →
    (s.dev.session p.sess).judge p.seq = .again (.recorded status flags steps x detail data len op) →
    Completes (.commandPacket r) s fun d =>
      Frame { s.dev with
        eng := { s.dev.eng with out := d.eng.out }, sess := (countRx p.sess r.vc n s.dev).sess
        ev := { s.dev.ev with evc := d.ev.evc } } d [RegName.addr .ceDups] ∧ d.reg .ceDups = s.dev.reg .ceDups + 1 ∧
      ∃ a, d.eng.out = s.dev.eng.out ++ [a] ∧ a.status = status ∧ a.opcode = op ∧ a.steps = steps ∧ a.at_ = x ∧ a.detail = detail ∧
        a.data = data ∧ a.length = len ∧ a.seq = p.seq ∧ bitOf a.flags 2 = true) ∧
  (∀ (s : State) (r : RawPacket) (p : Packet) (n : Nat), s.dev.live = true → r.via < 8 → s.dev.isPeer r.via = false →
    s.dev.lstate r.via = 3 → s.dev.openPacket r = p →
    (r.vc = 0 ∨ r.vc = 3) → p.opcode ≠ 0x0C01 → s.dev.queueRoom = true → (s.dev.link r.via).waitp = [] → p.tag = some n → packetTooLong p = false →
    (s.dev.session p.sess).judge p.seq = .again .executing →
    Completes (.commandPacket r) s fun d =>
      Frame { s.dev with
        eng := { s.dev.eng with out := d.eng.out }, sess := (countRx p.sess r.vc n s.dev).sess
        ev := { s.dev.ev with evc := d.ev.evc } } d [RegName.addr .ceDups] ∧ d.reg .ceDups = s.dev.reg .ceDups + 1 ∧
      ∃ a, d.eng.out = s.dev.eng.out ++ [a] ∧ a.status = stDup ∧ a.opcode = p.opcode ∧ a.steps = 0 ∧ a.seq = p.seq ∧
        bitOf a.flags 2 = true) ∧
  (∀ (s : State) (r : RawPacket) (p : Packet) (n : Nat), s.dev.live = true → r.via < 8 → s.dev.isPeer r.via = false →
    s.dev.lstate r.via = 3 → s.dev.openPacket r = p →
    (r.vc = 0 ∨ r.vc = 3) → p.opcode ≠ 0x0C01 → s.dev.queueRoom = true → (s.dev.link r.via).waitp = [] → p.tag = some n → packetTooLong p = false →
    seqDist p.seq (s.dev.session p.sess).h ≤ -4096 →
    Completes (.commandPacket r) s fun d =>
      Frame { s.dev with eng := { s.dev.eng with out := d.eng.out }, sess := (countRx p.sess r.vc n s.dev).sess } d
        [RegName.addr .ceStale] [⟨ceEvent 1, s.dev.ssi, false, []⟩] ∧ d.reg .ceStale = s.dev.reg .ceStale + 1 ∧
      ∃ a, d.eng.out = s.dev.eng.out ++ [a] ∧ a.status = stStaleSeq ∧ a.seq = p.seq ∧ bitOf a.flags 2 = false) ∧
  (∀ (s : State) (r : RawPacket) (p : Packet) (n status detail : Nat), s.dev.live = true → r.via < 8 → s.dev.isPeer r.via = false →
    s.dev.lstate r.via = 3 → s.dev.openPacket r = p →
    (r.vc = 0 ∨ r.vc = 3) → p.opcode ≠ 0x0C01 → s.dev.queueRoom = true → (s.dev.link r.via).waitp = [] → p.tag = some n → packetTooLong p = false →
    (s.dev.session p.sess).judge p.seq = .fresh → lateChecks p s.dev = some (status, detail) →
    Completes (.commandPacket r) s fun d =>
      (∃ a, d.eng.out = s.dev.eng.out ++ [a] ∧ a.status = status ∧ a.detail = detail ∧ a.steps = 0 ∧ a.seq = p.seq ∧
        a.opcode = p.opcode ∧ a.via = r.via ∧
        Frame { s.dev with eng := { s.dev.eng with out := d.eng.out }
                           sess := ((countRx p.sess r.vc n s.dev).recordReply a).sess } d [])) ∧
  (∀ (d : Device) (p : Packet), p.dest ≠ d.fld F.lkDevidDevid → p.dest ≠ 0x3FFF →
    lateChecks p d = some (stBadArg, d.fld F.lkDevidDevid)) ∧
  (∀ (d : Device) (p : Packet), (p.dest = d.fld F.lkDevidDevid ∨ p.dest = 0x3FFF) → opRow p.opcode = none →
    lateChecks p d = some (stBadOpcode, 0)) ∧
  (∀ (d : Device) (p : Packet), (p.dest = d.fld F.lkDevidDevid ∨ p.dest = 0x3FFF) → opRow p.opcode ≠ none →
    (p.resvOk = false ∨ p.timed = false ∧ p.execAt ≠ 0 ∨ p.timed = true ∧ (mayTime p.opcode = false ∨ p.urgent = true) ∨
      p.urgent = true ∧ (p.opcode / 256 ≠ 0x0F ∨ p.vc ≠ 0 ∧ p.via ≠ 8)) → lateChecks p d = some (stBadArg, 0)) ∧
  (∀ (d : Device) (p : Packet), (p.dest = d.fld F.lkDevidDevid ∨ p.dest = 0x3FFF) → opRow p.opcode ≠ none → p.resvOk = true →
    p.timed = true → mayTime p.opcode = true → p.urgent = false →
    lateChecks p d = if 64 ≤ d.eng.timed.length ∨ d.fld F.tbStatusRegState = 1 then some (stBusy, 0)
      else if d.ssi + 2 ^ 40 < p.execAt then some (stBadArg, 0) else none) ∧
  (∀ (s : State) (r : RawPacket) (p : Packet) (n : Nat), s.dev.live = true → r.via < 8 → s.dev.isPeer r.via = false →
    s.dev.lstate r.via = 3 → s.dev.openPacket r = p → r.vc = 0 → p.opcode ≠ 0x0C01 → p.tag = some n →
    packetTooLong p = false →
    (s.dev.session p.sess).judge p.seq = .fresh → lateChecks p s.dev = none → p.urgent = true → 4 ≤ s.dev.eng.urgq.length →
    Completes (.commandPacket r) s fun d =>
      Frame { s.dev with eng := { s.dev.eng with out := d.eng.out }, sess := d.sess } d [RegName.addr .ceAlert]
        [⟨ceEvent 6, s.dev.ssi, false, []⟩] ∧
      d.flag F.ceAlertUrgentFull = true ∧ (∀ q, q ≠ p.sess → sfind d.sess q = sfind s.dev.sess q) ∧
      ∃ a, d.eng.out = s.dev.eng.out ++ [a] ∧ a.status = stBusy ∧ a.seq = p.seq ∧ a.opcode = p.opcode)

/-- SPI_PUT judges a packet as one of VC0; while the queue is full it is held, and while one is held another is dropped and
counted. SPI_GET shifts out the next reply, its length first, its header next, its payload encrypted for its session and its
tag last, else the next notice with the session's count and the number lost, else a length of 0. SPI_STAT answers whether a
reply or notice waits, whether the device runs, has halted, and holds a packet. -/
def Obligations.MgmtSpi : Prop :=
  (∀ (s : State) (r : RawPacket) (p : Packet) (n : Nat), s.dev.live = true → s.dev.eng.put = none → s.dev.queueRoom = true →
    s.dev.openPacket { r with via := 8, vc := 0 } = p → p.opcode ≠ 0x0C01 → p.tag = some n → packetTooLong p = false →
    (s.dev.session p.sess).judge p.seq = .fresh → lateChecks p s.dev = none → p.urgent = false →
    Completes (.spiPut r) s fun d =>
      Frame { s.dev with eng := { s.dev.eng with queue := s.dev.eng.queue ++ [p] }, sess := d.sess } d [] ∧
      (∀ q, q ≠ p.sess → sfind d.sess q = sfind s.dev.sess q) ∧ sfind (d.session p.sess).marks p.seq = some .executing ∧
      (d.session p.sess).rx = listSet (s.dev.session p.sess).rx 0 (n + 1)) ∧
  (∀ (s : State) (r : RawPacket) (p : Packet), s.dev.live = true → s.dev.eng.put = none →
    (s.dev.queueRoom = true ∨ isUrgent r = true) → s.dev.openPacket { r with via := 8, vc := 0 } = p → p.opcode ≠ 0x0C01 →
    p.tag = none → (s.dev.session p.sess).isOpen = false →
    Completes (.spiPut r) s fun d =>
      Frame s.dev d [RegName.addr .ceAuthfail, RegName.addr .ceAlert] [⟨ceEvent 0, s.dev.ssi, false, []⟩] ∧
      d.reg .ceAuthfail = s.dev.reg .ceAuthfail + 1) ∧
  (∀ (s : State) (r : RawPacket), s.dev.live = true → s.dev.eng.put = none → s.dev.queueRoom = false → isUrgent r = false →
    Completes (.spiPut r) s fun d =>
      Frame { s.dev with eng := { s.dev.eng with put := some { r with via := 8, vc := 0 } } } d []) ∧
  (∀ (s : State) (r q : RawPacket), s.dev.live = true → s.dev.eng.put = some q →
    Completes (.spiPut r) s fun d => Frame s.dev d [RegName.addr .ceSpidrop] ∧ d.reg .ceSpidrop = s.dev.reg .ceSpidrop + 1) ∧
  (∀ (s : State) (r : Reply) (rest : List Reply), Runs s → popSpi s.dev.eng.out = some (r, rest) →
    Completes .spiGet s fun d =>
      Frame { s.dev with eng := { s.dev.eng with out := rest }, sess := (countTx r.sess 0 s.dev).sess, spiOut := d.spiOut } d [] ∧
      (let x := s.dev.session r.sess
       let ct := (d.spiOut.drop 36).take (d.spiOut.length - 68)
       d.spiOut.take 4 = leBytes 4 (d.spiOut.length - 4) ∧ (d.spiOut.length - 4) % 32 = 0 ∧ (d.spiOut.drop 4).take 32 = r.header ∧
         (if x.isOpen then counterMode (x.key 1) (x.iv 1 0 (x.next 0)) 0 ct else ct).take r.data.length = r.data ∧
         d.spiOut.drop (d.spiOut.length - 32) =
           sliceB (if x.isOpen then gcmTag (x.key 1) (x.iv 1 0 (x.next 0)) r.header ct else zeros 16) 0 32)) ∧
  (∀ (s : State) (n : Nat) (r : Reply) (rest : List Reply), Runs s → (∀ x ∈ s.dev.eng.out, x.via ≠ 8) → s.dev.noticesOn 8 = [n] →
    n < 8 → (s.dev.session n).notices = r :: rest → r.sess = n →
    Completes .spiGet s fun d =>
      let sent : Reply := { r with seq := (s.dev.reg .ceNotseq n).toNat, steps := s.dev.fld F.ceNotlost n }
      Frame { s.dev with sess := d.sess, spiOut := d.spiOut } d [RegName.addr .ceNotlost n, RegName.addr .ceNotseq n] ∧
      (∀ q, q ≠ n → sfind d.sess q = sfind s.dev.sess q) ∧ (d.session n).notices = rest ∧ d.reg .ceNotlost n = 0 ∧
      d.reg .ceNotseq n = s.dev.reg .ceNotseq n + 1 ∧
      (let x := s.dev.session r.sess
       let ct := (d.spiOut.drop 36).take (d.spiOut.length - 68)
       d.spiOut.take 4 = leBytes 4 (d.spiOut.length - 4) ∧ (d.spiOut.length - 4) % 32 = 0 ∧ (d.spiOut.drop 4).take 32 = sent.header ∧
         (if x.isOpen then counterMode (x.key 1) (x.iv 1 0 (x.next 0)) 0 ct else ct).take r.data.length = r.data ∧
         d.spiOut.drop (d.spiOut.length - 32) =
           sliceB (if x.isOpen then gcmTag (x.key 1) (x.iv 1 0 (x.next 0)) sent.header ct else zeros 16) 0 32)) ∧
  (∀ (s : State), Runs s → (∀ x ∈ s.dev.eng.out, x.via ≠ 8) → s.dev.noticesOn 8 = [] →
    Completes .spiGet s fun d => Frame { s.dev with spiOut := zeros 4 } d []) ∧
  (∀ (s : State), Completes .spiStat s fun d => Frame { s.dev with spiOut := d.spiOut } d [] ∧
    ∃ b, d.spiOut = [b] ∧ b.toNat < 16 ∧
      (bitOf b.toNat 0 = true ↔ (∃ r ∈ s.dev.eng.out, r.via = 8) ∨ s.dev.noticesOn 8 ≠ []) ∧
      (bitOf b.toNat 1 = true ↔ s.dev.phase = .running) ∧ (bitOf b.toNat 2 = s.dev.eng.halted) ∧
      (bitOf b.toNat 3 = true ↔ s.dev.eng.put ≠ none))

/-- COMMAND_ACCEPT takes the next packet up as the routine that runs, with CE_ACCEPTED one up; a TIMED one that passes its
checks moves to the timed table. COMMITTED_STEP commits one step: short of the last nothing is answered, after the last the
reply has status OK and the number of steps, and a step that fails ends the routine with the steps before it; a routine that
was preempted answers RESUMED with the steps before the preemption. COMMAND_TIMEOUT ends a late routine with TIMEOUT.
URGENT_PREEMPT pauses the routine and takes the urgent packet, whose one step goes first, while a routine of group 5 stops
short; ROUTINE_RESUME lets the routine go on. -/
def Obligations.Routines : Prop :=
  (∀ (s : State) (p : Packet) (rest : List Packet) (l : Laid), s.dev.live = true → s.dev.eng.running = none → s.dev.eng.urgent = none →
    s.dev.eng.urgq = [] → s.dev.workBad = none → s.dev.eng.queue = p :: rest → (p.via ≠ 8 ∨ s.dev.spiFull = false) →
    layout p.opcode (packetCtx p) p.sigOk p.payload = some l → l.fits = true → p.timed = false → s.dev.eng.put = none →
    (∀ q : Fin 8, (s.dev.link q).waitp = [] ∧ (s.dev.link q).owe = [0, 0, 0] ∧ (s.dev.link q).back.length = 3) →
    Completes .commandAccept s fun d =>
      Frame { s.dev with
        links := d.links
        eng := { s.dev.eng with
          queue := rest, out := d.eng.out
          running := some { cmd := l.cmd, ctx := packetCtx p, opcode := p.opcode, accepted := s.dev.cycle, index := s.dev.ssi
                            resv := l.resvFault p.payload } } } d [RegName.addr .ceAccepted] ∧
      (∀ q : Fin 8, d.link q = s.dev.link q) ∧ d.reg .ceAccepted = s.dev.reg .ceAccepted + 1 ∧
      d.eng.out.length = s.dev.eng.out.length + b2n p.ack) ∧
  (∀ (s : State) (p : Packet) (rest : List Packet) (l : Laid), s.dev.live = true →
    s.dev.eng.running = none → s.dev.eng.urgent = none → s.dev.eng.urgq = [] → s.dev.workBad = none → s.dev.eng.queue = p :: rest →
    (p.via ≠ 8 ∨ s.dev.spiFull = false) → layout p.opcode (packetCtx p) p.sigOk p.payload = some l → l.fits = true → p.timed = true →
    l.resvFault p.payload = none → s.dev.eng.timed.length < 64 → p.execAt ≤ s.dev.ssi + 2 ^ 40 →
    s.dev.fld F.tbStatusRegState ≠ 1 →
    (commandOf l.cmd).map (fun x => (x.2.2
      (({ s.dev with eng := { s.dev.eng with queue := rest } } : Device).accept (packetCtx p) p.opcode)).status) = some stOk →
    s.dev.eng.put = none → (∀ q : Fin 8, (s.dev.link q).waitp = [] ∧ (s.dev.link q).owe = [0, 0, 0] ∧ (s.dev.link q).back.length = 3) →
    Completes .commandAccept s fun d =>
      Frame { s.dev with
        links := d.links
        eng := { s.dev.eng with
          queue := rest, out := d.eng.out, nextId := s.dev.eng.nextId + 1
          timed := s.dev.eng.timed ++ [⟨s.dev.eng.nextId, l.cmd, packetCtx p, p.opcode, p.execAt, decide (p.execAt < s.dev.ssi + 2048),
            s.dev.ssi⟩] } } d [RegName.addr .ceAccepted] ∧
      (∀ q : Fin 8, d.link q = s.dev.link q) ∧ d.reg .ceAccepted = s.dev.reg .ceAccepted + 1 ∧
      d.eng.out.length = s.dev.eng.out.length + b2n p.ack) ∧
  (∀ (s : State), s.dev.live = true → (s.dev.eng.running ≠ none ∨ s.dev.eng.urgent ≠ none ∨ s.dev.eng.urgq ≠ [] ∨
      s.dev.eng.queue = [] ∧ s.dev.workBad = none) →
    Completes .commandAccept s fun d => Frame s.dev d []) ∧
  (∀ (s : State) (r : Routine) (c : Ctx) (v w : Nat), s.dev.live = true → s.dev.eng.urgent = none → s.dev.eng.running = some r →
    r.paused = none → r.waiting = false → r.cmd = .regWriteList c [(RegName.addr .tbEpochLo, v), (RegName.addr .tbEpochHi, w)] →
    r.steps = 0 → r.opcode = 0x0204 → v < 2 ^ 32 → sget 0 s.dev.hwNow (RegName.addr .tbEpochLo) = 0 →
    Completes .committedStep s fun d =>
      Frame { s.dev with
        free := s.dev.free + 1
        eng := { s.dev.eng with bank := s.dev.free, running := some { r with steps := 1 } } } d [RegName.addr .tbEpochLo] ∧
      d.reg .tbEpochLo = BitVec.ofNat 32 v) ∧
  (∀ (s : State) (r : Routine) (c : Ctx) (v w : Nat), s.dev.live = true → s.dev.eng.urgent = none → s.dev.eng.running = some r →
    r.paused = none → r.waiting = false → r.cmd = .regWriteList c [(RegName.addr .tbEpochLo, v), (RegName.addr .tbEpochHi, w)] →
    r.steps = 1 → r.opcode = 0x0204 → w < 2 ^ 32 → sget 0 s.dev.hwNow (RegName.addr .tbEpochHi) = 0 →
    Completes .committedStep s fun d =>
      Frame (({ s.dev with
        free := s.dev.free + 1, eng := { s.dev.eng with bank := s.dev.free, running := none } } : Device).replied d) d
        [RegName.addr .tbEpochHi] ∧
      d.reg .tbEpochHi = BitVec.ofNat 32 w ∧
      ∃ a, d.eng.out = s.dev.eng.out ++ [a] ∧ a.seq = r.ctx.seq ∧ a.via = r.ctx.via ∧ a.opcode = 0x0204 ∧
        (r.preempted = none → a.status = stOk ∧ a.steps = 2) ∧ ∀ n, r.preempted = some n → a.status = stResumed ∧ a.steps = n) ∧
  (∀ (s : State) (r : Routine) (c : Ctx) (v x w : Nat), s.dev.live = true → s.dev.eng.urgent = none → s.dev.eng.running = some r →
    r.paused = none → r.waiting = false → r.cmd = .regWriteList c [(RegName.addr .tbEpochLo, v), (x, w)] → findReg x = none →
    r.steps = 1 → r.opcode = 0x0204 → r.preempted = none →
    Completes .committedStep s fun d =>
      Frame (({ s.dev with
        free := s.dev.free + 1, eng := { s.dev.eng with bank := s.dev.free, running := none } } : Device).replied d) d [] ∧
      ∃ a, d.eng.out = s.dev.eng.out ++ [a] ∧ a.status = stBadArg ∧ a.steps = 1 ∧ a.detail = 1 ∧ a.seq = r.ctx.seq) ∧
  (∀ (s : State) (r : Routine) (c : Ctx), s.dev.live = true → s.dev.eng.urgent = some r → r.cmd = .stop c 0 0 0 → r.opcode = 0x0F01 →
    r.resv = none → r.preempted = none →
    Completes .committedStep s fun d =>
      Frame (({ s.dev with
        free := s.dev.free + 1, eng := { s.dev.eng with shadow := s.dev.free, urgent := none } } : Device).replied d) d [] ∧
      ∃ a, d.eng.out = s.dev.eng.out ++ [a] ∧ a.status = stOk ∧ a.steps = 1 ∧ a.seq = r.ctx.seq ∧ a.opcode = 0x0F01) ∧
  (∀ (s : State) (r : Routine), s.dev.live = true → s.dev.eng.urgent = none → s.dev.eng.running = some r → r.paused = none →
    maxCycles r.opcode r.cmd + r.away ≤ s.dev.cycle - r.accepted → r.preempted = none → s.dev.mc.host = [] →
    (r.opcode = 0x0A02 → s.dev.mc.hostw = []) → (r.opcode = 0x0A03 → s.dev.mc.setclass = none) → r.opcode ≠ 0x0C01 →
    Completes .commandTimeout s fun d =>
      Frame (({ s.dev with eng := { s.dev.eng with running := none } } : Device).replied d) d
        [RegName.addr .ceTimeouts, RegName.addr .ceAlert] [⟨ceEvent 2, s.dev.ssi, false, []⟩] ∧
      d.reg .ceTimeouts = s.dev.reg .ceTimeouts + 1 ∧ d.flag F.ceAlertTimeout = true ∧
      ∃ a, d.eng.out = s.dev.eng.out ++ [a] ∧ a.status = stTimeout ∧ a.steps = r.steps ∧ a.seq = r.ctx.seq ∧ a.opcode = r.opcode) ∧
  (∀ (s : State), s.dev.lateRoutine = none → Completes .commandTimeout s fun d => Frame s.dev d []) ∧
  (∀ (s : State) (p : Packet) (x : Nat) (rest : List (Packet × Nat)) (l : Laid) (r : Routine), s.dev.live = true →
    s.dev.eng.urgent = none → s.dev.eng.urgq = (p, x) :: rest → layout p.opcode (packetCtx p) p.sigOk p.payload = some l →
    l.fits = true → s.dev.eng.running = some r → r.paused = none → r.opcode / 256 ≠ 5 →
    Completes .urgentPreempt s fun d =>
      Frame { s.dev with eng := { s.dev.eng with
          urgq := rest, out := d.eng.out
          running := some { r with preempted := some (r.preempted.getD r.steps), paused := some s.dev.cycle }
          urgent := some { cmd := l.cmd, ctx := packetCtx p, opcode := p.opcode, accepted := x, index := s.dev.ssi
                           resv := l.resvFault p.payload } } } d
        [RegName.addr .cePreempts, RegName.addr .ceAccepted] [⟨ceEvent 3, s.dev.ssi, false, []⟩] ∧
      d.reg .cePreempts = s.dev.reg .cePreempts + 1 ∧ d.reg .ceAccepted = s.dev.reg .ceAccepted + 1 ∧
      d.eng.out.length = s.dev.eng.out.length + b2n p.ack) ∧
  (∀ (s : State) (p : Packet) (x : Nat) (rest : List (Packet × Nat)) (l : Laid), s.dev.live = true →
    s.dev.eng.urgent = none → s.dev.eng.urgq = (p, x) :: rest → layout p.opcode (packetCtx p) p.sigOk p.payload = some l →
    l.fits = true → (s.dev.eng.running = none ∨ ∃ r, s.dev.eng.running = some r ∧ r.paused ≠ none) →
    Completes .urgentPreempt s fun d =>
      Frame { s.dev with eng := { s.dev.eng with
          urgq := rest, out := d.eng.out
          urgent := some { cmd := l.cmd, ctx := packetCtx p, opcode := p.opcode, accepted := x, index := s.dev.ssi
                           resv := l.resvFault p.payload } } } d [RegName.addr .ceAccepted] ∧
      d.reg .ceAccepted = s.dev.reg .ceAccepted + 1 ∧ d.eng.out.length = s.dev.eng.out.length + b2n p.ack) ∧
  (∀ (s : State) (p : Packet) (x : Nat) (rest : List (Packet × Nat)) (l : Laid) (r : Routine), s.dev.live = true →
    s.dev.eng.urgent = none → s.dev.eng.urgq = (p, x) :: rest → layout p.opcode (packetCtx p) p.sigOk p.payload = some l →
    l.fits = true → s.dev.eng.running = some r → r.paused = none → r.opcode / 256 = 5 → s.dev.mc.host = [] →
    Completes .urgentPreempt s fun d =>
      Frame { s.dev with
        sess := d.sess
        eng := { s.dev.eng with
          urgq := rest, out := d.eng.out, running := none
          urgent := some { cmd := l.cmd, ctx := packetCtx p, opcode := p.opcode, accepted := x, index := s.dev.ssi
                           resv := l.resvFault p.payload } } } d
        [RegName.addr .cePreempts, RegName.addr .ceAccepted] [⟨ceEvent 3, s.dev.ssi, false, []⟩] ∧
      (∀ q, q ≠ r.ctx.sess → sfind d.sess q = sfind s.dev.sess q) ∧
      ∃ a, (d.eng.out.drop s.dev.eng.out.length).head? = some a ∧ d.eng.out.length = s.dev.eng.out.length + 1 + b2n p.ack ∧
        a.status = stResumed ∧ a.steps = r.preempted.getD r.steps ∧ a.seq = r.ctx.seq ∧ a.opcode = r.opcode ∧ bitOf a.flags 3 = true) ∧
  (∀ (s : State), s.dev.live = true → (s.dev.eng.urgent ≠ none ∨ s.dev.eng.urgq = []) →
    Completes .urgentPreempt s fun d => Frame s.dev d []) ∧
  (∀ (s : State) (r : Routine) (t : Nat), s.dev.live = true → s.dev.eng.urgent = none → s.dev.eng.urgq = [] →
    s.dev.eng.running = some r → r.paused = some t →
    Completes .routineResume s fun d =>
      Frame { s.dev with eng := { s.dev.eng with
        running := some { r with paused := none, away := r.away + (s.dev.cycle - t) } } } d [])

/-- PROG_LOAD of instructions that pass its checks stores them, 256 to a committed step, and leaves every other one; an
undecodable word is refused with its index. PROG_READ answers the words of a range. RUN_START enters the named sequencers into
PENDING with T at the start index; RUN_JUMP leaves a jump request with a block under way; RUN_STATUS answers every STATE. STOP
ends a sequencer STOPPED and disarms the engines named, skipping and counting what the session may not write; ABORT cancels the
session's TIMED commands and stops everything that it may write. -/
def Obligations.ProgramsAndRuns : Prop :=
  (∀ (s : State) (c : Ctx) (kind n first : Nat) (ins : List Nat), Takes s c → kind < 2 → n < (if kind = 0 then 64 else 8) → ins ≠ [] →
    first + ins.length ≤ 32768 → s.dev.storeWritable kind n c.sess = true → s.dev.spanBusy (storeNo kind n) first ins.length = false →
    loadFault kind (storeNo kind n) first c.sess s.dev (writeProg (storeNo kind n) first ins s.dev) ins 0 = none →
    (kind = 0 → loadInfeasible (storeNo kind n) first ins.length (writeProg (storeNo kind n) first ins s.dev) = none) →
    Completes (.progLoad c kind n first ins) s fun d =>
      Replies s.dev d c 0x0301 stOk (max 1 ((ins.length + 255) / 256)) 0 [] ∧
      Frame (({ s.dev with prog := d.prog, sramErrs := d.sramErrs, ev := { s.dev.ev with cut := d.ev.cut } } : Device).replied d) d
        [RegName.addr .ceAccepted] ∧
      (∀ i ∈ List.range ins.length, sget 0 d.prog (32768 * storeNo kind n + first + i) = ins.getD i 0) ∧
      ∀ a, (a < 32768 * storeNo kind n + first ∨ 32768 * storeNo kind n + first + ins.length ≤ a) → sfind d.prog a = sfind s.dev.prog a) ∧
  (∀ (s : State) (c : Ctx) (kind n first w : Nat), Takes s c → kind < 2 → n < (if kind = 0 then 64 else 8) → first < 32768 →
    s.dev.storeWritable kind n c.sess = true → s.dev.spanBusy (storeNo kind n) first 1 = false → SeqInstr.decode w = none →
    Refuses (.progLoad c kind n first [w]) c 0x0301 s stBadArg 0) ∧
  (∀ (s : State) (c : Ctx) (kind n first count : Nat), Takes s c → kind < 2 → n < (if kind = 0 then 64 else 8) → 0 < count →
    first + count ≤ 32768 →
    OnlyAnswers (.progRead c kind n first count) c 0x0302 s
      ((List.range count).flatMap fun i => leBytes 8 (s.dev.progWord (storeNo kind n) (first + i)))) ∧
  (∀ (s : State) (c : Ctx) (x : Nat) (es : List RunEntry), Takes s c → es ≠ [] → es.length ≤ 64 → s.dev.offers = [] →
    s.dev.fld F.tbStatusRegState ≠ 1 →
    (∀ e ∈ es, e.seq < 576 ∧ s.dev.seqWritable e.seq c.sess = true ∧ s.dev.seqActive e.seq = false ∧
      s.dev.entryOk e.seq 32768 (s.dev.entryOf e) = true) →
    Alters (.runStart c x es) c 0x0501 s (fun d => { s.dev with seqs := d.seqs })
      (es.flatMap fun e => [RegName.addr .csStatus e.seq, RegName.addr .csBlockser e.seq, RegName.addr .csLeadLo e.seq,
        RegName.addr .csLeadHi e.seq]) fun d =>
      (∀ e ∈ es, d.fld F.csStatusState e.seq = 1 ∧ d.reg .csBlockser e.seq = 0 ∧ (d.seq e.seq).t = x ∧ (d.seq e.seq).issuing = true ∧
        ∃ f ∈ es, f.seq = e.seq ∧ (d.seq e.seq).npc = s.dev.entryOf f) ∧
      ∀ k : Fin 576, (∀ e ∈ es, e.seq ≠ k) → sfind d.seqs k = sfind s.dev.seqs k) ∧
  (∀ (s : State) (c : Ctx) (k : Fin 576) (tgt : Nat) (b : Blk), Takes s c → s.dev.isBlockAt (storeOf k) tgt = true →
    s.dev.seqWritable k c.sess = true → s.dev.seqState k = 2 → (s.dev.seq k).pres = none → (s.dev.seq k).represent = none →
    (s.dev.seq k).blk = some b →
    Answers (.runJump c k tgt) c 0x0502 s [] (s.dev.updSeq k fun q => { q with jump := some (s.dev.issueIndex, tgt, []) }) [] []
      fun _ => True) ∧
  (∀ (s : State) (c : Ctx), Takes s c →
    OnlyAnswers (.runStatus c) c 0x0504 s ((List.range 576).map fun k => BitVec.ofNat 8 (s.dev.fld F.csStatusState k))) ∧
  (∀ (s : State) (c : Ctx) (k : Fin 512) (n : Fin 16), Takes s c → s.dev.seqWritable k c.sess = true → s.dev.offers = [] →
    (s.dev.seq k).pres = none → (s.dev.seq k).represent = none → (s.dev.seq k).altOf = none → (s.dev.seq k).blk = none →
    (s.dev.seq k).ending = [] → (s.dev.seq k).final = none →
    Alters (.stop c (2 ^ k.val) 0 (2 ^ n.val)) c 0x0F01 s (fun d => { s.dev with
        seqs := d.seqs, ports := d.ports, acts := s.dev.acts.filter fun a => a.owner != k.val || decide (a.index < s.dev.reach)
        trig := d.trig }) [] fun d =>
      OtherSeqs s.dev d k ∧ (d.seq k).final = some (s.dev.reach, 4) ∧ (d.seq k).issuing = false ∧
      (∀ v ∈ (d.port k).voices, v.start < s.dev.reach) ∧ (∀ q, q ≠ k.val → sfind d.ports q = sfind s.dev.ports q) ∧
      d.trig = { s.dev.trig with eng := d.trig.eng } ∧ d.tg n = { s.dev.tg n with chg := some none } ∧
      ∀ q, q ≠ n.val → sfind d.trig.eng q = sfind s.dev.trig.eng q) ∧
  (∀ (s : State) (c : Ctx) (k : Fin 512), Takes s c → s.dev.seqWritable k c.sess = false →
    Ends (.stop c (2 ^ k.val) 0 0) c 0x0F01 s stNotOwner 1 1 [] s.dev [] [] fun _ => True) ∧
  (∀ (s : State) (c : Ctx) (e : Timed), Takes s c → s.dev.eng.timed = [e] → e.ctx.sess = c.sess → s.dev.eng.running = none →
    s.dev.offers = [] →
    Completes (.abort c) s fun d =>
      Frame { s.dev with
        eng := { s.dev.eng with timed := [], out := d.eng.out }, sess := d.sess, seqs := d.seqs, ports := d.ports, acts := d.acts
        inputs := d.inputs, lanes := d.lanes, leds := d.leds, segs := d.segs, formes := d.formes, trig := d.trig } d
        [RegName.addr .ceAccepted] ∧
      (∀ n : Fin 16, d.tg n = { s.dev.tg n with chg := some none }) ∧
      (∀ k : Fin 576, s.dev.seqWritable k c.sess = true → (d.seq k).issuing = false ∧ (d.seq k).final ≠ none) ∧
      (∀ k : Fin 576, s.dev.seqWritable k c.sess = false → sfind d.seqs k = sfind s.dev.seqs k) ∧
      ∃ early, d.eng.out = s.dev.eng.out ++ early ∧ early.length = b2n c.ack + 2 ∧
        (early.drop (b2n c.ack)).map (fun r => (r.status, r.seq, bitOf r.flags 5)) =
          [(stBusy, e.ctx.seq, true), (stOk, c.seq, false)])

/-- IDENTIFY, ECHO, SUMMARY and MC_INFO only answer. MC_LOAD_BEGIN empties the stage, sets its length and LOADING; MC_LOAD_DATA
stages its bytes in place of those at their offsets; MC_LOAD_COMMIT of an image that passes every test commits it, shows its
VERSION in MC_PENDING and sets PENDING, while one that fails a test is refused with the offset of the field, and one committed
outside the plate store's window with THERMAL. -/
def Obligations.IdentityAndMicrocode : Prop :=
  (∀ (s : State) (c : Ctx), Takes s c →
    OnlyAnswers (.identify c) c 0x0101 s (leBytes 4 (s.dev.reg .ident).toNat ++ leBytes 4 (s.dev.reg .revision).toNat
      ++ leBytes 2 (s.dev.fld F.lkDevidDevid) ++ zeros 2 ++ leBytes 4 (s.dev.reg .mcVersion).toNat ++ serialBytes)) ∧
  (∀ (s : State) (c : Ctx) (data : List Byte), Takes s c → data.length ≤ 1024 → OnlyAnswers (.echo c data) c 0x0102 s data) ∧
  (∀ (s : State) (c : Ctx), Takes s c →
    OnlyAnswers (.summary c) c 0x0103 s (([.ceStatus, .memStatus, .budStatus, .dfStatus, .calStatus, .tbStatus] : List RegName).flatMap
      (fun r => leBytes 4 ((s.dev.accept c 0x0103).view r 0 0 0).toNat) ++ leBytes 8 s.dev.ssi)) ∧
  (∀ (s : State) (c : Ctx), Takes s c →
    OnlyAnswers (.mcInfo c) c 0x0D04 s (([.mcVersion, .mcPending, .mcSecver, .mcMinsec, .mcStatus] : List RegName).flatMap
      (fun r => leBytes 4 (s.dev.reg r).toNat) ++ zeros 12)) ∧
  (∀ (s : State) (c : Ctx) (len : Nat), Takes s c → 256 ≤ len → len ≤ 131072 →
    Answers (.mcLoadBegin c len) c 0x0D01 s [] { s.dev with eng := { s.dev.eng with stageLen := len, stage := [] } }
      [RegName.addr .mcStatus] [] fun d => d.flag F.mcStatusLoading = true) ∧
  (∀ (s : State) (c : Ctx) (len : Nat), Takes s c → (len < 256 ∨ 131072 < len) → Refuses (.mcLoadBegin c len) c 0x0D01 s stBadArg 0) ∧
  (∀ (s : State) (c : Ctx) (ofs : Nat) (data : List Byte), Takes s c → data ≠ [] → data.length ≤ 4096 →
    s.dev.flag F.mcStatusLoading = true → ofs + data.length ≤ s.dev.eng.stageLen →
    Alters (.mcLoadData c ofs data) c 0x0D02 s (fun d => { s.dev with eng := { s.dev.eng with stage := d.eng.stage } }) [] fun d =>
      sliceB d.eng.image ofs data.length = data ∧
      ∀ i ∈ List.range s.dev.eng.stageLen, (i < ofs ∨ ofs + data.length ≤ i) → d.eng.image.getD i 0 = s.dev.eng.image.getD i 0) ∧
  (∀ (s : State) (c : Ctx) (ofs : Nat) (data : List Byte), Takes s c → data ≠ [] → data.length ≤ 4096 →
    s.dev.flag F.mcStatusLoading = false → Refuses (.mcLoadData c ofs data) c 0x0D02 s stBusy 0) ∧
  (∀ (s : State) (c : Ctx) (sigOk : Bool), Takes s c → imageFault s.dev.eng.image sigOk (s.dev.reg .mcMinsec).toNat = none →
    s.dev.flag F.thStatusPlateOk = true →
    Answers (.mcLoadCommit c sigOk) c 0x0D03 s []
      { s.dev with eng := { s.dev.eng with committed := s.dev.eng.image, stage := [], stageLen := 0 } }
      [RegName.addr .mcPending, RegName.addr .mcStatus] [] fun d =>
        d.reg .mcPending = BitVec.ofNat 32 (fieldB s.dev.eng.image 4 4) ∧ d.flag F.mcStatusPending = true ∧
        d.flag F.mcStatusLoading = false) ∧
  (∀ (s : State) (c : Ctx) (sigOk : Bool) (x : Nat), Takes s c → imageFault s.dev.eng.image sigOk (s.dev.reg .mcMinsec).toNat = some x →
    Refuses (.mcLoadCommit c sigOk) c 0x0D03 s stBadArg x) ∧
  (∀ (s : State) (c : Ctx) (sigOk : Bool), Takes s c → imageFault s.dev.eng.image sigOk (s.dev.reg .mcMinsec).toNat = none →
    s.dev.flag F.thStatusPlateOk = false → Refuses (.mcLoadCommit c sigOk) c 0x0D03 s stThermal 0)

/-- SESSION_OPEN with the right OPEN_CTR, signature and random source opens the session on its transport with a fresh window
and the keys of both ends' ephemeral keys and nonces, moves OPEN_CTR on, presents event 8 and answers the public key, the nonce
and a signature that covers both ends' parts; a wrong OPEN_CTR, signature or signature bytes, a missing random source, and an
open session without TAKEOVER are refused with the status and DETAIL of R483, unrecorded. A packet encrypted and tagged under
the host's key and the COUNT expected is read as it was sent. SESSION_CLOSE answers and closes its own session, its TIMED
commands cancelled, and no other's. OWNER_ENROLL, once, burns the key's SHA-384, seals the key into the plate store, answers
the digest and closes every session. -/
def Obligations.SessionsAndOwner : Prop :=
  (∀ (s : State) (c : Ctx) (r : OpenReq), Takes s c → r.s < 8 → r.s = c.sess → r.openCtr = (s.dev.reg .secOpenctr).toNat →
    (s.dev.flag F.secStatusOwned = true → r.sigOk = true) → (s.dev.flag F.secStatusOwned = false → r.sigZero = true) →
    s.dev.flag F.secStatusDrbgOk = true → (s.dev.session r.s).isOpen = false → onCurve (pointOf r.hostKey) = true →
    Completes (.sessionOpen c r) s fun d =>
      let k := privateKey (Config.random s.dev.free).toNat
      let nonce := leBytes 32 (Config.random (s.dev.free + 1)).toNat
      let sig := ecdsaSign idSecret (privateKey (Config.random (s.dev.free + 2)).toNat) (sha384 (openSigned r ++ publicKey k ++ nonce))
      Frame { s.dev with
        free := s.dev.free + 3, eng := { s.dev.eng with out := d.eng.out }
        sess := sput s.dev.sess r.s {
          isOpen := true, via := c.via, keys := sessionKeys r.s (sharedValue k r.hostKey) r.hostNonce nonce } } d
        [RegName.addr .ceAccepted, RegName.addr .secOpenctr] [⟨ceEvent 8, s.dev.ssi, false, []⟩] ∧
      d.reg .secOpenctr = s.dev.reg .secOpenctr + 1 ∧ d.reg .ceAccepted = s.dev.reg .ceAccepted + 1 ∧
      Replies s.dev d c 0x0C01 stOk 1 0 (publicKey k ++ nonce ++ sig)) ∧
  (∀ (s : State) (c : Ctx) (r : OpenReq), Takes s c → r.s < 8 → r.s = c.sess → r.openCtr = (s.dev.reg .secOpenctr).toNat →
    (s.dev.flag F.secStatusOwned = true → r.sigOk = true) → (s.dev.flag F.secStatusOwned = false → r.sigZero = true) →
    s.dev.flag F.secStatusDrbgOk = true → ((s.dev.session r.s).isOpen = true → r.takeover = true) →
    Completes (.sessionOpen c r) s fun d =>
      Frame { s.dev with
        free := s.dev.free + (if onCurve (pointOf r.hostKey) then 3 else 4)
        eng := { s.dev.eng with
          out := d.eng.out
          timed := s.dev.eng.timed.filter fun e => !((s.dev.session r.s).isOpen && e.ctx.sess == r.s) }
        sess := d.sess } d [RegName.addr .ceAccepted, RegName.addr .secOpenctr]
        ((if (s.dev.session r.s).isOpen then [⟨ceEvent 9, s.dev.ssi, false, []⟩] else []) ++ [⟨ceEvent 8, s.dev.ssi, false, []⟩]) ∧
      (∀ q, q ≠ r.s → sfind d.sess q = sfind s.dev.sess q) ∧
      d.session r.s = { isOpen := true, via := c.via, keys := (d.session r.s).keys } ∧ (d.session r.s).keys.length = 72 ∧
      d.reg .secOpenctr = s.dev.reg .secOpenctr + 1 ∧
      ∃ a, d.eng.out.getLast? = some a ∧ a.status = stOk ∧ a.seq = c.seq ∧ a.via = c.via ∧ a.data.length = 224) ∧
  (∀ (d : Device) (r : RawPacket) (n c len : Nat) (b : List Byte), fieldB r.header 4 1 % 8 = n → fieldB r.header 0 2 ≠ 0x0C01 →
    fieldB r.header 12 4 = len → len ≤ b.length → len ≤ 1048576 → (d.session n).isOpen = true → (d.session n).via = r.via →
    (d.session n).rx.getD (vcSlot r.vc) 0 = c →
    r.body = counterMode ((d.session n).key 0) ((d.session n).iv 0 r.vc c) 0 b →
    r.tag = gcmTag ((d.session n).key 0) ((d.session n).iv 0 r.vc c) r.header r.body →
    (d.openPacket r).tag = some c ∧ (d.openPacket r).payload = b.take len) ∧
  (∀ (s : State) (c : Ctx) (r : OpenReq), Takes s c → (8 ≤ r.s ∨ r.s ≠ c.sess) →
    Completes (.sessionOpen c r) s fun d => Frame { s.dev with eng := { s.dev.eng with out := d.eng.out } } d [RegName.addr .ceAccepted] ∧
      Replies s.dev d c 0x0C01 stBadArg 0 0 []) ∧
  (∀ (s : State) (c : Ctx) (r : OpenReq), Takes s c → r.s < 8 → r.s = c.sess → r.openCtr = (s.dev.reg .secOpenctr).toNat →
    s.dev.flag F.secStatusOwned = false → r.sigZero = false →
    Completes (.sessionOpen c r) s fun d => Frame { s.dev with eng := { s.dev.eng with out := d.eng.out } } d [RegName.addr .ceAccepted] ∧
      Replies s.dev d c 0x0C01 stBadArg 0 136 []) ∧
  (∀ (s : State) (c : Ctx) (r : OpenReq), Takes s c → r.s < 8 → r.s = c.sess → r.openCtr ≠ (s.dev.reg .secOpenctr).toNat →
    Completes (.sessionOpen c r) s fun d => Frame { s.dev with eng := { s.dev.eng with out := d.eng.out } } d [RegName.addr .ceAccepted] ∧
      Replies s.dev d c 0x0C01 stBadArg 0 (s.dev.reg .secOpenctr).toNat []) ∧
  (∀ (s : State) (c : Ctx) (r : OpenReq), Takes s c → r.s < 8 → r.s = c.sess → r.openCtr = (s.dev.reg .secOpenctr).toNat →
    s.dev.flag F.secStatusOwned = true → r.sigOk = false →
    Completes (.sessionOpen c r) s fun d => Frame { s.dev with eng := { s.dev.eng with out := d.eng.out } } d [RegName.addr .ceAccepted] ∧
      Replies s.dev d c 0x0C01 stAuthFail 0 0 []) ∧
  (∀ (s : State) (c : Ctx) (r : OpenReq), Takes s c → r.s < 8 → r.s = c.sess → r.openCtr = (s.dev.reg .secOpenctr).toNat →
    (s.dev.flag F.secStatusOwned = true → r.sigOk = true) → (s.dev.flag F.secStatusOwned = false → r.sigZero = true) →
    (s.dev.flag F.secStatusDrbgOk = false ∨ (s.dev.session r.s).isOpen = true ∧ r.takeover = false) →
    Completes (.sessionOpen c r) s fun d => Frame { s.dev with eng := { s.dev.eng with out := d.eng.out } } d [RegName.addr .ceAccepted] ∧
      Replies s.dev d c 0x0C01 stBusy 0 0 []) ∧
  (∀ (s : State) (c : Ctx), Takes s c → (s.dev.session c.sess).isOpen = true →
    Completes (.sessionClose c c.sess) s fun d =>
      let gone := s.dev.eng.timed.filter fun e => e.ctx.sess == c.sess
      Frame { s.dev with
        eng := { s.dev.eng with out := d.eng.out, timed := s.dev.eng.timed.filter fun e => e.ctx.sess != c.sess }
        sess := d.sess } d [RegName.addr .ceAccepted] [⟨ceEvent 9, s.dev.ssi, false, []⟩] ∧
      d.session c.sess = {} ∧ (∀ q, q ≠ c.sess → sfind d.sess q = sfind s.dev.sess q) ∧
      d.eng.out.take s.dev.eng.out.length = s.dev.eng.out ∧
      (d.eng.out.drop (s.dev.eng.out.length + b2n c.ack)).map (fun a => (a.status, a.seq, a.opcode, bitOf a.flags 5)) =
        (stOk, c.seq, 0x0C02, false) :: gone.map fun e => (stBusy, e.ctx.seq, e.opcode, true)) ∧
  (∀ (s : State) (c : Ctx) (n : Nat), Takes s c → n ≠ c.sess → Refuses (.sessionClose c n) c 0x0C02 s stNotOwner 0) ∧
  (∀ (s : State) (c : Ctx) (key : List Byte), Takes s c → s.dev.flag F.secStatusOwned = false →
    s.dev.fld F.thStartOwnspent ≠ 3 → s.dev.flag F.secStatusDrbgOk = true → s.dev.flag F.thStatusFuseOk = true →
    Completes (.ownerEnroll c key true) s fun d =>
      (s.dev.eng.timed = [] → Replies s.dev d c 0x0C03 stOk 1 0 (sha384 key)) ∧
      Frame { s.dev with
        free := s.dev.free + 1, plate := sput s.dev.plate 512 key, seals := d.seals, sess := d.sess
        eng := { s.dev.eng with
          out := d.eng.out
          timed := s.dev.eng.timed.filter fun e => !(decide (e.ctx.sess < 8) && (s.dev.session e.ctx.sess).isOpen) } } d
        ([RegName.addr .ceAccepted, RegName.addr .secStatus] ++ (List.range 12).map fun w => RegName.addr .secOwnerdig 0 w)
        (((List.range 8).filter fun n => (s.dev.session n).isOpen).map fun _ => ⟨ceEvent 9, s.dev.ssi, false, []⟩) ∧
      d.flag F.secStatusOwned = true ∧ (∀ w : Fin 12, (d.reg .secOwnerdig 0 w).toNat = fieldB (sha384 key) (4 * w) 4) ∧
      (sget [] d.seals 512).take 72 = sealHead 2 0 s.dev.deviceTime key ∧
      (∀ n : Fin 8, (d.session n).isOpen = false) ∧ ∀ q, q ≠ 512 → sfind d.seals q = sfind s.dev.seals q) ∧
  (∀ (s : State) (c : Ctx) (key : List Byte), Takes s c → s.dev.flag F.secStatusOwned = false →
    (s.dev.fld F.thStartOwnspent = 3 ∨ s.dev.flag F.secStatusDrbgOk = false) →
    Refuses (.ownerEnroll c key true) c 0x0C03 s stBusy 0) ∧
  (∀ (s : State) (c : Ctx) (key : List Byte), Takes s c → s.dev.flag F.secStatusOwned = false →
    s.dev.fld F.thStartOwnspent ≠ 3 → s.dev.flag F.secStatusDrbgOk = true → s.dev.flag F.thStatusFuseOk = false →
    Refuses (.ownerEnroll c key true) c 0x0C03 s stThermal 0) ∧
  (∀ (s : State) (c : Ctx) (key : List Byte) (sigOk : Bool), Takes s c → s.dev.flag F.secStatusOwned = true →
    Refuses (.ownerEnroll c key sigOk) c 0x0C03 s stNotOwner 0) ∧
  (∀ (s : State) (c : Ctx) (key : List Byte), Takes s c → s.dev.flag F.secStatusOwned = false →
    Refuses (.ownerEnroll c key false) c 0x0C03 s stBadArg 96)

/-- RES_SEAL gives the resources named, its own or open ones and at rest, to its session with the attribute, and RES_RELEASE
gives its session's own back to FIRMWARE; event 14 tells. A channel newly SEALED stops the selections of it made for others and
sets SEALCUT where there was one. A resource of another session, and one at work, is refused with its number in DETAIL. Every
other resource keeps its owner. -/
def Obligations.Ownership : Prop :=
  (∀ (s : State) (c : Ctx) (kind attr first count : Nat), Takes s c → c.sess < 8 → kind < 4 → attr < 2 → (kind, attr) ≠ (0, 1) → 0 < count →
    first + count ≤ [256, 512, 64, 16].getD kind 0 →
    (∀ i ∈ List.range count, ((s.dev.ownerOf kind (first + i)).1 = c.sess ∨ s.dev.ownerOf kind (first + i) = (15, false)) ∧
      s.dev.ownBusy kind (first + i) = false) →
    Answers (.resSeal c kind attr first count) c 0x0C04 s [] s.dev
      ((List.range count).map fun i => (ownerReg kind (first + i))) [⟨ceEvent 14, s.dev.ssi, false, []⟩] fun d =>
      (∀ i ∈ List.range count, d.ownerOf kind (first + i) = (c.sess, attr == 1)) ∧
      ∀ i ∈ List.range ([256, 512, 64, 16].getD kind 0), (i < first ∨ first + count ≤ i) → d.ownerOf kind i = s.dev.ownerOf kind i) ∧
  (∀ (s : State) (c : Ctx) (n : Fin 256), Takes s c → c.sess < 8 → s.dev.ownerOf 0 n ≠ (c.sess, true) →
    ((s.dev.ownerOf 0 n).1 = c.sess ∨ s.dev.ownerOf 0 n = (15, false)) →
    Alters (.resSeal c 0 1 n 1) c 0x0C04 s (fun d => { s.dev with ev := d.ev, seqs := d.seqs })
      [RegName.addr .evEcOwn n, RegName.addr .evStatus] fun d =>
      d.ownerOf 0 n = (c.sess, true) ∧ (∀ k ∈ s.dev.selectionsCut n c.sess, d.ev.cut.contains k = true) ∧
      (s.dev.selectionsCut n c.sess ≠ [] → d.flag F.evStatusSealcut = true) ∧
      d.ev.now = s.dev.ev.now ++ [⟨ceEvent 14, s.dev.ssi, false, []⟩]) ∧
  (∀ (s : State) (c : Ctx) (kind attr first count : Nat), Takes s c → kind < 4 → attr < 2 → 0 < count →
    first + count ≤ [256, 512, 64, 16].getD kind 0 →
    (∀ i ∈ List.range count, (s.dev.ownerOf kind (first + i)).1 = c.sess ∧ s.dev.ownBusy kind (first + i) = false) →
    Answers (.resRelease c kind attr first count) c 0x0C05 s [] s.dev
      ((List.range count).map fun i => (ownerReg kind (first + i))) [⟨ceEvent 14, s.dev.ssi, false, []⟩] fun d =>
      ∀ i ∈ List.range count, d.ownerOf kind (first + i) = (15, attr == 1)) ∧
  (∀ (s : State) (c : Ctx) (kind attr first : Nat), Takes s c → kind < 4 → attr < 2 → first < [256, 512, 64, 16].getD kind 0 →
    (s.dev.ownerOf kind first).1 ≠ c.sess → s.dev.ownerOf kind first ≠ (15, false) →
    Refuses (.resSeal c kind attr first 1) c 0x0C04 s stNotOwner first) ∧
  (∀ (s : State) (c : Ctx) (kind attr first : Nat), Takes s c → kind < 4 → attr < 2 → first < [256, 512, 64, 16].getD kind 0 →
    (s.dev.ownerOf kind first).1 = c.sess → s.dev.ownBusy kind first = true →
    Refuses (.resRelease c kind attr first 1) c 0x0C05 s stBusy first) ∧
  (∀ (s : State) (c : Ctx) (kind attr first : Nat), Takes s c → kind < 4 → attr < 2 → first < [256, 512, 64, 16].getD kind 0 →
    (s.dev.ownerOf kind first).1 ≠ c.sess → Refuses (.resRelease c kind attr first 1) c 0x0C05 s stNotOwner first)

/-- CERT_READ answers one of the three certificates. ATTEST with a 48-byte nonce answers the statement and its identity
signature, and is refused with BUSY without a random source and with BAD_LENGTH for another nonce. COLOPHON_READ answers the
oldest colophons of the ring and takes them out, or with PEEK only answers. A colophon signed leaves the queue for the ring,
SEC_COLWR moves on and event 12 comes. A deferred colophon is issued with DEFERRED once there is room, and the lane's next
range begins. -/
def Obligations.Attestation : Prop :=
  (∀ (s : State) (c : Ctx) (n : Nat), Takes s c → n < 3 → OnlyAnswers (.certRead c n) c 0x0C06 s (Config.cert n)) ∧
  (∀ (s : State) (c : Ctx) (n : Nat), Takes s c → 3 ≤ n → Refuses (.certRead c n) c 0x0C06 s stBadArg 0) ∧
  (∀ (s : State) (c : Ctx) (nonce : List Byte), Takes s c → nonce.length = 48 → s.dev.flag F.secStatusDrbgOk = true →
    Answers (.attest c nonce) c 0x0C08 s (s.dev.statement nonce
        ++ ecdsaSign idSecret (privateKey (Config.random s.dev.free).toNat) (sha384 (s.dev.statement nonce)))
      { s.dev with free := s.dev.free + 1 } [] [] fun _ => True) ∧
  (∀ (s : State) (c : Ctx) (nonce : List Byte), Takes s c → nonce.length = 48 → s.dev.flag F.secStatusDrbgOk = false →
    Refuses (.attest c nonce) c 0x0C08 s stBusy 0) ∧
  (∀ (s : State) (c : Ctx) (nonce : List Byte), Takes s c → nonce.length ≠ 48 → Refuses (.attest c nonce) c 0x0C08 s stBadLength 0) ∧
  (∀ (s : State) (c : Ctx) (n : Nat) (peek : Bool), Takes s c → (n = 0 ∨ 64 < n) →
    Refuses (.colophonRead c n peek) c 0x0C07 s stBadArg 0) ∧
  (∀ (s : State) (c : Ctx) (n : Nat), Takes s c → 0 < n → n ≤ 64 →
    OnlyAnswers (.colophonRead c n true) c 0x0C07 s
      ((List.range (min n s.dev.colFill)).flatMap fun j => sget [] s.dev.colring (((s.dev.reg .secColrd).toNat + j) % 4096))) ∧
  (∀ (s : State) (c : Ctx) (n : Nat), Takes s c → 0 < n → n ≤ 64 →
    Answers (.colophonRead c n false) c 0x0C07 s
      ((List.range (min n s.dev.colFill)).flatMap fun j => sget [] s.dev.colring (((s.dev.reg .secColrd).toNat + j) % 4096))
      { s.dev with colFill := s.dev.colFill - min n s.dev.colFill } [RegName.addr .secColrd] [] fun d =>
        (d.reg .secColrd).toNat = ((s.dev.reg .secColrd).toNat + min n s.dev.colFill) % 4096) ∧
  (∀ (s : State) (b : List Byte) (rest : List (List Byte)), Runs s → s.dev.colq = b :: rest → s.dev.colFill < 4096 →
    Completes .colophonSigned s fun d =>
      Frame { s.dev with
        free := s.dev.free + 1, colq := rest, colFill := s.dev.colFill + 1
        colring := sput s.dev.colring (s.dev.reg .secColwr).toNat (b
          ++ ecdsaSign idSecret (privateKey (Config.random s.dev.free).toNat) (sha384 b)) } d
        [RegName.addr .secColwr] [⟨ceEvent 12, s.dev.ssi, false, []⟩] ∧
      (d.reg .secColwr).toNat = ((s.dev.reg .secColwr).toNat + 1) % 4096) ∧
  (∀ (s : State), Runs s → (s.dev.colq = [] ∨ 4096 ≤ s.dev.colFill) → Completes .colophonSigned s fun d => Frame s.dev d []) ∧
  (∀ (s : State) (l : Fin 1024), Runs s →
    ((s.dev.lane l).colWait = none ∨ 64 ≤ s.dev.colq.length ∨ 4096 ≤ s.dev.colFill) →
    Completes (.colophonDeferredIssue l) s fun d => Frame s.dev d []) ∧
  (∀ (s : State) (l : Fin 1024) (kind serial : Nat), Runs s → (s.dev.lane l).colWait = some (kind, serial) → s.dev.colq.length < 64 →
    s.dev.colFill < 4096 →
    Completes (.colophonDeferredIssue l) s fun d =>
      Frame (({ s.dev with colq := s.dev.colq ++ [s.dev.colophonBody l kind serial true] } : Device).updLane l fun x => { x with
        chained := 0, colEnd := x.colStop, colPrev := some (s.dev.head l), colSer := x.colSer + 1, colWait := none }) d [])

/-- RESET_N low for 1 us or more resets (below that it may): fuses and plate store stand, every register that does not show
them has its reset value and all other state is lost; its rise begins start-up. Each stage whose predecessors are done
completes with its effect, and one whose predecessors are not, or that is done, has none; where one fails, start-up stops with
its code, the engine halted: fuses 1, clocks 2, sensors 3, memory 4 and 5, Proof 6, keys 7, microcode 9. Failing entropy tests
stop nothing. Without a good committed image the factory image runs. -/
def Obligations.StartupStages : Prop :=
  (∀ (s : State) (ns : Nat), 1000 ≤ ns →
    Completes (.resetAssert ns) s fun d =>
      Frame { phase := .inReset, free := d.free, boots := s.dev.boots, plate := s.dev.plate, seals := s.dev.seals
              curveLoads := s.dev.curveLoads, repairs := s.dev.repairs, cal := { ser := s.dev.cal.ser }
              eng := { committed := s.dev.eng.committed } } d
        (keptRegs ++ [RegName.addr .secStatus, RegName.addr .thStart]) ∧
      (∀ w : Fin 12, d.reg .secOwnerdig 0 w = s.dev.reg .secOwnerdig 0 w) ∧ d.reg .secOpenctr = s.dev.reg .secOpenctr ∧
      d.reg .mcPending = s.dev.reg .mcPending ∧ d.reg .mcMinsec = s.dev.reg .mcMinsec ∧
      d.flag F.secStatusOwned = s.dev.flag F.secStatusOwned ∧
      ((∀ r ∈ s.dev.eng.running, r.opcode ≠ 0x0C03 ∧ r.opcode ≠ 0x0A06) →
        d.free = s.dev.free ∧ d.fld F.thStartOwnspent = s.dev.fld F.thStartOwnspent ∧ d.reg .memRepairFree = s.dev.reg .memRepairFree)) ∧
  (∀ (s : State) (ns : Nat), ns < 1000 →
    Completes (.resetAssert ns) s fun d =>
      Frame { s.dev with free := s.dev.free + 1 } d [] ∨ d.phase = .inReset ∧ ∀ w : Fin 12, d.reg .secOwnerdig 0 w = s.dev.reg .secOwnerdig 0 w) ∧
  (∀ (s : State), s.dev.phase ≠ .inReset → Completes .resetRelease s fun d => Frame s.dev d []) ∧
  (∀ (s : State) (ok : Bool), s.dev.stageOpen 1 [] = false → Completes (.startupFuses ok) s fun d => Frame s.dev d []) ∧
  (∀ (s : State) (ok laneOk : Bool), s.dev.stageOpen 2 [1] = false → Completes (.startupClocks ok laneOk) s fun d => Frame s.dev d []) ∧
  (∀ (s : State), s.dev.stageOpen 2 [1] = false → Completes .clockLockTimeout s fun d => Frame s.dev d []) ∧
  (∀ (s : State) (ok checkers : Bool), s.dev.stageOpen 4 [3] = false →
    Completes (.startupMemory ok checkers) s fun d => Frame s.dev d []) ∧
  (∀ (s : State) (r : SecStart), s.dev.stageOpen 5 [1] = false → Completes (.startupSecurity r) s fun d => Frame s.dev d []) ∧
  (∀ (s : State) (ok : Bool), s.dev.stageOpen 6 [4] = false → Completes (.proof ok) s fun d => Frame s.dev d []) ∧
  (∀ (s : State) (sigOk romOk : Bool), s.dev.stageOpen 8 [5, 6] = false →
    Completes (.startupMicrocode sigOk romOk) s fun d => Frame s.dev d []) ∧
  (∀ (s : State), s.dev.phase = .inReset → Completes .resetRelease s fun d => Frame { s.dev with phase := .starting 0 } d []) ∧
  (∀ (s : State) (m : Nat), s.dev.phase = .starting m → bitOf m 1 = false →
    Completes (.startupFuses true) s fun d => Frame { s.dev with phase := .starting (m + 2 ^ 1) } d []) ∧
  (∀ (s : State) (m : Nat), s.dev.phase = .starting m → bitOf m 1 = false →
    Completes (.startupFuses false) s fun d => Frame { s.dev with phase := .stopped 1 m, eng := { s.dev.eng with halted := true } } d []) ∧
  (∀ (s : State) (m : Nat) (laneOk : Bool), s.dev.phase = .starting m → bitOf m 2 = false → bitOf m 1 = true →
    Completes (.startupClocks true laneOk) s fun d =>
      Frame { s.dev with phase := .starting (m + 2 ^ 2), cycle := 0 } d [RegName.addr .thStart] ∧
      d.flag F.thStartLaneclk = !laneOk) ∧
  (∀ (s : State) (m : Nat), s.dev.phase = .starting m → bitOf m 2 = false → bitOf m 1 = true →
    Completes .clockLockTimeout s fun d => Frame { s.dev with phase := .stopped 2 m, eng := { s.dev.eng with halted := true } } d []) ∧
  (∀ (s : State) (m : Nat) (laneOk : Bool), s.dev.phase = .starting m → bitOf m 2 = false → bitOf m 1 = true →
    Completes (.startupClocks false laneOk) s fun d =>
      Frame { s.dev with phase := .stopped 2 m, eng := { s.dev.eng with halted := true } } d []) ∧
  (∀ (s : State) (m : Nat), s.dev.phase = .starting m → bitOf m 4 = false → bitOf m 3 = true →
    Completes (.startupMemory true true) s fun d =>
      Frame { s.dev with
        phase := .starting (m + 2 ^ 4), dram := [], galley := [], prog := [], kernels := [], sramErrs := [] } d
        [RegName.addr .memSpares] ∧
      d.fld F.memSparesDram = s.dev.repairs.length % 2 ^ (F.memSparesDram.hi - F.memSparesDram.lo + 1) ∧
      d.fld F.memSparesSram = Config.sramSpares.toNat % 2 ^ (F.memSparesSram.hi - F.memSparesSram.lo + 1)) ∧
  (∀ (s : State) (m : Nat) (checkers : Bool), s.dev.phase = .starting m → bitOf m 4 = false → bitOf m 3 = true →
    Completes (.startupMemory false checkers) s fun d =>
      Frame { s.dev with phase := .stopped 4 m, eng := { s.dev.eng with halted := true } } d []) ∧
  (∀ (s : State) (m : Nat), s.dev.phase = .starting m → bitOf m 4 = false → bitOf m 3 = true →
    Completes (.startupMemory true false) s fun d =>
      Frame { s.dev with phase := .stopped 5 m, eng := { s.dev.eng with halted := true } } d []) ∧
  (∀ (s : State) (m : Nat) (drbgOk : Bool), s.dev.phase = .starting m → bitOf m 5 = false → bitOf m 1 = true →
    Completes (.startupSecurity ⟨drbgOk, true⟩) s fun d =>
      Frame { s.dev with phase := .starting (m + 2 ^ 5), boots := s.dev.boots + 1 } d [RegName.addr .secStatus] ∧
      d.flag F.secStatusDrbgOk = drbgOk ∧ d.flag F.secStatusIdkeyOk = true) ∧
  (∀ (s : State) (m : Nat) (drbgOk : Bool), s.dev.phase = .starting m → bitOf m 5 = false → bitOf m 1 = true →
    Completes (.startupSecurity ⟨drbgOk, false⟩) s fun d =>
      Frame { s.dev with phase := .stopped 7 m, boots := s.dev.boots + 1, eng := { s.dev.eng with halted := true } } d
        [RegName.addr .secStatus]) ∧
  (∀ (s : State) (m : Nat), s.dev.phase = .starting m → bitOf m 6 = false → bitOf m 4 = true →
    Completes (.proof true) s fun d => Frame { s.dev with phase := .starting (m + 2 ^ 6) } d []) ∧
  (∀ (s : State) (m : Nat), s.dev.phase = .starting m → bitOf m 6 = false → bitOf m 4 = true →
    Completes (.proof false) s fun d => Frame { s.dev with phase := .stopped 6 m, eng := { s.dev.eng with halted := true } } d []) ∧
  (∀ (s : State) (m : Nat) (sigOk : Bool), s.dev.phase = .starting m → bitOf m 8 = false → bitOf m 5 = true → bitOf m 6 = true →
    (s.dev.reg .mcPending = 0 ∨ sigOk = false) →
    Completes (.startupMicrocode sigOk true) s fun d =>
      Frame { s.dev with phase := .starting (m + 2 ^ 8) } d
        [RegName.addr .mcVersion, RegName.addr .mcSecver, RegName.addr .mcStatus] ∧
      d.reg .mcVersion = Config.romVersion ∧ d.reg .mcSecver = Config.romSecver ∧ d.flag F.mcStatusFallback = true) ∧
  (∀ (s : State) (m : Nat), s.dev.phase = .starting m → bitOf m 8 = false → bitOf m 5 = true → bitOf m 6 = true →
    s.dev.reg .mcPending ≠ 0 → s.dev.eng.committed ≠ [] →
    sliceB s.dev.eng.committed 16 48 = sha384 (s.dev.eng.committed.drop 256) →
    Completes (.startupMicrocode true true) s fun d =>
      Frame { s.dev with phase := .starting (m + 2 ^ 8), eng := { s.dev.eng with active := s.dev.eng.committed } } d
        [RegName.addr .mcVersion, RegName.addr .mcSecver, RegName.addr .mcMinsec] ∧
      (d.reg .mcVersion).toNat = fieldB s.dev.eng.committed 4 4 ∧ (d.reg .mcSecver).toNat = fieldB s.dev.eng.committed 8 4 ∧
      (d.reg .mcMinsec).toNat = max (s.dev.reg .mcMinsec).toNat (fieldB s.dev.eng.committed 8 4)) ∧
  (∀ (s : State) (m : Nat) (sigOk : Bool), s.dev.phase = .starting m → bitOf m 8 = false → bitOf m 5 = true → bitOf m 6 = true →
    s.dev.reg .mcPending = 0 →
    Completes (.startupMicrocode sigOk false) s fun d =>
      Frame { s.dev with phase := .stopped 9 m, eng := { s.dev.eng with halted := true } } d [])

/-- Stage 3 with every sensor of every read at one temperature shows it in every TH_TS, die, TJ and TMIN, and completes; with
no sensor answering start-up stops with code 3. Stage 7 with two sets that pass loads them and shows their temperatures,
CALSEAL telling a set that failed; with fewer start-up stops with code 8. RELEASE leaves every register that start-up did not
form at its reset value but the coefficients, ELAPSED showing its operand, and the device runs. SENSOR_READ at one temperature
shows it and the windows of R531. -/
def Obligations.SensorsAndRelease : Prop :=
  (∀ (s : State) (m t : Nat), s.dev.phase = .starting m → bitOf m 3 = false → bitOf m 2 = true → 200000 ≤ t → t ≤ 420000 →
    (∀ n : Fin 48, s.dev.broken n = false) → (∀ n : Fin 8, s.dev.flag F.thDietBlind 0 n = false) →
    Completes (.startupSensors (List.replicate 10 (List.replicate 48 (some t)))) s fun d =>
      Frame { s.dev with phase := .starting (m + 2 ^ 3), th := d.th, ev := {} } d
        (formedRegs ++ [RegName.addr .thStatus]) ∧
      (∀ n : Fin 48, d.fld F.thTsT 0 n = t ∧ d.flag F.thTsAgree 0 n = true ∧ d.flag F.thTsBroken 0 n = false) ∧
      (∀ n : Fin 8, d.fld F.thDietT 0 n = t ∧ d.reg .thCvofs 0 n = 0) ∧ d.fld F.thTjTj = t ∧ d.fld F.thTminTmin = t) ∧
  (∀ (s : State) (m : Nat), s.dev.phase = .starting m → bitOf m 3 = false → bitOf m 2 = true →
    Completes (.startupSensors (List.replicate 10 (List.replicate 48 none))) s fun d =>
      Frame { s.dev with phase := .stopped 3 m, eng := { s.dev.eng with halted := true }, th := d.th, ev := {} } d
        (formedRegs ++ [RegName.addr .thStatus]) ∧ ∀ n : Fin 48, d.broken n = true) ∧
  (∀ (s : State) (reads : List (List (Option Nat))), s.dev.stageOpen 3 [2] = false →
    Completes (.startupSensors reads) s fun d => Frame s.dev d []) ∧
  (∀ (s : State) (pass : List Nat), s.dev.stageOpen 7 [5, 6] = false →
    Completes (.startupCalibration pass) s fun d => Frame s.dev d []) ∧
  (∀ (s : State) (us : Nat), s.dev.stageOpen 9 [7, 8] = false → Completes (.release us) s fun d => Frame s.dev d []) ∧
  (∀ (s : State) (m a b : Nat) (x y : List Byte) (pass : List Nat), s.dev.phase = .starting m → bitOf m 7 = false → bitOf m 5 = true →
    bitOf m 6 = true → a < b → b < 8 → s.dev.plateOf a = some x → s.dev.plateOf b = some y → a ∈ pass → b ∈ pass →
    (∀ n : Fin 8, n.val ≠ a → n.val ≠ b → s.dev.plateOf n = none) →
    Completes (.startupCalibration pass) s fun d =>
      Frame { s.dev with phase := .starting (m + 2 ^ 7), cal := { s.dev.cal with coef := d.cal.coef } } d
        ([RegName.addr .thStart, RegName.addr .calProv] ++ (List.range 8).map fun n => RegName.addr .calTpoint 0 n) ∧
      d.flag F.thStartCalseal = false ∧ (d.reg .calTpoint 0 a).toNat = fieldB x 4 4 ∧ (d.reg .calTpoint 0 b).toNat = fieldB y 4 4 ∧
      ∀ n : Fin 8, n.val ≠ a → n.val ≠ b → d.reg .calTpoint 0 n = 0) ∧
  (∀ (s : State) (m : Nat) (x : List Byte), s.dev.phase = .starting m → bitOf m 7 = false → bitOf m 5 = true → bitOf m 6 = true →
    s.dev.plateOf 7 = some x →
    Completes (.startupCalibration []) s fun d =>
      Frame { s.dev with phase := .stopped 8 m, eng := { s.dev.eng with halted := true } } d [RegName.addr .thStart] ∧
      d.flag F.thStartCalseal = true) ∧
  (∀ (s : State) (m us : Nat), s.dev.phase = .starting m → bitOf m 9 = false → bitOf m 7 = true → bitOf m 8 = true → us < 2 ^ 32 →
    Completes (.release us) s fun d =>
      Frame { phase := .running, cycle := s.dev.cycle, free := s.dev.free, boots := s.dev.boots, plate := s.dev.plate
              seals := s.dev.seals, curveLoads := s.dev.curveLoads, repairs := s.dev.repairs, th := s.dev.th, cal := d.cal
              eng := { committed := s.dev.eng.committed, active := s.dev.eng.active }, leds := d.leds, bench := d.bench, mc := d.mc
              ports := d.ports, pfs := d.pfs, inputs := d.inputs, ev := d.ev } d
        (keptRegs ++ formedRegs ++ coefRegs ++ [RegName.addr .calProv, RegName.addr .thElapsed]) ∧
      (∀ a ∈ keptRegs ++ formedRegs, sfind d.regs a = sfind s.dev.regs a) ∧ d.reg .thElapsed = BitVec.ofNat 32 us ∧
      d.live = true ∧ d.bench = { trackFrom := 32 * s.dev.cycle } ∧ d.mc = { passFrom := s.dev.cycle, chans := d.mc.chans } ∧
      (∀ j : Fin 16, sfind d.leds j = none)) ∧
  (∀ (s : State) (t : Nat), Runs s → 200000 ≤ t → t < 366150 → (∀ n : Fin 48, s.dev.broken n = false) →
    (∀ n : Fin 8, s.dev.flag F.thDietBlind 0 n = false) → (∀ n : Fin 8, s.dev.reg .thCvofs 0 n = 0) →
    (∀ x : Fin 9, sfind s.dev.cal.tLast x = some t) → s.dev.flag F.budStatusHot = false →
    Completes (.sensorRead (List.replicate 48 (some t))) s fun d =>
      Frame { s.dev with th := d.th, leds := d.leds, ev := d.ev } d
        (formedRegs ++ [RegName.addr .thStatus, RegName.addr .budTj, RegName.addr .budTmeas 16, RegName.addr .budLstat 16,
          RegName.addr .budStatus]) ∧
      (∀ n : Fin 48, d.fld F.thTsT 0 n = t ∧ d.flag F.thTsAgree 0 n = true) ∧ (∀ n : Fin 8, d.fld F.thDietT 0 n = t) ∧
      d.fld F.thTjTj = t ∧ d.fld F.thTminTmin = t ∧ (d.reg .budTj).toNat = t ∧
      d.flag F.thStatusPlateOk = decide (283150 ≤ t ∧ t ≤ 358150) ∧ d.flag F.thStatusFuseOk = decide (293150 ≤ t ∧ t ≤ 333150) ∧
      (∀ j, j ≠ 16 → sfind d.leds j = sfind s.dev.leds j) ∧ (d.led 16).since = s.dev.cycle ∧ (d.led 16).stale = false)

/-- A step with a command at the front of the queue is exec of it with the queue's rest; on an empty queue a step lets a fabric
cycle pass (the model's choice, DESIGN CHOICE, log entry 1). -/
def Obligations.StepRunsFront : Prop :=
  (∀ (c : Instr) (rest : List Instr) (d : Device), step ⟨c :: rest, d⟩ = exec c ⟨rest, d⟩) ∧
  (∀ (d : Device), step ⟨[], d⟩ = .next (tick ⟨[], d⟩))

/-- SAMPLECOUNT is 0 in reset and until the sample clock locks, begins at the lock, advances by 32 in every fabric cycle after
it, a start-up that has stopped included, and no row but a reset changes it in the running device. DeviceTime is formed from
it, from OFFSET and from RATE_ADJ alone, and registration leaves it unchanged. -/
def Obligations.SampleCount : Prop :=
  (∀ (s : State) (ns : Nat), 1000 ≤ ns → Completes (.resetAssert ns) s fun d => d.phase = .inReset ∧ d.sampleCount = 0) ∧
  (∀ (s : State), s.pending = [] → (s.dev.phase = .inReset ∨ ∃ m, s.dev.phase = .starting m ∧ bitOf m 2 = false) →
    step s = .next { s with dev := { s.dev with inbox := [] } }) ∧
  (∀ (s : State) (m : Nat) (laneOk : Bool), s.dev.phase = .starting m → bitOf m 2 = false → bitOf m 1 = true →
    Completes (.startupClocks true laneOk) s fun d => d.sampleCount = 0 ∧ ∃ n, d.phase = .starting n ∧ bitOf n 2 = true) ∧
  (∀ (s : State), s.pending = [] → (s.dev.phase = .running ∨ (∃ m, s.dev.phase = .starting m ∧ bitOf m 2 = true) ∨
      ∃ c m, s.dev.phase = .stopped c m ∧ bitOf m 2 = true) →
    ∃ t, step s = .next t ∧ t.dev.sampleCount = s.dev.sampleCount + 32) ∧
  (∀ (i : Instr) (s t : State), Runs s → (∀ ns, i ≠ .resetAssert ns) → exec i s = .next t → t.dev.sampleCount = s.dev.sampleCount) ∧
  (∀ (d e : Device), d.sampleCount = e.sampleCount → d.rateAdj = e.rateAdj → d.tb.offset = e.tb.offset → d.deviceTime = e.deviceTime) ∧
  (∀ (s t : State), exec .registrationApply s = .next t → t.dev.deviceTime = s.dev.deviceTime)

/-- A REG_READ and a REG_WRITE of an address that is not a multiple of 4, lies outside the windows of R30, or names no register
of its block are refused with BAD_ARG and change nothing but the count of accepted commands and the replies. -/
def Obligations.UnmappedAddresses : Prop :=
  (∀ (s : State) (c : Ctx) (a : Nat), Takes s c →
    (a % 4 ≠ 0 ∨ blockAt a = [] ∨ ∀ r ∈ blockAt a, matchSegs r.desc a r.desc.segs 0 = none) →
    Refuses (.regRead c a) c 0x0201 s stBadArg 0) ∧
  (∀ (s : State) (c : Ctx) (a v : Nat), Takes s c →
    (a % 4 ≠ 0 ∨ blockAt a = [] ∨ ∀ r ∈ blockAt a, matchSegs r.desc a r.desc.segs 0 = none) →
    Refuses (.regWrite c a v) c 0x0202 s stBadArg 0)

/-- The register that the map finds at an address has that address, its indices lie within its arrays, and it belongs to the
block whose window holds the address. -/
def Obligations.AddressMap : Prop :=
  ∀ (a : Nat) (r : RegName) (i j k : Nat), findReg a = some (r, i, j, k) →
    r.addr i j k = a ∧ i < (r.desc.segs.map Prod.snd).sum ∧ j < r.desc.dim2.1 ∧ k < r.desc.dim3.1 ∧ r ∈ blockAt a

/-- RUN_JUMP with a target that is not the address of a BLOCK, and a REG_WRITE of such a target to CS_JTGT by a session that
may write the sequencer, are refused with BAD_ARG, and neither makes a jump request nor changes the register. -/
def Obligations.JumpTargets : Prop :=
  (∀ (s : State) (c : Ctx) (k : Fin 576) (tgt : Nat), Takes s c → s.dev.isBlockAt (storeOf k) tgt = false →
    Refuses (.runJump c k tgt) c 0x0502 s stBadArg 2) ∧
  (∀ (s : State) (c : Ctx) (k : Fin 576) (v : Nat), Takes s c → v < 2 ^ 15 → s.dev.isBlockAt (storeOf k) v = false →
    s.dev.mayWriteReg c.sess k (RegName.addr .csJtgt k) = true →
    Refuses (.regWrite c (RegName.addr .csJtgt k) v) c 0x0202 s stBadArg 0)

/-- No command changes the queue, every row completes in every state, and from a queue of well-formed commands every step
leaves one: what a cycle brings, due or received, is well formed. -/
def Obligations.QueueKept : Prop :=
  (∀ (i : Instr) (s : State), Completes i s fun _ => True) ∧
  (∀ (s : State), ∃ t, step s = .next t) ∧
  (∀ (s t : State), s.queueWf = true → step s = .next t → t.queueWf = true)

/-- From every state whose DRAM and galleys are in canonical form (addresses strictly rising, no byte listed that holds the
fill), every step, whatever command stands in front, leaves them in it. -/
def Obligations.MemoryForm : Prop :=
  ∀ (s t : State), s.dev.memWf = true → step s = .next t → t.dev.memWf = true

/-- At reset the memories and the queue are in order and the engine runs; REG_STATE is UNREGISTERED and the system index equals
SAMPLECOUNT, every port of the links is disabled, no forme is ENABLED or LIVE, no session is open, ledger DIE and the voice
bindings hold their listed values and the highest sequence numbers are 0xFFFFFFFF. -/
def Obligations.ResetState : Prop :=
  State.reset.queueWf = true ∧ State.reset.dev.memWf = true ∧ State.reset.dev.healthy = true ∧
  State.reset.dev.fld F.tbStatusRegState = 0 ∧ State.reset.dev.ssi = State.reset.dev.sampleCount ∧
  (∀ p : Fin 8, State.reset.dev.flag F.lnPctlEn p = false ∧ State.reset.dev.lstate p = 0) ∧
  (∀ f : Fin 64, State.reset.dev.flag F.fmOutenEnabled f = false ∧ State.reset.dev.flag F.fmOutenLive f = false) ∧
  (∀ n : Fin 8, (State.reset.dev.session n).isOpen = false ∧ State.reset.dev.reg .ceHighseq n = 0xFFFFFFFF) ∧
  State.reset.dev.reg64 .budCLo .budCHi 16 = 120000000000000 ∧ State.reset.dev.reg .budTlim 16 = 363150 ∧
  (∀ (p : Fin 512) (v : Fin 16), (State.reset.dev.reg .opBind p v).toNat % 32 = v.val) ∧
  State.reset.dev.reg .ident = 0x51644E44

/-- In reset, during start-up and after a stop only the rows of reset and start-up, and the SPI status byte, do anything, and a
halted engine takes no command. A start-up that has stopped stays so until RESET_N goes low, only the sample clock's count
going on, with HALTED shown and ENGINE_READY clear in the SPI status byte, ALERT_N asserted, the stop code on MK0 to MK3, and
MK4 high. -/
def Obligations.AsleepAndHalted : Prop :=
  (∀ (i : Instr) (s : State), s.dev.phase ≠ .running → i.ofStart = false → exec i s = .next s) ∧
  (∀ (i : Instr) (s : State), s.dev.eng.halted = true → i.isCommand = true → exec i s = .next s) ∧
  (∀ (i : Instr) (s t : State) (code m : Nat), s.dev.phase = .stopped code m → (∀ ns, i ≠ .resetAssert ns) → exec i s = .next t →
    t = { s with dev := { s.dev with spiOut := t.dev.spiOut } }) ∧
  (∀ (s : State) (code m : Nat), s.pending = [] → s.dev.phase = .stopped code m →
    ∃ t, step s = .next t ∧ t.pending = [] ∧ t.dev = { s.dev with
      cycle := s.dev.cycle + b2n (bitOf m 2), hwNow := t.dev.hwNow, addNow := t.dev.addNow, former := t.dev.former
      placed := t.dev.placed, inputs := t.dev.inputs, inbox := [] }) ∧
  (∀ (s : State) (code m : Nat), s.dev.phase = .stopped code m → s.dev.eng.halted = true →
    s.dev.alert = true ∧ (∀ f : Fin 4, s.dev.stopMarker f = bitOf code f) ∧ s.dev.stopMarker 4 = true ∧
    Completes .spiStat s fun d => ∃ b, d.spiOut = [b] ∧ bitOf b.toNat 1 = false ∧ bitOf b.toNat 2 = true)

/-- Every well-formed pulse instruction, with every field at every value, decodes from the 64-bit word that spells it, and a
word that decodes is the word of a well-formed instruction; the same of the 32-bit words of the demodulation engine. No word of
either spells two instructions. -/
def Obligations.InstructionEncodings : Prop :=
  (∀ i : SeqInstr, i.wf = true → i.encode < 2 ^ 64 ∧ SeqInstr.decode i.encode = some i) ∧
  (∀ (w : Nat) (i : SeqInstr), SeqInstr.decode w = some i → i.wf = true ∧ i.encode = w) ∧
  (∀ i : DInstr, i.wf = true → i.encode < 2 ^ 32 ∧ DInstr.decode i.encode = some i) ∧
  (∀ (w : Nat) (i : DInstr), w < 2 ^ 32 → DInstr.decode w = some i → i.wf = true ∧ i.encode = w)
end

