-- ==== Sys2Proof/Laws/Aes.lean ====
section
/-! SUPPORT. The table of the AES substitution that the model writes out is the inverse in the field under the affine map of FIPS 197. -/

namespace Sys2Proof.Laws

open Sys2Proof.Machine

/-- The product of two field elements, the bits of the first one after the other. -/
def times8 (a b : Nat) : Nat :=
  ((List.range 8).foldl (fun (acc : Nat × Nat) i => (if bitOf a i then acc.1 ^^^ acc.2 else acc.1, twice8 acc.2)) (0, b)).1

/-- A byte turned by each number of bits of a list, added up from c. -/
def turned (c : Nat) (l : List Nat) (r : Nat) : Nat := l.foldl (fun acc n => acc ^^^ (r * 2 ^ n % 256 + r * 2 ^ n / 256)) c

/-- What byte a becomes is the affine map of the byte that times a is 1 (of 0 for a = 0). -/
theorem substOf_eq : ∀ a : Fin 256, let r := turned 0x05 [1, 3, 6] (substOf a)
    substOf a = turned 0x63 [0, 1, 2, 3, 4] r ∧ times8 a r = (if a = 0 then 0 else 1) ∧ (a = 0 → r = 0) := by decide +kernel

end Sys2Proof.Laws
end

