-- ==== Sys2Proof/Laws/State.lean ====
section
/-! SUPPORT. What the updates of the state leave: the sparse maps, the registers and their fields, and one lemma per update of the
device that names every part it leaves. -/

namespace Sys2Proof.Machine

/-! ### Sparse maps -/

@[simp] theorem sfind_sput_same {α : Type} (m : SMap α) (k : Nat) (v : α) : sfind (sput m k v) k = some v := by
  induction m with
  | nil => simp [sput, sfind]
  | cons h t ih =>
    obtain ⟨a, w⟩ := h
    simp only [sput]
    split
    · simp [sfind]
    · split
      · simp [sfind]
      · rename_i h1 h2
        simp only [sfind, if_neg (Ne.symm h2), ih]

theorem sfind_sput_other {α : Type} (m : SMap α) (k j : Nat) (v : α) (h : j ≠ k) : sfind (sput m k v) j = sfind m j := by
  induction m with
  | nil => simp [sput, sfind, h.symm]
  | cons x t ih =>
    obtain ⟨a, w⟩ := x
    simp only [sput]
    split
    · simp [sfind, h.symm]
    · split
      · rename_i h2
        subst h2
        simp [sfind, h.symm]
      · simp only [sfind, ih]

@[simp] theorem sget_sput_same {α : Type} (d : α) (m : SMap α) (k : Nat) (v : α) : sget d (sput m k v) k = v := by
  simp [sget]

theorem sget_sput_other {α : Type} (d : α) (m : SMap α) (k j : Nat) (v : α) (h : j ≠ k) :
    sget d (sput m k v) j = sget d m j := by
  simp [sget, sfind_sput_other m k j v h]

/-! ### Bit fields -/

theorem bitsOf_eq_shift (n hi lo : Nat) : bitsOf n hi lo = (n >>> lo) % 2 ^ (hi + 1 - lo) := by
  simp [bitsOf, Nat.shiftRight_eq_div_pow]

theorem maskOf_getLsbD (hi lo i : Nat) (h : hi < 32) :
    (maskOf hi lo).getLsbD i = (decide (lo ≤ i) && decide (i ≤ hi)) := by
  simp only [maskOf, BitVec.getLsbD_ofNat, Nat.testBit_mul_two_pow, Nat.testBit_two_pow_sub_one]
  by_cases h1 : lo ≤ i <;> by_cases h2 : i ≤ hi <;> simp [h1, h2] <;> omega

theorem putField_getLsbD (w : Word) (hi lo x i : Nat) (h : hi < 32) :
    (putField w hi lo x).getLsbD i =
      if lo ≤ i ∧ i ≤ hi then x.testBit (i - lo) else w.getLsbD i := by
  simp only [putField, BitVec.getLsbD_or, BitVec.getLsbD_and, BitVec.getLsbD_not, maskOf_getLsbD hi lo i h,
    BitVec.getLsbD_ofNat, Nat.testBit_mul_two_pow, Nat.testBit_mod_two_pow]
  by_cases h1 : lo ≤ i <;> by_cases h2 : i ≤ hi <;> simp [h1, h2]
  · have : i - lo < hi + 1 - lo := by omega
    have : i < 32 := by omega
    simp [*]
  · have : ¬ (i - lo < hi + 1 - lo) := by omega
    simp [this]
    intro hw
    exact BitVec.lt_of_getLsbD hw
  · intro hw
    exact BitVec.lt_of_getLsbD hw
  · intro hw
    exact BitVec.lt_of_getLsbD hw

theorem getField_testBit (w : Word) (hi lo i : Nat) :
    (getField w hi lo).testBit i = (decide (i < hi + 1 - lo) && w.getLsbD (lo + i)) := by
  simp [getField, bitsOf_eq_shift, Nat.testBit_mod_two_pow, Nat.testBit_shiftRight, BitVec.getLsbD]

/-- The field just written. -/
theorem getField_putField (w : Word) (hi lo x : Nat) (h : hi < 32) :
    getField (putField w hi lo x) hi lo = x % 2 ^ (hi + 1 - lo) := by
  apply Nat.eq_of_testBit_eq
  intro i
  rw [getField_testBit, putField_getLsbD _ _ _ _ _ h, Nat.testBit_mod_two_pow]
  by_cases hi1 : i < hi + 1 - lo
  · have h1 : lo ≤ lo + i ∧ lo + i ≤ hi := by omega
    simp [hi1, h1]
  · simp [hi1]

/-- A field that a write of another field leaves. -/
theorem getField_putField_other (w : Word) (hi lo x a b : Nat) (h : hi < 32) (hd : a < lo ∨ hi < b) :
    getField (putField w hi lo x) a b = getField w a b := by
  apply Nat.eq_of_testBit_eq
  intro i
  rw [getField_testBit, getField_testBit, putField_getLsbD _ _ _ _ _ h]
  by_cases hi1 : i < a + 1 - b
  · have h1 : ¬ (lo ≤ b + i ∧ b + i ≤ hi) := by omega
    simp [hi1, h1]
  · simp [hi1]

/-! ### Registers -/

/-- A field that fills the word. -/
theorem putField_word (w : Word) (n : Nat) : putField w 31 0 n = BitVec.ofNat 32 n := by
  apply BitVec.eq_of_getLsbD_eq
  intro i hi
  have h31 : i ≤ 31 := by omega
  rw [putField_getLsbD _ _ _ _ _ (by omega), BitVec.getLsbD_ofNat]
  simp only [hi, h31, Nat.zero_le, and_self, if_true, Nat.sub_zero, decide_true, Bool.true_and]

@[simp] theorem reg_putReg (d : Device) (r : RegName) (v : Word) (i j k : Nat) : (d.putReg r v i j k).reg r i j k = v := by
  simp [Device.reg, Device.putReg]

theorem reg_putReg_other (d : Device) (r q : RegName) (v : Word) (i j k a b c : Nat) (h : q.addr a b c ≠ r.addr i j k) :
    (d.putReg r v i j k).reg q a b c = d.reg q a b c := by
  simp [Device.reg, Device.putReg, sget_sput_other _ _ _ _ _ h]

theorem reg_setFld (d : Device) (f : Fld) (x i j k : Nat) :
    (d.setFld f x i j k).reg f.reg i j k = putField (d.reg f.reg i j k) f.hi f.lo x := by
  simp [Device.reg, Device.setFld]

theorem reg_setFld_other (d : Device) (f : Fld) (q : RegName) (x i j k a b c : Nat) (h : q.addr a b c ≠ f.reg.addr i j k) :
    (d.setFld f x i j k).reg q a b c = d.reg q a b c := by
  simp [Device.reg, Device.setFld, sget_sput_other _ _ _ _ _ h]

theorem reg_orFld_other (d : Device) (f : Fld) (q : RegName) (x i j k a b c : Nat) (h : q.addr a b c ≠ f.reg.addr i j k) :
    (d.orFld f x i j k).reg q a b c = d.reg q a b c := by
  simp [Device.reg, Device.orFld, sget_sput_other _ _ _ _ _ h]

theorem reg_addFld_other (d : Device) (f : Fld) (q : RegName) (x i j k a b c : Nat) (h : q.addr a b c ≠ f.reg.addr i j k) :
    (d.addFld f x i j k).reg q a b c = d.reg q a b c := by
  simp [Device.reg, Device.addFld, sget_sput_other _ _ _ _ _ h]

theorem fld_setFld (d : Device) (f : Fld) (x i j k : Nat) (h : f.hi < 32) :
    (d.setFld f x i j k).fld f i j k = x % 2 ^ (f.hi + 1 - f.lo) := by
  simp [Device.fld, reg_setFld, getField_putField _ _ _ _ h]

theorem fld_addFld (d : Device) (f : Fld) (x i j k : Nat) (h : f.hi < 32) :
    (d.addFld f x i j k).fld f i j k = (d.fld f i j k + x) % 2 ^ (f.hi + 1 - f.lo) := by
  simp [Device.fld, Device.reg, Device.addFld, getField_putField _ _ _ _ h]

theorem fld_orFld (d : Device) (f : Fld) (x i j k : Nat) (h : f.hi < 32) :
    (d.orFld f x i j k).fld f i j k = d.fld f i j k ||| x % 2 ^ (f.hi + 1 - f.lo) := by
  have e : (d.orFld f x i j k).reg f.reg i j k = d.reg f.reg i j k ||| putField 0 f.hi f.lo x := by
    simp [Device.reg, Device.orFld]
  apply Nat.eq_of_testBit_eq
  intro b
  simp only [Device.fld, e, getField_testBit, BitVec.getLsbD_or, putField_getLsbD _ _ _ _ _ h, Nat.testBit_or,
    Nat.testBit_mod_two_pow]
  by_cases hb : b < f.hi + 1 - f.lo
  · have h1 : f.lo ≤ f.lo + b ∧ f.lo + b ≤ f.hi := by omega
    simp [hb, h1]
  · simp [hb]

theorem flag_setFlag (d : Device) (f : Fld) (i j k : Nat) (h : f.hi < 32) (hw : f.lo ≤ f.hi) :
    (d.setFlag f i j k).flag f i j k = true := by
  have e := fld_orFld d f 1 i j k h
  have h1 : 1 % 2 ^ (f.hi + 1 - f.lo) = 1 := Nat.mod_eq_of_lt (Nat.one_lt_two_pow (by omega))
  simp only [Device.flag, Device.setFlag, e, h1, bne_iff_ne, ne_eq]
  intro h0
  have := congrArg (fun n => n.testBit 0) h0
  simp at this

/-! ### What each update leaves -/

@[simp] theorem putReg_keeps (d : Device) (r : RegName) (v : Word) (i j k : Nat) :
    (d.putReg r v i j k).phase = d.phase ∧ (d.putReg r v i j k).cycle = d.cycle ∧ (d.putReg r v i j k).free = d.free ∧
    (d.putReg r v i j k).hwNow = d.hwNow ∧ (d.putReg r v i j k).addNow = d.addNow ∧ (d.putReg r v i j k).former = d.former ∧
    (d.putReg r v i j k).tb = d.tb ∧ (d.putReg r v i j k).ev = d.ev ∧ (d.putReg r v i j k).seqs = d.seqs ∧
    (d.putReg r v i j k).prog = d.prog ∧ (d.putReg r v i j k).acts = d.acts ∧ (d.putReg r v i j k).struck = d.struck ∧
    (d.putReg r v i j k).ports = d.ports ∧ (d.putReg r v i j k).cars = d.cars ∧ (d.putReg r v i j k).formes = d.formes ∧
    (d.putReg r v i j k).segs = d.segs ∧ (d.putReg r v i j k).galley = d.galley ∧ (d.putReg r v i j k).dram = d.dram ∧
    (d.putReg r v i j k).pfs = d.pfs ∧ (d.putReg r v i j k).leds = d.leds ∧ (d.putReg r v i j k).sess = d.sess ∧
    (d.putReg r v i j k).eng = d.eng ∧ (d.putReg r v i j k).lanes = d.lanes ∧ (d.putReg r v i j k).inputs = d.inputs ∧
    (d.putReg r v i j k).kernels = d.kernels ∧ (d.putReg r v i j k).words = d.words ∧ (d.putReg r v i j k).placed = d.placed ∧
    (d.putReg r v i j k).rx = d.rx ∧ (d.putReg r v i j k).rxNext = d.rxNext ∧ (d.putReg r v i j k).verdicts = d.verdicts ∧
    (d.putReg r v i j k).links = d.links ∧ (d.putReg r v i j k).slanes = d.slanes ∧ (d.putReg r v i j k).sports = d.sports ∧
    (d.putReg r v i j k).inbox = d.inbox ∧ (d.putReg r v i j k).boots = d.boots ∧ (d.putReg r v i j k).seals = d.seals ∧
    (d.putReg r v i j k).colq = d.colq ∧ (d.putReg r v i j k).colring = d.colring ∧ (d.putReg r v i j k).colFill = d.colFill ∧
    (d.putReg r v i j k).bulkSeq = d.bulkSeq ∧ (d.putReg r v i j k).offers = d.offers ∧ (d.putReg r v i j k).cal = d.cal ∧
    (d.putReg r v i j k).bench = d.bench ∧ (d.putReg r v i j k).th = d.th ∧ (d.putReg r v i j k).mc = d.mc ∧
    (d.putReg r v i j k).sramErrs = d.sramErrs ∧ (d.putReg r v i j k).repairs = d.repairs ∧ (d.putReg r v i j k).plate = d.plate ∧
    (d.putReg r v i j k).curveLoads = d.curveLoads ∧ (d.putReg r v i j k).trig = d.trig ∧ (d.putReg r v i j k).latch = d.latch ∧
    (d.putReg r v i j k).spiOut = d.spiOut := by
  and_intros <;> rfl

@[simp] theorem setFld_keeps (d : Device) (f : Fld) (x i j k : Nat) :
    (d.setFld f x i j k).phase = d.phase ∧ (d.setFld f x i j k).cycle = d.cycle ∧ (d.setFld f x i j k).free = d.free ∧
    (d.setFld f x i j k).addNow = d.addNow ∧ (d.setFld f x i j k).former = d.former ∧ (d.setFld f x i j k).tb = d.tb ∧
    (d.setFld f x i j k).ev = d.ev ∧ (d.setFld f x i j k).seqs = d.seqs ∧ (d.setFld f x i j k).prog = d.prog ∧
    (d.setFld f x i j k).acts = d.acts ∧ (d.setFld f x i j k).struck = d.struck ∧ (d.setFld f x i j k).ports = d.ports ∧
    (d.setFld f x i j k).cars = d.cars ∧ (d.setFld f x i j k).formes = d.formes ∧ (d.setFld f x i j k).segs = d.segs ∧
    (d.setFld f x i j k).galley = d.galley ∧ (d.setFld f x i j k).dram = d.dram ∧ (d.setFld f x i j k).pfs = d.pfs ∧
    (d.setFld f x i j k).leds = d.leds ∧ (d.setFld f x i j k).sess = d.sess ∧ (d.setFld f x i j k).eng = d.eng ∧
    (d.setFld f x i j k).lanes = d.lanes ∧ (d.setFld f x i j k).inputs = d.inputs ∧ (d.setFld f x i j k).kernels = d.kernels ∧
    (d.setFld f x i j k).words = d.words ∧ (d.setFld f x i j k).placed = d.placed ∧ (d.setFld f x i j k).rx = d.rx ∧
    (d.setFld f x i j k).rxNext = d.rxNext ∧ (d.setFld f x i j k).verdicts = d.verdicts ∧ (d.setFld f x i j k).links = d.links ∧
    (d.setFld f x i j k).slanes = d.slanes ∧ (d.setFld f x i j k).sports = d.sports ∧ (d.setFld f x i j k).inbox = d.inbox ∧
    (d.setFld f x i j k).boots = d.boots ∧ (d.setFld f x i j k).seals = d.seals ∧ (d.setFld f x i j k).colq = d.colq ∧
    (d.setFld f x i j k).colring = d.colring ∧ (d.setFld f x i j k).colFill = d.colFill ∧ (d.setFld f x i j k).bulkSeq = d.bulkSeq ∧
    (d.setFld f x i j k).offers = d.offers ∧ (d.setFld f x i j k).cal = d.cal ∧ (d.setFld f x i j k).bench = d.bench ∧
    (d.setFld f x i j k).th = d.th ∧ (d.setFld f x i j k).mc = d.mc ∧ (d.setFld f x i j k).sramErrs = d.sramErrs ∧
    (d.setFld f x i j k).repairs = d.repairs ∧ (d.setFld f x i j k).plate = d.plate ∧ (d.setFld f x i j k).curveLoads = d.curveLoads ∧
    (d.setFld f x i j k).trig = d.trig ∧ (d.setFld f x i j k).latch = d.latch ∧ (d.setFld f x i j k).spiOut = d.spiOut := by
  and_intros <;> rfl

@[simp] theorem orFld_keeps (d : Device) (f : Fld) (x i j k : Nat) :
    (d.orFld f x i j k).phase = d.phase ∧ (d.orFld f x i j k).cycle = d.cycle ∧ (d.orFld f x i j k).free = d.free ∧
    (d.orFld f x i j k).addNow = d.addNow ∧ (d.orFld f x i j k).former = d.former ∧ (d.orFld f x i j k).tb = d.tb ∧
    (d.orFld f x i j k).ev = d.ev ∧ (d.orFld f x i j k).seqs = d.seqs ∧ (d.orFld f x i j k).prog = d.prog ∧
    (d.orFld f x i j k).acts = d.acts ∧ (d.orFld f x i j k).struck = d.struck ∧ (d.orFld f x i j k).ports = d.ports ∧
    (d.orFld f x i j k).cars = d.cars ∧ (d.orFld f x i j k).formes = d.formes ∧ (d.orFld f x i j k).segs = d.segs ∧
    (d.orFld f x i j k).galley = d.galley ∧ (d.orFld f x i j k).dram = d.dram ∧ (d.orFld f x i j k).pfs = d.pfs ∧
    (d.orFld f x i j k).leds = d.leds ∧ (d.orFld f x i j k).sess = d.sess ∧ (d.orFld f x i j k).eng = d.eng ∧
    (d.orFld f x i j k).lanes = d.lanes ∧ (d.orFld f x i j k).inputs = d.inputs ∧ (d.orFld f x i j k).kernels = d.kernels ∧
    (d.orFld f x i j k).words = d.words ∧ (d.orFld f x i j k).placed = d.placed ∧ (d.orFld f x i j k).rx = d.rx ∧
    (d.orFld f x i j k).rxNext = d.rxNext ∧ (d.orFld f x i j k).verdicts = d.verdicts ∧ (d.orFld f x i j k).links = d.links ∧
    (d.orFld f x i j k).slanes = d.slanes ∧ (d.orFld f x i j k).sports = d.sports ∧ (d.orFld f x i j k).inbox = d.inbox ∧
    (d.orFld f x i j k).boots = d.boots ∧ (d.orFld f x i j k).seals = d.seals ∧ (d.orFld f x i j k).colq = d.colq ∧
    (d.orFld f x i j k).colring = d.colring ∧ (d.orFld f x i j k).colFill = d.colFill ∧ (d.orFld f x i j k).bulkSeq = d.bulkSeq ∧
    (d.orFld f x i j k).offers = d.offers ∧ (d.orFld f x i j k).cal = d.cal ∧ (d.orFld f x i j k).bench = d.bench ∧
    (d.orFld f x i j k).th = d.th ∧ (d.orFld f x i j k).mc = d.mc ∧ (d.orFld f x i j k).sramErrs = d.sramErrs ∧
    (d.orFld f x i j k).repairs = d.repairs ∧ (d.orFld f x i j k).plate = d.plate ∧ (d.orFld f x i j k).curveLoads = d.curveLoads ∧
    (d.orFld f x i j k).trig = d.trig ∧ (d.orFld f x i j k).latch = d.latch ∧ (d.orFld f x i j k).spiOut = d.spiOut := by
  and_intros <;> rfl

@[simp] theorem setFlag_keeps (d : Device) (f : Fld) (i j k : Nat) :
    (d.setFlag f i j k).phase = d.phase ∧ (d.setFlag f i j k).cycle = d.cycle ∧ (d.setFlag f i j k).free = d.free ∧
    (d.setFlag f i j k).addNow = d.addNow ∧ (d.setFlag f i j k).former = d.former ∧ (d.setFlag f i j k).tb = d.tb ∧
    (d.setFlag f i j k).ev = d.ev ∧ (d.setFlag f i j k).seqs = d.seqs ∧ (d.setFlag f i j k).prog = d.prog ∧
    (d.setFlag f i j k).acts = d.acts ∧ (d.setFlag f i j k).struck = d.struck ∧ (d.setFlag f i j k).ports = d.ports ∧
    (d.setFlag f i j k).cars = d.cars ∧ (d.setFlag f i j k).formes = d.formes ∧ (d.setFlag f i j k).segs = d.segs ∧
    (d.setFlag f i j k).galley = d.galley ∧ (d.setFlag f i j k).dram = d.dram ∧ (d.setFlag f i j k).pfs = d.pfs ∧
    (d.setFlag f i j k).leds = d.leds ∧ (d.setFlag f i j k).sess = d.sess ∧ (d.setFlag f i j k).eng = d.eng ∧
    (d.setFlag f i j k).lanes = d.lanes ∧ (d.setFlag f i j k).inputs = d.inputs ∧ (d.setFlag f i j k).kernels = d.kernels ∧
    (d.setFlag f i j k).words = d.words ∧ (d.setFlag f i j k).placed = d.placed ∧ (d.setFlag f i j k).rx = d.rx ∧
    (d.setFlag f i j k).rxNext = d.rxNext ∧ (d.setFlag f i j k).verdicts = d.verdicts ∧ (d.setFlag f i j k).links = d.links ∧
    (d.setFlag f i j k).slanes = d.slanes ∧ (d.setFlag f i j k).sports = d.sports ∧ (d.setFlag f i j k).inbox = d.inbox ∧
    (d.setFlag f i j k).boots = d.boots ∧ (d.setFlag f i j k).seals = d.seals ∧ (d.setFlag f i j k).colq = d.colq ∧
    (d.setFlag f i j k).colring = d.colring ∧ (d.setFlag f i j k).colFill = d.colFill ∧ (d.setFlag f i j k).bulkSeq = d.bulkSeq ∧
    (d.setFlag f i j k).offers = d.offers ∧ (d.setFlag f i j k).cal = d.cal ∧ (d.setFlag f i j k).bench = d.bench ∧
    (d.setFlag f i j k).th = d.th ∧ (d.setFlag f i j k).mc = d.mc ∧ (d.setFlag f i j k).sramErrs = d.sramErrs ∧
    (d.setFlag f i j k).repairs = d.repairs ∧ (d.setFlag f i j k).plate = d.plate ∧ (d.setFlag f i j k).curveLoads = d.curveLoads ∧
    (d.setFlag f i j k).trig = d.trig ∧ (d.setFlag f i j k).latch = d.latch ∧ (d.setFlag f i j k).spiOut = d.spiOut := by
  and_intros <;> rfl

@[simp] theorem addFld_keeps (d : Device) (f : Fld) (x i j k : Nat) :
    (d.addFld f x i j k).phase = d.phase ∧ (d.addFld f x i j k).cycle = d.cycle ∧ (d.addFld f x i j k).free = d.free ∧
    (d.addFld f x i j k).hwNow = d.hwNow ∧ (d.addFld f x i j k).former = d.former ∧ (d.addFld f x i j k).tb = d.tb ∧
    (d.addFld f x i j k).ev = d.ev ∧ (d.addFld f x i j k).seqs = d.seqs ∧ (d.addFld f x i j k).prog = d.prog ∧
    (d.addFld f x i j k).acts = d.acts ∧ (d.addFld f x i j k).struck = d.struck ∧ (d.addFld f x i j k).ports = d.ports ∧
    (d.addFld f x i j k).cars = d.cars ∧ (d.addFld f x i j k).formes = d.formes ∧ (d.addFld f x i j k).segs = d.segs ∧
    (d.addFld f x i j k).galley = d.galley ∧ (d.addFld f x i j k).dram = d.dram ∧ (d.addFld f x i j k).pfs = d.pfs ∧
    (d.addFld f x i j k).leds = d.leds ∧ (d.addFld f x i j k).sess = d.sess ∧ (d.addFld f x i j k).eng = d.eng ∧
    (d.addFld f x i j k).lanes = d.lanes ∧ (d.addFld f x i j k).inputs = d.inputs ∧ (d.addFld f x i j k).kernels = d.kernels ∧
    (d.addFld f x i j k).words = d.words ∧ (d.addFld f x i j k).placed = d.placed ∧ (d.addFld f x i j k).rx = d.rx ∧
    (d.addFld f x i j k).rxNext = d.rxNext ∧ (d.addFld f x i j k).verdicts = d.verdicts ∧ (d.addFld f x i j k).links = d.links ∧
    (d.addFld f x i j k).slanes = d.slanes ∧ (d.addFld f x i j k).sports = d.sports ∧ (d.addFld f x i j k).inbox = d.inbox ∧
    (d.addFld f x i j k).boots = d.boots ∧ (d.addFld f x i j k).seals = d.seals ∧ (d.addFld f x i j k).colq = d.colq ∧
    (d.addFld f x i j k).colring = d.colring ∧ (d.addFld f x i j k).colFill = d.colFill ∧ (d.addFld f x i j k).bulkSeq = d.bulkSeq ∧
    (d.addFld f x i j k).offers = d.offers ∧ (d.addFld f x i j k).cal = d.cal ∧ (d.addFld f x i j k).bench = d.bench ∧
    (d.addFld f x i j k).th = d.th ∧ (d.addFld f x i j k).mc = d.mc ∧ (d.addFld f x i j k).sramErrs = d.sramErrs ∧
    (d.addFld f x i j k).repairs = d.repairs ∧ (d.addFld f x i j k).plate = d.plate ∧ (d.addFld f x i j k).curveLoads = d.curveLoads ∧
    (d.addFld f x i j k).trig = d.trig ∧ (d.addFld f x i j k).latch = d.latch ∧ (d.addFld f x i j k).spiOut = d.spiOut := by
  and_intros <;> rfl

/-- Counting changes the event counters alone. -/
theorem monitorAt_ev (d : Device) (src n stamp : Nat) : ∃ e, d.monitorAt src n stamp = { d with ev := e } := by
  have h : ∀ (l : List Nat) (f : Nat → Device → Device), (∀ i s, ∃ e, f i s = { s with ev := e }) →
      ∀ s : Device, ∃ e, forAllDo l f s = { s with ev := e } := by
    intro l f hf
    induction l with
    | nil => exact fun s => ⟨s.ev, rfl⟩
    | cons a t ih =>
      intro s
      obtain ⟨e1, h1⟩ := hf a s
      obtain ⟨e2, h2⟩ := ih (f a s)
      refine ⟨e2, ?_⟩
      simp only [forAllDo, List.foldl_cons] at h2 ⊢
      rw [h2, h1]
  apply h
  intro i s
  split
  · unfold Device.evcAdd
    dsimp only
    split
    · exact ⟨s.ev, rfl⟩
    · exact ⟨_, rfl⟩
  · exact ⟨s.ev, rfl⟩

theorem presentRaw_ev (d : Device) (code stamp : Nat) (late : Bool) (rx : List Nat) :
    ∃ e, d.presentRaw code stamp late rx = { d with ev := e } := by
  unfold Device.presentRaw
  dsimp only
  split
  · obtain ⟨e, h⟩ := monitorAt_ev { d with ev := { d.ev with now := d.ev.now ++ [⟨code, stamp, late, rx⟩] } } _ 1 _
    exact ⟨e, h⟩
  · exact ⟨_, rfl⟩

/-- Presenting an event changes the router alone. -/
theorem present_ev (d : Device) (code stamp : Nat) (late : Bool) (rx : List Nat) :
    ∃ e, d.present code stamp late rx = { d with ev := e } := by
  unfold Device.present
  split
  · exact ⟨_, rfl⟩
  · exact presentRaw_ev d code stamp late rx

@[simp] theorem monitor_keeps (d : Device) (src n : Nat) :
    (d.monitor src n).phase = d.phase ∧ (d.monitor src n).cycle = d.cycle ∧ (d.monitor src n).free = d.free ∧
    (d.monitor src n).regs = d.regs ∧ (d.monitor src n).hwNow = d.hwNow ∧ (d.monitor src n).addNow = d.addNow ∧
    (d.monitor src n).former = d.former ∧ (d.monitor src n).tb = d.tb ∧ (d.monitor src n).seqs = d.seqs ∧
    (d.monitor src n).prog = d.prog ∧ (d.monitor src n).acts = d.acts ∧ (d.monitor src n).struck = d.struck ∧
    (d.monitor src n).ports = d.ports ∧ (d.monitor src n).cars = d.cars ∧ (d.monitor src n).formes = d.formes ∧
    (d.monitor src n).segs = d.segs ∧ (d.monitor src n).galley = d.galley ∧ (d.monitor src n).dram = d.dram ∧
    (d.monitor src n).pfs = d.pfs ∧ (d.monitor src n).leds = d.leds ∧ (d.monitor src n).sess = d.sess ∧
    (d.monitor src n).eng = d.eng ∧ (d.monitor src n).lanes = d.lanes ∧ (d.monitor src n).inputs = d.inputs ∧
    (d.monitor src n).kernels = d.kernels ∧ (d.monitor src n).words = d.words ∧ (d.monitor src n).placed = d.placed ∧
    (d.monitor src n).rx = d.rx ∧ (d.monitor src n).rxNext = d.rxNext ∧ (d.monitor src n).verdicts = d.verdicts ∧
    (d.monitor src n).links = d.links ∧ (d.monitor src n).slanes = d.slanes ∧ (d.monitor src n).sports = d.sports ∧
    (d.monitor src n).inbox = d.inbox ∧ (d.monitor src n).boots = d.boots ∧ (d.monitor src n).seals = d.seals ∧
    (d.monitor src n).colq = d.colq ∧ (d.monitor src n).colring = d.colring ∧ (d.monitor src n).colFill = d.colFill ∧
    (d.monitor src n).bulkSeq = d.bulkSeq ∧ (d.monitor src n).offers = d.offers ∧ (d.monitor src n).cal = d.cal ∧
    (d.monitor src n).bench = d.bench ∧ (d.monitor src n).th = d.th ∧ (d.monitor src n).mc = d.mc ∧
    (d.monitor src n).sramErrs = d.sramErrs ∧ (d.monitor src n).repairs = d.repairs ∧ (d.monitor src n).plate = d.plate ∧
    (d.monitor src n).curveLoads = d.curveLoads ∧ (d.monitor src n).trig = d.trig ∧ (d.monitor src n).latch = d.latch ∧
    (d.monitor src n).spiOut = d.spiOut := by
  obtain ⟨e, h⟩ := monitorAt_ev d src n d.ssi
  rw [Device.monitor, h]
  and_intros <;> rfl

@[simp] theorem present_keeps (d : Device) (code stamp : Nat) (late : Bool) (rx : List Nat) :
    (d.present code stamp late rx).phase = d.phase ∧ (d.present code stamp late rx).cycle = d.cycle ∧ (d.present code stamp late rx).free = d.free ∧
    (d.present code stamp late rx).regs = d.regs ∧ (d.present code stamp late rx).hwNow = d.hwNow ∧ (d.present code stamp late rx).addNow = d.addNow ∧
    (d.present code stamp late rx).former = d.former ∧ (d.present code stamp late rx).tb = d.tb ∧ (d.present code stamp late rx).seqs = d.seqs ∧
    (d.present code stamp late rx).prog = d.prog ∧ (d.present code stamp late rx).acts = d.acts ∧ (d.present code stamp late rx).struck = d.struck ∧
    (d.present code stamp late rx).ports = d.ports ∧ (d.present code stamp late rx).cars = d.cars ∧ (d.present code stamp late rx).formes = d.formes ∧
    (d.present code stamp late rx).segs = d.segs ∧ (d.present code stamp late rx).galley = d.galley ∧ (d.present code stamp late rx).dram = d.dram ∧
    (d.present code stamp late rx).pfs = d.pfs ∧ (d.present code stamp late rx).leds = d.leds ∧ (d.present code stamp late rx).sess = d.sess ∧
    (d.present code stamp late rx).eng = d.eng ∧ (d.present code stamp late rx).lanes = d.lanes ∧ (d.present code stamp late rx).inputs = d.inputs ∧
    (d.present code stamp late rx).kernels = d.kernels ∧ (d.present code stamp late rx).words = d.words ∧ (d.present code stamp late rx).placed = d.placed ∧
    (d.present code stamp late rx).rx = d.rx ∧ (d.present code stamp late rx).rxNext = d.rxNext ∧ (d.present code stamp late rx).verdicts = d.verdicts ∧
    (d.present code stamp late rx).links = d.links ∧ (d.present code stamp late rx).slanes = d.slanes ∧ (d.present code stamp late rx).sports = d.sports ∧
    (d.present code stamp late rx).inbox = d.inbox ∧ (d.present code stamp late rx).boots = d.boots ∧ (d.present code stamp late rx).seals = d.seals ∧
    (d.present code stamp late rx).colq = d.colq ∧ (d.present code stamp late rx).colring = d.colring ∧ (d.present code stamp late rx).colFill = d.colFill ∧
    (d.present code stamp late rx).bulkSeq = d.bulkSeq ∧ (d.present code stamp late rx).offers = d.offers ∧ (d.present code stamp late rx).cal = d.cal ∧
    (d.present code stamp late rx).bench = d.bench ∧ (d.present code stamp late rx).th = d.th ∧ (d.present code stamp late rx).mc = d.mc ∧
    (d.present code stamp late rx).sramErrs = d.sramErrs ∧ (d.present code stamp late rx).repairs = d.repairs ∧ (d.present code stamp late rx).plate = d.plate ∧
    (d.present code stamp late rx).curveLoads = d.curveLoads ∧ (d.present code stamp late rx).trig = d.trig ∧ (d.present code stamp late rx).latch = d.latch ∧
    (d.present code stamp late rx).spiOut = d.spiOut := by
  obtain ⟨e, h⟩ := present_ev d code stamp late rx
  rw [h]
  and_intros <;> rfl

@[simp] theorem presentNow_keeps (d : Device) (code : Nat) :
    (d.presentNow code).phase = d.phase ∧ (d.presentNow code).cycle = d.cycle ∧ (d.presentNow code).free = d.free ∧
    (d.presentNow code).regs = d.regs ∧ (d.presentNow code).hwNow = d.hwNow ∧ (d.presentNow code).addNow = d.addNow ∧
    (d.presentNow code).former = d.former ∧ (d.presentNow code).tb = d.tb ∧ (d.presentNow code).seqs = d.seqs ∧
    (d.presentNow code).prog = d.prog ∧ (d.presentNow code).acts = d.acts ∧ (d.presentNow code).struck = d.struck ∧
    (d.presentNow code).ports = d.ports ∧ (d.presentNow code).cars = d.cars ∧ (d.presentNow code).formes = d.formes ∧
    (d.presentNow code).segs = d.segs ∧ (d.presentNow code).galley = d.galley ∧ (d.presentNow code).dram = d.dram ∧
    (d.presentNow code).pfs = d.pfs ∧ (d.presentNow code).leds = d.leds ∧ (d.presentNow code).sess = d.sess ∧
    (d.presentNow code).eng = d.eng ∧ (d.presentNow code).lanes = d.lanes ∧ (d.presentNow code).inputs = d.inputs ∧
    (d.presentNow code).kernels = d.kernels ∧ (d.presentNow code).words = d.words ∧ (d.presentNow code).placed = d.placed ∧
    (d.presentNow code).rx = d.rx ∧ (d.presentNow code).rxNext = d.rxNext ∧ (d.presentNow code).verdicts = d.verdicts ∧
    (d.presentNow code).links = d.links ∧ (d.presentNow code).slanes = d.slanes ∧ (d.presentNow code).sports = d.sports ∧
    (d.presentNow code).inbox = d.inbox ∧ (d.presentNow code).boots = d.boots ∧ (d.presentNow code).seals = d.seals ∧
    (d.presentNow code).colq = d.colq ∧ (d.presentNow code).colring = d.colring ∧ (d.presentNow code).colFill = d.colFill ∧
    (d.presentNow code).bulkSeq = d.bulkSeq ∧ (d.presentNow code).offers = d.offers ∧ (d.presentNow code).cal = d.cal ∧
    (d.presentNow code).bench = d.bench ∧ (d.presentNow code).th = d.th ∧ (d.presentNow code).mc = d.mc ∧
    (d.presentNow code).sramErrs = d.sramErrs ∧ (d.presentNow code).repairs = d.repairs ∧ (d.presentNow code).plate = d.plate ∧
    (d.presentNow code).curveLoads = d.curveLoads ∧ (d.presentNow code).trig = d.trig ∧ (d.presentNow code).latch = d.latch ∧
    (d.presentNow code).spiOut = d.spiOut := by
  obtain ⟨e, h⟩ := present_ev d code d.ssi false []
  rw [Device.presentNow, h]
  and_intros <;> rfl

@[simp] theorem reg_monitor (d : Device) (src n : Nat) (r : RegName) (i j k : Nat) :
    (d.monitor src n).reg r i j k = d.reg r i j k := by
  simp [Device.reg]

@[simp] theorem reg_present (d : Device) (code stamp : Nat) (late : Bool) (rx : List Nat) (r : RegName) (i j k : Nat) :
    (d.present code stamp late rx).reg r i j k = d.reg r i j k := by
  simp [Device.reg]

@[simp] theorem reg_presentNow (d : Device) (code : Nat) (r : RegName) (i j k : Nat) :
    (d.presentNow code).reg r i j k = d.reg r i j k := by
  simp [Device.reg]

/-- A field reads as its register does. -/
theorem fld_of_reg (d e : Device) (f : Fld) (i j k : Nat) (h : d.reg f.reg i j k = e.reg f.reg i j k) :
    d.fld f i j k = e.fld f i j k := by
  simp [Device.fld, h]

@[simp] theorem putSeq_keeps (d : Device) (k : Nat) (q : Seq) :
    (d.putSeq k q).phase = d.phase ∧ (d.putSeq k q).cycle = d.cycle ∧ (d.putSeq k q).free = d.free ∧
    (d.putSeq k q).regs = d.regs ∧ (d.putSeq k q).hwNow = d.hwNow ∧ (d.putSeq k q).addNow = d.addNow ∧
    (d.putSeq k q).former = d.former ∧ (d.putSeq k q).tb = d.tb ∧ (d.putSeq k q).ev = d.ev ∧
    (d.putSeq k q).prog = d.prog ∧ (d.putSeq k q).acts = d.acts ∧ (d.putSeq k q).struck = d.struck ∧
    (d.putSeq k q).ports = d.ports ∧ (d.putSeq k q).cars = d.cars ∧ (d.putSeq k q).formes = d.formes ∧
    (d.putSeq k q).segs = d.segs ∧ (d.putSeq k q).galley = d.galley ∧ (d.putSeq k q).dram = d.dram ∧
    (d.putSeq k q).pfs = d.pfs ∧ (d.putSeq k q).leds = d.leds ∧ (d.putSeq k q).sess = d.sess ∧
    (d.putSeq k q).eng = d.eng ∧ (d.putSeq k q).lanes = d.lanes ∧ (d.putSeq k q).inputs = d.inputs ∧
    (d.putSeq k q).kernels = d.kernels ∧ (d.putSeq k q).words = d.words ∧ (d.putSeq k q).placed = d.placed ∧
    (d.putSeq k q).rx = d.rx ∧ (d.putSeq k q).rxNext = d.rxNext ∧ (d.putSeq k q).verdicts = d.verdicts ∧
    (d.putSeq k q).links = d.links ∧ (d.putSeq k q).slanes = d.slanes ∧ (d.putSeq k q).sports = d.sports ∧
    (d.putSeq k q).inbox = d.inbox ∧ (d.putSeq k q).boots = d.boots ∧ (d.putSeq k q).seals = d.seals ∧
    (d.putSeq k q).colq = d.colq ∧ (d.putSeq k q).colring = d.colring ∧ (d.putSeq k q).colFill = d.colFill ∧
    (d.putSeq k q).bulkSeq = d.bulkSeq ∧ (d.putSeq k q).offers = d.offers ∧ (d.putSeq k q).cal = d.cal ∧
    (d.putSeq k q).bench = d.bench ∧ (d.putSeq k q).th = d.th ∧ (d.putSeq k q).mc = d.mc ∧
    (d.putSeq k q).sramErrs = d.sramErrs ∧ (d.putSeq k q).repairs = d.repairs ∧ (d.putSeq k q).plate = d.plate ∧
    (d.putSeq k q).curveLoads = d.curveLoads ∧ (d.putSeq k q).trig = d.trig ∧ (d.putSeq k q).latch = d.latch ∧
    (d.putSeq k q).spiOut = d.spiOut := by
  and_intros <;> rfl

@[simp] theorem updSeq_keeps (d : Device) (k : Nat) (f : Seq → Seq) :
    (d.updSeq k f).phase = d.phase ∧ (d.updSeq k f).cycle = d.cycle ∧ (d.updSeq k f).free = d.free ∧
    (d.updSeq k f).regs = d.regs ∧ (d.updSeq k f).hwNow = d.hwNow ∧ (d.updSeq k f).addNow = d.addNow ∧
    (d.updSeq k f).former = d.former ∧ (d.updSeq k f).tb = d.tb ∧ (d.updSeq k f).ev = d.ev ∧
    (d.updSeq k f).prog = d.prog ∧ (d.updSeq k f).acts = d.acts ∧ (d.updSeq k f).struck = d.struck ∧
    (d.updSeq k f).ports = d.ports ∧ (d.updSeq k f).cars = d.cars ∧ (d.updSeq k f).formes = d.formes ∧
    (d.updSeq k f).segs = d.segs ∧ (d.updSeq k f).galley = d.galley ∧ (d.updSeq k f).dram = d.dram ∧
    (d.updSeq k f).pfs = d.pfs ∧ (d.updSeq k f).leds = d.leds ∧ (d.updSeq k f).sess = d.sess ∧
    (d.updSeq k f).eng = d.eng ∧ (d.updSeq k f).lanes = d.lanes ∧ (d.updSeq k f).inputs = d.inputs ∧
    (d.updSeq k f).kernels = d.kernels ∧ (d.updSeq k f).words = d.words ∧ (d.updSeq k f).placed = d.placed ∧
    (d.updSeq k f).rx = d.rx ∧ (d.updSeq k f).rxNext = d.rxNext ∧ (d.updSeq k f).verdicts = d.verdicts ∧
    (d.updSeq k f).links = d.links ∧ (d.updSeq k f).slanes = d.slanes ∧ (d.updSeq k f).sports = d.sports ∧
    (d.updSeq k f).inbox = d.inbox ∧ (d.updSeq k f).boots = d.boots ∧ (d.updSeq k f).seals = d.seals ∧
    (d.updSeq k f).colq = d.colq ∧ (d.updSeq k f).colring = d.colring ∧ (d.updSeq k f).colFill = d.colFill ∧
    (d.updSeq k f).bulkSeq = d.bulkSeq ∧ (d.updSeq k f).offers = d.offers ∧ (d.updSeq k f).cal = d.cal ∧
    (d.updSeq k f).bench = d.bench ∧ (d.updSeq k f).th = d.th ∧ (d.updSeq k f).mc = d.mc ∧
    (d.updSeq k f).sramErrs = d.sramErrs ∧ (d.updSeq k f).repairs = d.repairs ∧ (d.updSeq k f).plate = d.plate ∧
    (d.updSeq k f).curveLoads = d.curveLoads ∧ (d.updSeq k f).trig = d.trig ∧ (d.updSeq k f).latch = d.latch ∧
    (d.updSeq k f).spiOut = d.spiOut := by
  and_intros <;> rfl

@[simp] theorem putPort_keeps (d : Device) (p : Nat) (q : Port) :
    (d.putPort p q).phase = d.phase ∧ (d.putPort p q).cycle = d.cycle ∧ (d.putPort p q).free = d.free ∧
    (d.putPort p q).regs = d.regs ∧ (d.putPort p q).hwNow = d.hwNow ∧ (d.putPort p q).addNow = d.addNow ∧
    (d.putPort p q).former = d.former ∧ (d.putPort p q).tb = d.tb ∧ (d.putPort p q).ev = d.ev ∧
    (d.putPort p q).seqs = d.seqs ∧ (d.putPort p q).prog = d.prog ∧ (d.putPort p q).acts = d.acts ∧
    (d.putPort p q).struck = d.struck ∧ (d.putPort p q).cars = d.cars ∧ (d.putPort p q).formes = d.formes ∧
    (d.putPort p q).segs = d.segs ∧ (d.putPort p q).galley = d.galley ∧ (d.putPort p q).dram = d.dram ∧
    (d.putPort p q).pfs = d.pfs ∧ (d.putPort p q).leds = d.leds ∧ (d.putPort p q).sess = d.sess ∧
    (d.putPort p q).eng = d.eng ∧ (d.putPort p q).lanes = d.lanes ∧ (d.putPort p q).inputs = d.inputs ∧
    (d.putPort p q).kernels = d.kernels ∧ (d.putPort p q).words = d.words ∧ (d.putPort p q).placed = d.placed ∧
    (d.putPort p q).rx = d.rx ∧ (d.putPort p q).rxNext = d.rxNext ∧ (d.putPort p q).verdicts = d.verdicts ∧
    (d.putPort p q).links = d.links ∧ (d.putPort p q).slanes = d.slanes ∧ (d.putPort p q).sports = d.sports ∧
    (d.putPort p q).inbox = d.inbox ∧ (d.putPort p q).boots = d.boots ∧ (d.putPort p q).seals = d.seals ∧
    (d.putPort p q).colq = d.colq ∧ (d.putPort p q).colring = d.colring ∧ (d.putPort p q).colFill = d.colFill ∧
    (d.putPort p q).bulkSeq = d.bulkSeq ∧ (d.putPort p q).offers = d.offers ∧ (d.putPort p q).cal = d.cal ∧
    (d.putPort p q).bench = d.bench ∧ (d.putPort p q).th = d.th ∧ (d.putPort p q).mc = d.mc ∧
    (d.putPort p q).sramErrs = d.sramErrs ∧ (d.putPort p q).repairs = d.repairs ∧ (d.putPort p q).plate = d.plate ∧
    (d.putPort p q).curveLoads = d.curveLoads ∧ (d.putPort p q).trig = d.trig ∧ (d.putPort p q).latch = d.latch ∧
    (d.putPort p q).spiOut = d.spiOut := by
  and_intros <;> rfl

@[simp] theorem updPort_keeps (d : Device) (p : Nat) (f : Port → Port) :
    (d.updPort p f).phase = d.phase ∧ (d.updPort p f).cycle = d.cycle ∧ (d.updPort p f).free = d.free ∧
    (d.updPort p f).regs = d.regs ∧ (d.updPort p f).hwNow = d.hwNow ∧ (d.updPort p f).addNow = d.addNow ∧
    (d.updPort p f).former = d.former ∧ (d.updPort p f).tb = d.tb ∧ (d.updPort p f).ev = d.ev ∧
    (d.updPort p f).seqs = d.seqs ∧ (d.updPort p f).prog = d.prog ∧ (d.updPort p f).acts = d.acts ∧
    (d.updPort p f).struck = d.struck ∧ (d.updPort p f).cars = d.cars ∧ (d.updPort p f).formes = d.formes ∧
    (d.updPort p f).segs = d.segs ∧ (d.updPort p f).galley = d.galley ∧ (d.updPort p f).dram = d.dram ∧
    (d.updPort p f).pfs = d.pfs ∧ (d.updPort p f).leds = d.leds ∧ (d.updPort p f).sess = d.sess ∧
    (d.updPort p f).eng = d.eng ∧ (d.updPort p f).lanes = d.lanes ∧ (d.updPort p f).inputs = d.inputs ∧
    (d.updPort p f).kernels = d.kernels ∧ (d.updPort p f).words = d.words ∧ (d.updPort p f).placed = d.placed ∧
    (d.updPort p f).rx = d.rx ∧ (d.updPort p f).rxNext = d.rxNext ∧ (d.updPort p f).verdicts = d.verdicts ∧
    (d.updPort p f).links = d.links ∧ (d.updPort p f).slanes = d.slanes ∧ (d.updPort p f).sports = d.sports ∧
    (d.updPort p f).inbox = d.inbox ∧ (d.updPort p f).boots = d.boots ∧ (d.updPort p f).seals = d.seals ∧
    (d.updPort p f).colq = d.colq ∧ (d.updPort p f).colring = d.colring ∧ (d.updPort p f).colFill = d.colFill ∧
    (d.updPort p f).bulkSeq = d.bulkSeq ∧ (d.updPort p f).offers = d.offers ∧ (d.updPort p f).cal = d.cal ∧
    (d.updPort p f).bench = d.bench ∧ (d.updPort p f).th = d.th ∧ (d.updPort p f).mc = d.mc ∧
    (d.updPort p f).sramErrs = d.sramErrs ∧ (d.updPort p f).repairs = d.repairs ∧ (d.updPort p f).plate = d.plate ∧
    (d.updPort p f).curveLoads = d.curveLoads ∧ (d.updPort p f).trig = d.trig ∧ (d.updPort p f).latch = d.latch ∧
    (d.updPort p f).spiOut = d.spiOut := by
  and_intros <;> rfl

@[simp] theorem putForme_keeps (d : Device) (f : Nat) (q : Forme) :
    (d.putForme f q).phase = d.phase ∧ (d.putForme f q).cycle = d.cycle ∧ (d.putForme f q).free = d.free ∧
    (d.putForme f q).regs = d.regs ∧ (d.putForme f q).hwNow = d.hwNow ∧ (d.putForme f q).addNow = d.addNow ∧
    (d.putForme f q).former = d.former ∧ (d.putForme f q).tb = d.tb ∧ (d.putForme f q).ev = d.ev ∧
    (d.putForme f q).seqs = d.seqs ∧ (d.putForme f q).prog = d.prog ∧ (d.putForme f q).acts = d.acts ∧
    (d.putForme f q).struck = d.struck ∧ (d.putForme f q).ports = d.ports ∧ (d.putForme f q).cars = d.cars ∧
    (d.putForme f q).segs = d.segs ∧ (d.putForme f q).galley = d.galley ∧ (d.putForme f q).dram = d.dram ∧
    (d.putForme f q).pfs = d.pfs ∧ (d.putForme f q).leds = d.leds ∧ (d.putForme f q).sess = d.sess ∧
    (d.putForme f q).eng = d.eng ∧ (d.putForme f q).lanes = d.lanes ∧ (d.putForme f q).inputs = d.inputs ∧
    (d.putForme f q).kernels = d.kernels ∧ (d.putForme f q).words = d.words ∧ (d.putForme f q).placed = d.placed ∧
    (d.putForme f q).rx = d.rx ∧ (d.putForme f q).rxNext = d.rxNext ∧ (d.putForme f q).verdicts = d.verdicts ∧
    (d.putForme f q).links = d.links ∧ (d.putForme f q).slanes = d.slanes ∧ (d.putForme f q).sports = d.sports ∧
    (d.putForme f q).inbox = d.inbox ∧ (d.putForme f q).boots = d.boots ∧ (d.putForme f q).seals = d.seals ∧
    (d.putForme f q).colq = d.colq ∧ (d.putForme f q).colring = d.colring ∧ (d.putForme f q).colFill = d.colFill ∧
    (d.putForme f q).bulkSeq = d.bulkSeq ∧ (d.putForme f q).offers = d.offers ∧ (d.putForme f q).cal = d.cal ∧
    (d.putForme f q).bench = d.bench ∧ (d.putForme f q).th = d.th ∧ (d.putForme f q).mc = d.mc ∧
    (d.putForme f q).sramErrs = d.sramErrs ∧ (d.putForme f q).repairs = d.repairs ∧ (d.putForme f q).plate = d.plate ∧
    (d.putForme f q).curveLoads = d.curveLoads ∧ (d.putForme f q).trig = d.trig ∧ (d.putForme f q).latch = d.latch ∧
    (d.putForme f q).spiOut = d.spiOut := by
  and_intros <;> rfl

@[simp] theorem putSeg_keeps (d : Device) (f n : Nat) (e : Seg) :
    (d.putSeg f n e).phase = d.phase ∧ (d.putSeg f n e).cycle = d.cycle ∧ (d.putSeg f n e).free = d.free ∧
    (d.putSeg f n e).regs = d.regs ∧ (d.putSeg f n e).hwNow = d.hwNow ∧ (d.putSeg f n e).addNow = d.addNow ∧
    (d.putSeg f n e).former = d.former ∧ (d.putSeg f n e).tb = d.tb ∧ (d.putSeg f n e).ev = d.ev ∧
    (d.putSeg f n e).seqs = d.seqs ∧ (d.putSeg f n e).prog = d.prog ∧ (d.putSeg f n e).acts = d.acts ∧
    (d.putSeg f n e).struck = d.struck ∧ (d.putSeg f n e).ports = d.ports ∧ (d.putSeg f n e).cars = d.cars ∧
    (d.putSeg f n e).formes = d.formes ∧ (d.putSeg f n e).galley = d.galley ∧ (d.putSeg f n e).dram = d.dram ∧
    (d.putSeg f n e).pfs = d.pfs ∧ (d.putSeg f n e).leds = d.leds ∧ (d.putSeg f n e).sess = d.sess ∧
    (d.putSeg f n e).eng = d.eng ∧ (d.putSeg f n e).lanes = d.lanes ∧ (d.putSeg f n e).inputs = d.inputs ∧
    (d.putSeg f n e).kernels = d.kernels ∧ (d.putSeg f n e).words = d.words ∧ (d.putSeg f n e).placed = d.placed ∧
    (d.putSeg f n e).rx = d.rx ∧ (d.putSeg f n e).rxNext = d.rxNext ∧ (d.putSeg f n e).verdicts = d.verdicts ∧
    (d.putSeg f n e).links = d.links ∧ (d.putSeg f n e).slanes = d.slanes ∧ (d.putSeg f n e).sports = d.sports ∧
    (d.putSeg f n e).inbox = d.inbox ∧ (d.putSeg f n e).boots = d.boots ∧ (d.putSeg f n e).seals = d.seals ∧
    (d.putSeg f n e).colq = d.colq ∧ (d.putSeg f n e).colring = d.colring ∧ (d.putSeg f n e).colFill = d.colFill ∧
    (d.putSeg f n e).bulkSeq = d.bulkSeq ∧ (d.putSeg f n e).offers = d.offers ∧ (d.putSeg f n e).cal = d.cal ∧
    (d.putSeg f n e).bench = d.bench ∧ (d.putSeg f n e).th = d.th ∧ (d.putSeg f n e).mc = d.mc ∧
    (d.putSeg f n e).sramErrs = d.sramErrs ∧ (d.putSeg f n e).repairs = d.repairs ∧ (d.putSeg f n e).plate = d.plate ∧
    (d.putSeg f n e).curveLoads = d.curveLoads ∧ (d.putSeg f n e).trig = d.trig ∧ (d.putSeg f n e).latch = d.latch ∧
    (d.putSeg f n e).spiOut = d.spiOut := by
  and_intros <;> rfl

@[simp] theorem putSession_keeps (d : Device) (n : Nat) (x : Session) :
    (d.putSession n x).phase = d.phase ∧ (d.putSession n x).cycle = d.cycle ∧ (d.putSession n x).free = d.free ∧
    (d.putSession n x).regs = d.regs ∧ (d.putSession n x).hwNow = d.hwNow ∧ (d.putSession n x).addNow = d.addNow ∧
    (d.putSession n x).former = d.former ∧ (d.putSession n x).tb = d.tb ∧ (d.putSession n x).ev = d.ev ∧
    (d.putSession n x).seqs = d.seqs ∧ (d.putSession n x).prog = d.prog ∧ (d.putSession n x).acts = d.acts ∧
    (d.putSession n x).struck = d.struck ∧ (d.putSession n x).ports = d.ports ∧ (d.putSession n x).cars = d.cars ∧
    (d.putSession n x).formes = d.formes ∧ (d.putSession n x).segs = d.segs ∧ (d.putSession n x).galley = d.galley ∧
    (d.putSession n x).dram = d.dram ∧ (d.putSession n x).pfs = d.pfs ∧ (d.putSession n x).leds = d.leds ∧
    (d.putSession n x).eng = d.eng ∧ (d.putSession n x).lanes = d.lanes ∧ (d.putSession n x).inputs = d.inputs ∧
    (d.putSession n x).kernels = d.kernels ∧ (d.putSession n x).words = d.words ∧ (d.putSession n x).placed = d.placed ∧
    (d.putSession n x).rx = d.rx ∧ (d.putSession n x).rxNext = d.rxNext ∧ (d.putSession n x).verdicts = d.verdicts ∧
    (d.putSession n x).links = d.links ∧ (d.putSession n x).slanes = d.slanes ∧ (d.putSession n x).sports = d.sports ∧
    (d.putSession n x).inbox = d.inbox ∧ (d.putSession n x).boots = d.boots ∧ (d.putSession n x).seals = d.seals ∧
    (d.putSession n x).colq = d.colq ∧ (d.putSession n x).colring = d.colring ∧ (d.putSession n x).colFill = d.colFill ∧
    (d.putSession n x).bulkSeq = d.bulkSeq ∧ (d.putSession n x).offers = d.offers ∧ (d.putSession n x).cal = d.cal ∧
    (d.putSession n x).bench = d.bench ∧ (d.putSession n x).th = d.th ∧ (d.putSession n x).mc = d.mc ∧
    (d.putSession n x).sramErrs = d.sramErrs ∧ (d.putSession n x).repairs = d.repairs ∧ (d.putSession n x).plate = d.plate ∧
    (d.putSession n x).curveLoads = d.curveLoads ∧ (d.putSession n x).trig = d.trig ∧ (d.putSession n x).latch = d.latch ∧
    (d.putSession n x).spiOut = d.spiOut := by
  and_intros <;> rfl

@[simp] theorem putLed_keeps (d : Device) (j : Nat) (l : Ledger) :
    (d.putLed j l).phase = d.phase ∧ (d.putLed j l).cycle = d.cycle ∧ (d.putLed j l).free = d.free ∧
    (d.putLed j l).regs = d.regs ∧ (d.putLed j l).hwNow = d.hwNow ∧ (d.putLed j l).addNow = d.addNow ∧
    (d.putLed j l).former = d.former ∧ (d.putLed j l).tb = d.tb ∧ (d.putLed j l).ev = d.ev ∧
    (d.putLed j l).seqs = d.seqs ∧ (d.putLed j l).prog = d.prog ∧ (d.putLed j l).acts = d.acts ∧
    (d.putLed j l).struck = d.struck ∧ (d.putLed j l).ports = d.ports ∧ (d.putLed j l).cars = d.cars ∧
    (d.putLed j l).formes = d.formes ∧ (d.putLed j l).segs = d.segs ∧ (d.putLed j l).galley = d.galley ∧
    (d.putLed j l).dram = d.dram ∧ (d.putLed j l).pfs = d.pfs ∧ (d.putLed j l).sess = d.sess ∧
    (d.putLed j l).eng = d.eng ∧ (d.putLed j l).lanes = d.lanes ∧ (d.putLed j l).inputs = d.inputs ∧
    (d.putLed j l).kernels = d.kernels ∧ (d.putLed j l).words = d.words ∧ (d.putLed j l).placed = d.placed ∧
    (d.putLed j l).rx = d.rx ∧ (d.putLed j l).rxNext = d.rxNext ∧ (d.putLed j l).verdicts = d.verdicts ∧
    (d.putLed j l).links = d.links ∧ (d.putLed j l).slanes = d.slanes ∧ (d.putLed j l).sports = d.sports ∧
    (d.putLed j l).inbox = d.inbox ∧ (d.putLed j l).boots = d.boots ∧ (d.putLed j l).seals = d.seals ∧
    (d.putLed j l).colq = d.colq ∧ (d.putLed j l).colring = d.colring ∧ (d.putLed j l).colFill = d.colFill ∧
    (d.putLed j l).bulkSeq = d.bulkSeq ∧ (d.putLed j l).offers = d.offers ∧ (d.putLed j l).cal = d.cal ∧
    (d.putLed j l).bench = d.bench ∧ (d.putLed j l).th = d.th ∧ (d.putLed j l).mc = d.mc ∧
    (d.putLed j l).sramErrs = d.sramErrs ∧ (d.putLed j l).repairs = d.repairs ∧ (d.putLed j l).plate = d.plate ∧
    (d.putLed j l).curveLoads = d.curveLoads ∧ (d.putLed j l).trig = d.trig ∧ (d.putLed j l).latch = d.latch ∧
    (d.putLed j l).spiOut = d.spiOut := by
  and_intros <;> rfl

end Sys2Proof.Machine
end

