-- ==== Sys2Proof/Laws/Commands.lean ====
section
/-! SUPPORT. What a command does from acceptance to its final reply: one lemma for each of the shared operations. -/

namespace Sys2Proof.Machine

/-- Acceptance changes CE_ACCEPTED, this cycle's additions and the packets queued. -/
theorem accept_parts (d : Device) (c : Ctx) (op : Nat) :
    ∃ o, d.accept c op = { d.addFld F.ceAccepted 1 with eng := { d.eng with out := o } } := by
  unfold Device.accept
  dsimp only
  split
  · exact ⟨_, rfl⟩
  · exact ⟨d.eng.out, rfl⟩

/-- The final reply changes the packets queued and the sessions. -/
theorem finish_parts (o : CmdOut) (c : Ctx) (op fl : Nat) :
    ∃ q x, o.finish c op fl = { o.st with eng := { o.st.eng with out := q }, sess := x } := by
  unfold CmdOut.finish
  dsimp only
  split
  · exact ⟨o.st.eng.out, o.st.sess, rfl⟩
  · unfold Device.recordReply
    dsimp only
    split
    · exact ⟨_, _, rfl⟩
    · exact ⟨_, _, rfl⟩

/-- A command that is not TIMED runs from acceptance to its reply. -/
theorem direct_now (cmd : Instr) (c : Ctx) (op : Nat) (f : Device → CmdOut) (d : Device) (hl : d.live = true)
    (ht : c.timed = none) : direct cmd c op f d = (f (d.accept c op)).finish c op := by
  simp [direct, hl, ht, runTimed, runCmd]

/-- The reply leaves every register as it is. -/
@[simp] theorem reg_finish (o : CmdOut) (c : Ctx) (op fl : Nat) (r : RegName) (i j k : Nat) :
    (o.finish c op fl).reg r i j k = o.st.reg r i j k := by
  obtain ⟨q, x, h⟩ := finish_parts o c op fl
  rw [h]
  rfl

/-- Acceptance leaves every register but CE_ACCEPTED. -/
theorem reg_accept (d : Device) (c : Ctx) (op : Nat) (r : RegName) (i j k : Nat)
    (h : r.addr i j k ≠ RegName.addr .ceAccepted) : (d.accept c op).reg r i j k = d.reg r i j k := by
  obtain ⟨o, e⟩ := accept_parts d c op
  rw [e]
  exact reg_addFld_other d F.ceAccepted r 1 0 0 0 i j k h

/-- CE_ACCEPTED after acceptance. -/
theorem reg_accept_count (d : Device) (c : Ctx) (op : Nat) : (d.accept c op).reg .ceAccepted = d.reg .ceAccepted + 1 := by
  obtain ⟨a, ha⟩ := accept_parts d c op
  rw [ha]
  change (d.addFld F.ceAccepted 1).reg .ceAccepted = _
  simp only [Device.reg, Device.addFld, sget_sput_same]
  change putField _ 31 0 (getField (sget _ d.regs _) 31 0 + 1) = sget _ d.regs _ + 1
  generalize sget (regReset .ceAccepted 0 0) d.regs _ = w
  rw [putField_word]
  apply BitVec.eq_of_toNat_eq
  simp [getField, bitsOf, BitVec.toNat_add]

/-- The packets queued by acceptance: the accept reply where ACK asks for it. -/
theorem accept_out (d : Device) (c : Ctx) (op : Nat) :
    ∃ a, (d.accept c op).eng.out = d.eng.out ++ a ∧ a.length = b2n c.ack := by
  unfold Device.accept
  dsimp only
  split
  · exact ⟨[_], rfl, by simp [b2n, *]⟩
  · exact ⟨[], by simp [Device.addFld], by simp [b2n, *]⟩

/-- Acceptance in the terms of Frame. -/
theorem accept_frame (d : Device) (c : Ctx) (op : Nat) :
    Frame { d with eng := { d.eng with out := (d.accept c op).eng.out }, sess := (d.accept c op).sess } (d.accept c op)
      [RegName.addr .ceAccepted] := by
  obtain ⟨o, e⟩ := accept_parts d c op
  refine ⟨?_, fun _ => ?_, ?_⟩
  · rw [e]; simp [Device.addFld]
  · rw [e]; rfl
  · intro r i j k h
    exact reg_accept d c op r i j k (by simpa using h)

/-- The replay window after a record depends on the sessions alone. -/
theorem recordReply_sess (a b : Device) (r : Reply) (h : a.sess = b.sess) : (a.recordReply r).sess = (b.recordReply r).sess := by
  simp only [Device.recordReply, Device.session, h]
  by_cases hb : (sget {} b.sess r.sess).isOpen = true <;> simp [Device.putSession, h, hb]

/-- A record of a reply leaves the packets queued. -/
theorem recordReply_out (a : Device) (r : Reply) : (a.recordReply r).eng.out = a.eng.out := by
  unfold Device.recordReply
  dsimp only
  split <;> rfl

/-- What a device looks like when the final reply of an operation is sent and recorded. -/
theorem replied_finish (x : Device) (o : CmdOut) (c : Ctx) (op : Nat) (hl : o.later = false) (hs : o.st.sess = x.sess) :
    x.replied (o.finish c op) = { x with eng := { x.eng with out := (o.finish c op).eng.out }, sess := (o.finish c op).sess } := by
  have e : o.finish c op = (o.st.sendReply (mkReply o.st c op 0 o.status o.steps o.at_ o.detail o.data)).recordReply
      (mkReply o.st c op 0 o.status o.steps o.at_ o.detail o.data) := by simp [CmdOut.finish, hl]
  have l : (o.finish c op).eng.out.getLast? = some (mkReply o.st c op 0 o.status o.steps o.at_ o.detail o.data) := by
    rw [e, recordReply_out]
    simp [Device.sendReply]
  simp only [Device.replied, l]
  rw [e, recordReply_sess x (o.st.sendReply _) _ hs.symm]

/-- A command that ends at once, from what its operation answers: the operation queues no packet of its own and leaves CE_ACCEPTED,
and P does not look at the packets queued nor at the sessions. -/
theorem ends_direct {i cmd : Instr} {c : Ctx} {op : Nat} {f : Device → CmdOut} {s : State} {x : Device} {l : List Nat}
    {evs : List Ev} {P : Device → Prop} {status steps detail : Nat} {data : List Byte}
    (he : exec i s = .next (s.act (direct cmd c op f))) (ht : Takes s c) (hlate : (f (s.dev.accept c op)).later = false)
    (hst : (f (s.dev.accept c op)).status = status) (hsteps : (f (s.dev.accept c op)).steps = steps)
    (hdet : (f (s.dev.accept c op)).detail = detail) (hdata : (f (s.dev.accept c op)).data = data)
    (hout : (f (s.dev.accept c op)).st.eng.out = (s.dev.accept c op).eng.out)
    (hsess : (f (s.dev.accept c op)).st.sess = x.sess)
    (hacc : (f (s.dev.accept c op)).st.reg .ceAccepted = (s.dev.accept c op).reg .ceAccepted)
    (hx : ∀ q y, Frame { x with eng := { x.eng with out := q }, sess := y }
      { (f (s.dev.accept c op)).st with eng := { (f (s.dev.accept c op)).st.eng with out := q }, sess := y }
      (RegName.addr .ceAccepted :: l) evs)
    (hP : ∀ q y, P { (f (s.dev.accept c op)).st with eng := { (f (s.dev.accept c op)).st.eng with out := q }, sess := y }) :
    Ends i c op s status steps detail data x l evs P := by
  generalize ho : f (s.dev.accept c op) = o at *
  have hd := direct_now cmd c op f s.dev ht.1 ht.2
  rw [ho] at hd
  obtain ⟨a, ha, hal⟩ := accept_out s.dev c op
  refine ⟨_, he, ?_, ?_, ?_, ?_⟩
  · let r := mkReply o.st c op 0 o.status o.steps o.at_ o.detail o.data
    have e : o.finish c op = (o.st.sendReply r).recordReply r := by simp [CmdOut.finish, hlate, r]
    refine ⟨a, r, ?_, hal, rfl, rfl, rfl, rfl, hst, hsteps, hdet, hdata, ?_⟩
    · change (direct cmd c op f s.dev).eng.out = _
      rw [hd, e, ← ha, ← hout]
      unfold Device.recordReply
      dsimp only
      split <;> simp [Device.sendReply, Device.putSession]
    · rw [← hdata]; rfl
  · change (direct cmd c op f s.dev).reg .ceAccepted = _
    rw [hd, reg_finish, hacc, reg_accept_count]
  · change Frame (x.replied (direct cmd c op f s.dev)) (direct cmd c op f s.dev) _ _
    rw [hd, replied_finish x o c op hlate hsess]
    obtain ⟨q, y, h⟩ := finish_parts o c op 0
    rw [h]
    exact hx q y
  · change P (direct cmd c op f s.dev)
    rw [hd]
    obtain ⟨q, y, h⟩ := finish_parts o c op 0
    rw [h]
    exact hP q y

end Sys2Proof.Machine
end

