-- ==== Sys2Proof/Laws/Frames.lean ====
section
/-! SUPPORT. Frames: how each shared update of a device moves through Frame, so that the frame of an operation is read off its
updates one by one. -/

namespace Sys2Proof.Machine

/-- A device is itself but for nothing. -/
theorem frame_refl (d : Device) (l : List Nat) : Frame d d l :=
  ⟨by simp, fun _ => rfl, fun _ _ _ _ _ => rfl⟩

/-- The parts that Frame leaves open may be changed. -/
theorem frame_with {x e : Device} {l : List Nat} {evs : List Ev} (h : Frame x e l evs) (a b g : SMap Word)
    (c : SMap (Word × Word)) : { e with regs := a, hwNow := b, addNow := c, former := g } = { x with
      regs := a, hwNow := b, addNow := c, former := g, ev := { x.ev with now := x.ev.now ++ evs, evc := e.ev.evc } } := by
  have t := congrArg (fun d : Device => { d with regs := a, hwNow := b, addNow := c, former := g }) h.1
  simpa using t

/-- The device writes a field of a register of l. -/
theorem frame_setFld {x e : Device} {l : List Nat} {evs : List Ev} (h : Frame x e l evs) (f : Fld) (v i j k : Nat)
    (hl : f.reg.addr i j k ∈ l) : Frame x (e.setFld f v i j k) l evs := by
  refine ⟨?_, fun n => ?_, fun r a b c hr => ?_⟩
  · exact frame_with h _ _ _ _
  · simpa using h.2.1 n
  · rw [reg_setFld_other _ _ _ _ _ _ _ _ _ _ (fun q => hr (q ▸ hl)), h.2.2 r a b c hr]

/-- The device sets bits of a register of l. -/
theorem frame_orFld {x e : Device} {l : List Nat} {evs : List Ev} (h : Frame x e l evs) (f : Fld) (v i j k : Nat)
    (hl : f.reg.addr i j k ∈ l) : Frame x (e.orFld f v i j k) l evs := by
  refine ⟨?_, fun n => ?_, fun r a b c hr => ?_⟩
  · exact frame_with h _ _ _ _
  · simpa using h.2.1 n
  · rw [reg_orFld_other _ _ _ _ _ _ _ _ _ _ (fun q => hr (q ▸ hl)), h.2.2 r a b c hr]

/-- The device sets a flag of a register of l. -/
theorem frame_setFlag {x e : Device} {l : List Nat} {evs : List Ev} (h : Frame x e l evs) (f : Fld) (i j k : Nat)
    (hl : f.reg.addr i j k ∈ l) : Frame x (e.setFlag f i j k) l evs := frame_orFld h f 1 i j k hl

/-- The device counts in a register of l. -/
theorem frame_addFld {x e : Device} {l : List Nat} {evs : List Ev} (h : Frame x e l evs) (f : Fld) (v i j k : Nat)
    (hl : f.reg.addr i j k ∈ l) : Frame x (e.addFld f v i j k) l evs := by
  refine ⟨?_, fun n => ?_, fun r a b c hr => ?_⟩
  · exact frame_with h _ _ _ _
  · simpa using h.2.1 n
  · rw [reg_addFld_other _ _ _ _ _ _ _ _ _ _ (fun q => hr (q ▸ hl)), h.2.2 r a b c hr]

/-- A register of l gets a word. -/
theorem frame_putReg {x e : Device} {l : List Nat} {evs : List Ev} (h : Frame x e l evs) (r : RegName) (v : Word) (i j k : Nat)
    (hl : r.addr i j k ∈ l) : Frame x (e.putReg r v i j k) l evs := by
  refine ⟨?_, fun n => ?_, fun q a b c hr => ?_⟩
  · exact frame_with h _ _ _ _
  · simpa using h.2.1 n
  · rw [reg_putReg_other e r q v i j k a b c (fun y => hr (y ▸ hl)), h.2.2 q a b c hr]

/-- The words that registers held before their writes of this cycle are marks of the cycle. -/
theorem frame_remember {x e : Device} {l : List Nat} {evs : List Ev} (h : Frame x e l evs) (r : RegName) (i j k : Nat) :
    Frame x (remember r i j k e) l evs := by
  unfold remember
  dsimp only
  split
  · exact h
  · refine ⟨?_, fun n => ?_, fun q a b c hr => ?_⟩
    · exact frame_with h _ _ _ _
    · exact h.2.1 n
    · exact h.2.2 q a b c hr

/-- A plain write of a register of l. -/
theorem frame_plainWrite {x e : Device} {l : List Nat} {evs : List Ev} (h : Frame x e l evs) (r : RegName) (i j k v : Nat)
    (hl : r.addr i j k ∈ l) : Frame x (plainWrite r i j k v e) l evs := frame_putReg h r _ i j k hl

/-- A longer list of registers. -/
theorem frame_mono {x e : Device} {l m : List Nat} {evs : List Ev} (h : Frame x e l evs) (hl : ∀ a ∈ l, a ∈ m) :
    Frame x e m evs := ⟨h.1, h.2.1, fun r i j k hr => h.2.2 r i j k fun q => hr (hl _ q)⟩

/-- What presenting an event that does not lie ahead does: it joins the events of the cycle, and counters may count it. -/
theorem presentRaw_now (d : Device) (code stamp : Nat) (late : Bool) (rx : List Nat) :
    ∃ e, d.presentRaw code stamp late rx = { d with ev := { d.ev with now := d.ev.now ++ [⟨code, stamp, late, rx⟩], evc := e } } := by
  have mon : ∀ (t : Device) (src n st : Nat), ∃ e, t.monitorAt src n st = { t with ev := { t.ev with evc := e } } := by
    intro t src n st
    unfold Device.monitorAt forAllDo
    generalize List.range 64 = l
    induction l generalizing t with
    | nil => exact ⟨t.ev.evc, rfl⟩
    | cons a l ih =>
      rw [List.foldl_cons]
      have h1 : ∃ e, (if (t.fldF F.evcCtrlEn a != 0 && t.fldF F.evcCtrlSrc a == src && !(t.ev.cut.contains (RegName.addr .evcCtrl a))) = true
          then t.evcAdd a n st else t) = { t with ev := { t.ev with evc := e } } := by
        split
        · unfold Device.evcAdd
          dsimp only
          split
          · exact ⟨t.ev.evc, rfl⟩
          · exact ⟨_, rfl⟩
        · exact ⟨t.ev.evc, rfl⟩
      obtain ⟨e, he⟩ := h1
      obtain ⟨e2, h2⟩ := ih { t with ev := { t.ev with evc := e } }
      refine ⟨e2, ?_⟩
      simp only [Bool.and_eq_true] at he h2 ⊢
      rw [he, h2]
  unfold Device.presentRaw
  dsimp only
  split
  · obtain ⟨e, he⟩ := mon { d with ev := { d.ev with now := d.ev.now ++ [⟨code, stamp, late, rx⟩] } } _ 1 _
    exact ⟨e, he⟩
  · exact ⟨d.ev.evc, rfl⟩

/-- An event whose stamp does not lie ahead is presented now. -/
theorem present_now (d : Device) (code stamp : Nat) (late : Bool) (rx : List Nat) (h : stamp < d.ssi + 32) :
    ∃ e, d.present code stamp late rx = { d with ev := { d.ev with now := d.ev.now ++ [⟨code, stamp, late, rx⟩], evc := e } } := by
  unfold Device.present
  rw [if_neg (by omega)]
  exact presentRaw_now d code stamp late rx

/-- An event presented joins the list. -/
theorem frame_present {x e : Device} {l : List Nat} {evs : List Ev} (h : Frame x e l evs) (code stamp : Nat) (late : Bool)
    (rx : List Nat) (hs : stamp < e.ssi + 32) : Frame x (e.present code stamp late rx) l (evs ++ [⟨code, stamp, late, rx⟩]) := by
  obtain ⟨v, hv⟩ := present_now e code stamp late rx hs
  rw [hv]
  refine ⟨?_, fun n => by simp at n, fun q a b c hr => h.2.2 q a b c hr⟩
  have t := congrArg (fun d : Device => { d with ev := { d.ev with now := d.ev.now ++ [(⟨code, stamp, late, rx⟩ : Ev)], evc := v } }) h.1
  simpa using t

/-- An event stamped at the first sample of this cycle. -/
theorem frame_presentNow {x e : Device} {l : List Nat} {evs : List Ev} (h : Frame x e l evs) (code : Nat) :
    Frame x (e.presentNow code) l (evs ++ [⟨code, e.ssi, false, []⟩]) :=
  frame_present h code e.ssi false [] (by omega)

/-- What acceptance changes, with any packets queued and any sessions. -/
theorem frame_accept (d : Device) (c : Ctx) (op : Nat) (l : List Nat) (q : List Reply) (y : SMap Session) :
    Frame { d with eng := { d.eng with out := q }, sess := y }
      { d.accept c op with eng := { (d.accept c op).eng with out := q }, sess := y } (RegName.addr .ceAccepted :: l) := by
  obtain ⟨o, e⟩ := accept_parts d c op
  refine ⟨?_, fun _ => ?_, ?_⟩
  · rw [e]; simp [Device.addFld]
  · rw [e]; rfl
  · intro r i j k h
    exact reg_accept d c op r i j k (by simp at h; exact h.1)

end Sys2Proof.Machine
end

