-- ==== Sys2Proof/Laws/Mem.lean ====
section
/-! SUPPORT. What reading and writing byte memories do: a read after a write, and the canonical form. -/

namespace Sys2Proof.Machine

/-- A cell list whose addresses start at lo reads 0 below lo. -/
theorem cellGet_below (m : List Host.Cell) (lo k : Nat) (h : cellsFrom lo m = true) (hk : k < lo) : cellGet m k = 0 := by
  induction m generalizing lo with
  | nil => rfl
  | cons c t ih =>
    obtain ⟨a, v⟩ := c
    simp only [cellsFrom, Bool.and_eq_true, decide_eq_true_eq] at h
    have ha : a ≠ k := by omega
    simp only [cellGet, if_neg ha]
    exact ih (a + 1) h.2 (by omega)

/-- Reading the byte just written. -/
theorem cellGet_cellPut_same (m : List Host.Cell) (lo k : Nat) (v : Byte) (h : cellsFrom lo m = true) :
    cellGet (cellPut m k v) k = v := by
  induction m generalizing lo with
  | nil =>
    by_cases hv : v = 0
    · simp [cellPut, hv, cellGet]
    · simp only [cellPut, if_neg hv, cellGet, if_true]
  | cons c t ih =>
    obtain ⟨a, w⟩ := c
    simp only [cellsFrom, Bool.and_eq_true, decide_eq_true_eq] at h
    simp only [cellPut]
    split
    · by_cases hv : v = 0
      · have ha : a ≠ k := by omega
        simp only [hv, if_true, cellGet, if_neg ha]
        exact cellGet_below t (a + 1) k h.2 (by omega)
      · simp only [if_neg hv, cellGet, if_true]
    · split
      · by_cases hv : v = 0
        · simp only [hv, if_true]
          exact cellGet_below t (a + 1) k h.2 (by omega)
        · simp only [if_neg hv, cellGet, if_true]
      · have ha : a ≠ k := by omega
        simp only [cellGet, if_neg ha]
        exact ih (a + 1) h.2

/-- A write leaves every other byte alone. -/
theorem cellGet_cellPut_other (m : List Host.Cell) (k j : Nat) (v : Byte) (hj : j ≠ k) :
    cellGet (cellPut m k v) j = cellGet m j := by
  induction m with
  | nil => rcases Classical.em (v = 0#8) with hv | hv <;> simp [cellPut, cellGet, hv, Ne.symm hj]
  | cons c t ih =>
    obtain ⟨a, w⟩ := c
    simp only [cellPut]
    split
    · rcases Classical.em (v = 0#8) with hv | hv <;> simp [hv, cellGet, Ne.symm hj]
    · split
      · rename_i hk
        subst hk
        rcases Classical.em (v = 0#8) with hv | hv <;> simp [hv, cellGet, Ne.symm hj]
      · by_cases ha : a = j
        · simp [cellGet, ha]
        · simp only [cellGet, if_neg ha]; exact ih

/-- The canonical form from lo on holds from any lower bound. -/
theorem cellsFrom_mono (m : List Host.Cell) (lo hi : Nat) (h : cellsFrom hi m = true) (hl : lo ≤ hi) : cellsFrom lo m = true := by
  cases m with
  | nil => rfl
  | cons c t =>
    obtain ⟨a, v⟩ := c
    simp only [cellsFrom, Bool.and_eq_true, decide_eq_true_eq] at h ⊢
    exact ⟨⟨by omega, h.1.2⟩, h.2⟩

/-- A write keeps the canonical form. -/
theorem cellPut_wf (m : List Host.Cell) (lo k : Nat) (v : Byte) (h : cellsFrom lo m = true) (hk : lo ≤ k) :
    cellsFrom lo (cellPut m k v) = true := by
  induction m generalizing lo with
  | nil => rcases Classical.em (v = 0#8) with hv | hv <;> simp [cellPut, hv, cellsFrom, hk]
  | cons c t ih =>
    obtain ⟨a, w⟩ := c
    have h0 := h
    simp only [cellsFrom, Bool.and_eq_true, decide_eq_true_eq] at h
    simp only [cellPut]
    split
    · by_cases hv : v = 0
      · simpa [hv] using h0
      · simp only [hv, if_false, cellsFrom, Bool.and_eq_true, decide_eq_true_eq]
        exact ⟨⟨hk, by simpa using hv⟩, ⟨by omega, h.1.2⟩, h.2⟩
    · split
      · by_cases hv : v = 0
        · simp only [hv, if_true]
          exact cellsFrom_mono t lo (a + 1) h.2 (by omega)
        · simp only [hv, if_false, cellsFrom, Bool.and_eq_true, decide_eq_true_eq]
          rename_i hka
          subst hka
          exact ⟨⟨hk, by simpa using hv⟩, h.2⟩
      · simp only [cellsFrom, Bool.and_eq_true, decide_eq_true_eq]
        exact ⟨h.1, ih (a + 1) h.2 (by omega)⟩

/-- Writing bytes keeps the canonical form. -/
theorem cellPuts_wf (m : List Host.Cell) (a : Nat) (bs : List Byte) (h : Memory.wf m = true) : Memory.wf (cellPuts m a bs) = true := by
  induction bs generalizing m a with
  | nil => exact h
  | cons b t ih => exact ih (cellPut m a b) (a + 1) (cellPut_wf m 0 a b h (Nat.zero_le a))

/-- Dropping cells keeps the canonical form. -/
theorem cellsFrom_filter (m : List Host.Cell) (lo : Nat) (p : Host.Cell → Bool) (h : cellsFrom lo m = true) :
    cellsFrom lo (m.filter p) = true := by
  induction m generalizing lo with
  | nil => rfl
  | cons c t ih =>
    obtain ⟨a, v⟩ := c
    simp only [cellsFrom, Bool.and_eq_true, decide_eq_true_eq] at h
    by_cases hp : p (a, v) = true
    · simp only [List.filter_cons, hp, if_true, cellsFrom, Bool.and_eq_true, decide_eq_true_eq]
      exact ⟨h.1, ih (a + 1) h.2⟩
    · simp only [List.filter_cons, hp]
      exact cellsFrom_mono _ lo (a + 1) (ih (a + 1) h.2) (by omega)

/-- Bytes outside those written are as before. -/
theorem cellGet_cellPuts_other (m : List Host.Cell) (a j : Nat) (bs : List Byte) (h : j < a ∨ a + bs.length ≤ j) :
    cellGet (cellPuts m a bs) j = cellGet m j := by
  induction bs generalizing m a with
  | nil => rfl
  | cons b t ih =>
    simp only [List.length_cons] at h
    simp only [cellPuts]
    rw [ih (cellPut m a b) (a + 1) (by omega), cellGet_cellPut_other m a j b (by omega)]

/-- Reading back the bytes written. -/
theorem cellGet_cellPuts_in (m : List Host.Cell) (a i : Nat) (bs : List Byte) (hm : Memory.wf m = true) (h : i < bs.length) :
    cellGet (cellPuts m a bs) (a + i) = bs.getD i 0 := by
  induction bs generalizing m a i with
  | nil => simp at h
  | cons b t ih =>
    have hw : Memory.wf (cellPut m a b) = true := cellPut_wf m 0 a b hm (Nat.zero_le a)
    cases i with
    | zero =>
      simp only [cellPuts, Nat.add_zero]
      rw [cellGet_cellPuts_other _ (a + 1) a t (by omega), cellGet_cellPut_same m 0 a b hm]
      simp
    | succ j =>
      simp only [List.length_cons] at h
      have := ih (cellPut m a b) (a + 1) j hw (by omega)
      simp only [cellPuts]
      rw [show a + (j + 1) = a + 1 + j by omega, this]
      simp

end Sys2Proof.Machine
end

