-- ==== Sys2Proof/Laws/PerInstr.lean ====
section
/-! SUPPORT. No statement is made per constructor as syntax. -/
end

