-- ==== Sys2Proof/Tests/Slice0.lean ====
section
/-! SUPPORT. Tests of the model: what well-formedness refuses, instruction words written out from the tables of the manual, and for each
statement states and operands that meet its hypotheses. -/

namespace Sys2Proof.Machine

/-- A field planted in a register, with no mark of this cycle. -/
def Device.plant (d : Device) (f : Fld) (x : Nat) (i : Nat := 0) (j : Nat := 0) (k : Nat := 0) : Device :=
  d.putReg f.reg (putField (d.reg f.reg i j k) f.hi f.lo x) i j k

end Sys2Proof.Machine

namespace Sys2Proof.Tests

open Sys2Proof.Machine

-- One after the other: each of these waits for the kernel, and a thread held for each does not fit the memory.
set_option Elab.async false

/-- Bytes written as numbers. -/
def bytes (l : List Nat) : List Byte := l.map (BitVec.ofNat 8)
/-- The device released with every register at its reset value, some while ago. -/
def ready : Device := { State.reset.dev with phase := .running, cycle := 1000000, eng := { State.reset.dev.eng with halted := false } }
/-- A state of a device with an empty queue. -/
def st (d : Device) : State := ⟨[], d⟩
/-- A host's context, without and with an accept reply. -/
def host : Ctx := ⟨3, 0, 7, false, none⟩
def hostAck : Ctx := ⟨3, 0, 7, true, none⟩

namespace F01

/-- The hypotheses of Obligations.RegisterReads can be met, clause by clause. -/
theorem witness_RegisterReads :
  (∃ (s : State) (c : Ctx) (r : RegName), r ∈ [.ceAlertEn, .tbSyncDelay, .tbSyncPer, .bnScanmask, .calCommitper] ∧ Takes s c ∧ sfind
    s.dev.latch r.addr = none) ∧
  (∃ (s : State) (c : Ctx), Takes s c ∧ sfind s.dev.latch (RegName.addr .ceStale) = none ∧ sfind s.dev.addNow (RegName.addr .ceStale) =
    none) ∧
  (∃ (s : State) (c : Ctx) (a : Nat), Takes s c ∧ findReg a = none) ∧
  (∃ (s : State) (c : Ctx), Takes s c ∧ sfind s.dev.latch (RegName.addr .tbEpochLo) = none ∧ sfind s.dev.latch (RegName.addr .tbEpochHi) =
    none) :=
  ⟨⟨st ready, host, .ceAlertEn, by decide +kernel⟩,
   ⟨st (ready.putReg .ceStale 5), hostAck, by decide +kernel⟩,
   ⟨st ready, host, 2, by decide +kernel⟩,
   ⟨st ready, host, by decide +kernel⟩⟩

/-- The hypotheses of Obligations.LatchingReads can be met, clause by clause. -/
theorem witness_LatchingReads :
  (∃ (s : State) (c : Ctx), Takes s c ∧ sfind s.dev.latch (RegName.addr .tbScLo) = none) :=
  ⟨st ready, host, by decide +kernel⟩

/-- The hypotheses of Obligations.RegisterWrites can be met, clause by clause. -/
theorem witness_RegisterWrites :
  (∃ (s : State) (c : Ctx), Takes s c ∧ sget 0 s.dev.hwNow (RegName.addr .ceAlertEn) = 0) ∧
  (∃ (s : State) (c : Ctx) (a : Nat), Takes s c ∧ findReg a = none) ∧
  (∃ (s : State) (c : Ctx) (v : Nat) (w : Nat), Takes s c ∧ v < 2 ^ 32 ∧ w < 2 ^ 32 ∧ sget 0 s.dev.hwNow (RegName.addr .tbEpochLo) = 0 ∧
    sget 0 s.dev.hwNow (RegName.addr .tbEpochHi) = 0) ∧
  (∃ (s : State) (c : Ctx) (p : Fin 512), Takes s c ∧ s.dev.seqWritable p c.sess = false) :=
  ⟨⟨st ready, host, by decide +kernel⟩,
   ⟨st ready, host, 2, by decide +kernel⟩,
   ⟨st ready, host, 9, 8, by decide +kernel⟩,
   ⟨st (ready.putReg .secOwn 0x11 0 5), host, 5, by decide +kernel⟩⟩

/-- The hypotheses of Obligations.TimedWrites can be met, clause by clause. -/
theorem witness_TimedWrites :
  (∃ (s : State) (c : Ctx) (x : Nat), s.dev.live = true ∧ c.timed = some x ∧ s.dev.eng.timed.length < 64 ∧ x ≤ s.dev.ssi + 2 ^ 40 ∧
    s.dev.fld F.tbStatusRegState ≠ 1) ∧
  (∃ (s : State) (c : Ctx) (e : Timed) (v : Nat) (rest : List Timed), s.dev.live = true ∧ s.dev.eng.timed = e :: rest ∧ e.cmd = .regWrite
    c (RegName.addr .ceAlertEn) v ∧ v < 2 ^ 32 ∧ e.opcode = 0x0202 ∧ s.dev.cycleOf e.execAt ≤ s.dev.cycle ∧ (rest.filter fun y => y.id !=
    e.id) = rest ∧ sget 0 s.dev.hwNow (RegName.addr .ceAlertEn) = 0) :=
  ⟨⟨st ready, ⟨3,0,7,false,some 32000640⟩, 32000640, by decide +kernel⟩,
⟨st {ready with eng := {ready.eng with timed := [⟨0, .regWrite ⟨3,0,7,false,some 32000010⟩ (RegName.addr .ceAlertEn) 3, ⟨3,0,7,false,some 32000010⟩, 0x0202, 32000010, true, 31000000⟩]}},
      ⟨3,0,7,false,some 32000010⟩,
      ⟨0, .regWrite ⟨3,0,7,false,some 32000010⟩ (RegName.addr .ceAlertEn) 3, ⟨3,0,7,false,some 32000010⟩, 0x0202, 32000010, true, 31000000⟩,
      3, [], by decide +kernel⟩⟩

end F01

namespace F02

/-- The hypotheses of Obligations.TimeOffsets can be met, clause by clause. -/
theorem witness_TimeOffsets :
  (∃ (s : State) (c : Ctx), Takes s c ∧ s.dev.flag F.tbCtrlSeal = false) ∧
  (∃ (s : State) (c : Ctx), Takes s c ∧ s.dev.flag F.tbCtrlSeal = false) ∧
  (∃ (s : State) (c : Ctx), Takes s c ∧ s.dev.flag F.tbCtrlSeal = false) ∧
  (∃ (s : State) (c : Ctx), Takes s c ∧ s.dev.flag F.tbCtrlSeal = true) ∧
  (∃ (d : Device) (a : Nat) (b : Nat) (e : Nat) (f : Nat), d.tb.commit = some [a, b, e, f]) ∧
  (∃ (s : State) (c : Ctx) (v : Nat), Takes s c ∧ bitsOf v 5 4 ≠ 3 ∧ bitOf v 0 = false ∧ bitOf v 1 = false ∧ s.dev.flag F.tbCtrlSyncArm =
    false) :=
  ⟨⟨st ready, host, by decide +kernel⟩,
   ⟨st ready, host, by decide +kernel⟩,
   ⟨st ready, host, by decide +kernel⟩,
   ⟨st (ready.putReg .tbCtrl 256), host, by decide +kernel⟩,
   ⟨{ready with tb := {ready.tb with commit := some [1,2,3,4]}}, 1, 2, 3, 4, by decide +kernel⟩,
   ⟨st ready, host, 32, by decide +kernel⟩⟩

/-- The hypotheses of Obligations.SyncArming can be met, clause by clause. -/
theorem witness_SyncArming :
  (∃ (s : State) (c : Ctx) (v : Nat), Takes s c ∧ bitsOf v 5 4 ≠ 3 ∧ bitOf v 1 = false ∧ s.dev.flag F.tbCtrlSeal = false ∧ s.dev.flag
    F.tbCtrlSyncArm = false ∧ sget 0 s.dev.hwNow (RegName.addr .tbCtrl) = 0 ∧ s.dev.armBusy = false) ∧
  (∃ (s : State) (c : Ctx) (v : Nat), Takes s c ∧ bitsOf v 5 4 ≠ 3 ∧ s.dev.flag F.tbCtrlSeal = false ∧ s.dev.flag F.tbCtrlSyncArm = false
    ∧ sget 0 s.dev.hwNow (RegName.addr .tbCtrl) = 0 ∧ s.dev.armBusy = true) ∧
  (∃ (s : State) (c : Ctx) (v : Nat), Takes s c ∧ bitsOf v 5 4 ≠ 3 ∧ bitOf v 1 = false ∧ s.dev.flag F.tbCtrlSeal = false ∧ s.dev.flag
    F.tbCtrlSyncArm = true ∧ sget 0 s.dev.hwNow (RegName.addr .tbCtrl) = 0 ∧ s.dev.tb.former < 8) :=
  ⟨⟨st ready, host, 16, by decide +kernel⟩,
   ⟨st (ready.putReg .tbTaCtrl 1 3), host, 16, by decide +kernel⟩,
   ⟨st ({ready with tb := {ready.tb with armCycle := some 5, former := 2}}.putReg .tbCtrl 1), host, 16, by decide +kernel⟩⟩

/-- The hypotheses of Obligations.SyncCapture can be met, clause by clause. -/
theorem witness_SyncCapture :
  (∃ (s : State) (stamp : Nat) (high : Nat), Runs s ∧ high < 65536 ∧ (∀ l ∈ s.dev.tb.lastEdge, l + 4096000 ≤ stamp)) ∧
  (∃ (s : State) (stamp : Nat) (high : Nat) (a : Nat), Runs s ∧ 65536 ≤ high ∧ (∀ l ∈ s.dev.tb.lastEdge, l + 4096000 ≤ stamp) ∧ s.dev.flag
    F.tbCtrlSyncArm = true ∧ s.dev.tb.armCycle = some a ∧ a < stamp / 256 / 32) ∧
  (∃ (s : State) (w : Int) (d0 : Nat) (x : Nat), Runs s ∧ s.dev.tb.waiting = some (w, d0, x) ∧ x ≤ 32 * s.dev.cycle) :=
  ⟨⟨st ready, 8192000000, 3, by decide +kernel⟩,
   ⟨st ({ready with tb := {ready.tb with armCycle := some 5}}.putReg .tbCtrl 1), 8192000123, 65536, 5, by decide +kernel⟩,
   ⟨st {ready with tb := {ready.tb with waiting := some (7, 8000, 3)}, ports := [(3, {trim := 8000})]}, 7, 8000, 3, by decide +kernel⟩⟩

/-- The hypotheses of Obligations.AlarmsAndGenerator can be met, clause by clause. -/
theorem witness_AlarmsAndGenerator_1 :
  (∃ (s : State) (c : Ctx) (v : Nat), Takes s c ∧ v < 2 ^ 32) ∧
  (∃ (s : State) (c : Ctx) (v : Nat), Takes s c ∧ v < 2 ^ 32) ∧
  (∃ (s : State) (c : Ctx) (v : Nat), Takes s c ∧ v < 2 ^ 32 ∧ (v = 0 ∨ 32 ≤ v)) ∧
  (∃ (s : State) (c : Ctx) (v : Nat), Takes s c ∧ 1 ≤ v ∧ v < 32) ∧
  (∃ (s : State) (c : Ctx) (n : Fin 16), Takes s c ∧ sget 0 s.dev.hwNow (RegName.addr .tbTaCtrl n) = 0) ∧
  (∃ (s : State) (n : Fin 16) (x : Nat), Runs s ∧ s.dev.former = [] ∧ s.dev.flag F.tbTaCtrlEnable n = true ∧ s.dev.reg64 .tbTaLo .tbTaHi n
    = x ∧ s.dev.ssi ≤ x ∧ x < s.dev.ssi + 32 ∧ s.dev.reg .tbTaPer n = 0) :=
  ⟨⟨st ready, host, 4294967295, by decide +kernel⟩,
   ⟨st ready, host, 4294967295, by decide +kernel⟩,
   ⟨st ready, host, 0, by decide +kernel⟩,
   ⟨st ready, host, 31, by decide +kernel⟩,
   ⟨st (ready.putReg .tbTaCtrl 2 0), host, 0, by decide +kernel⟩,
   ⟨st ((ready.putReg .tbTaCtrl 1 15).putReg .tbTaLo 32000031 15), 15, 32000031, by decide +kernel⟩⟩

/-- The hypotheses of Obligations.AlarmsAndGenerator can be met, clause by clause. -/
theorem witness_AlarmsAndGenerator_2 :
  (∃ (s : State) (n : Fin 16) (x : Nat) (per : Nat), Runs s ∧ s.dev.former = [] ∧ s.dev.flag F.tbTaCtrlEnable n = true ∧ s.dev.reg64
    .tbTaLo .tbTaHi n = x ∧ s.dev.ssi ≤ x ∧ x < s.dev.ssi + 32 ∧ (s.dev.reg .tbTaPer n).toNat = per ∧ per ≠ 0) ∧
  (∃ (s : State) (x : Nat), Runs s ∧ s.dev.fld F.tbCtrlSyncOutMode = 2 ∧ s.dev.reg64 .tbSyncGenLo .tbSyncGenHi = x ∧ s.dev.ssi ≤ x ∧ x <
    s.dev.ssi + 32) :=
  ⟨⟨st (((ready.putReg .tbTaCtrl 1 0).putReg .tbTaLo 32000000 0).putReg .tbTaPer 4294967295 0), 0, 32000000, 4294967295, by decide +kernel⟩,
   ⟨st ((ready.putReg .tbCtrl 32).putReg .tbSyncGenLo 32000031), 32000031, by decide +kernel⟩⟩

/-- The hypotheses of Obligations.LinkChecks can be met, clause by clause. -/
theorem witness_LinkChecks :
  (∃ (s : State) (c : Ctx) (v : Nat), Takes s c ∧ bitsOf v 5 4 ≠ 3 ∧ s.dev.flag F.tbCtrlSeal = false ∧ bitOf v 0 = s.dev.flag
    F.tbCtrlSyncArm) ∧
  (∃ (s : State) (p : Fin 8) (b : Vc1Block) (m : Vc1Block), Runs s ∧ s.dev.portUp p = true ∧ s.dev.decrypted p b = m ∧ Vc1Block.good m =
    true ∧ Vc1Block.type m = 3 ∧ bitsOf m.bits 59 58 = 0) ∧
  (∃ (s : State) (p : Fin 8) (b : Vc1Block) (m : Vc1Block) (k : LinkCheck), Runs s ∧ s.dev.portUp p = true ∧ s.dev.decrypted p b = m ∧
    Vc1Block.good m = true ∧ Vc1Block.type m = 3 ∧ bitsOf m.bits 59 58 = 1 ∧ sfind s.dev.tb.check p = some k ∧ k.tried = bitsOf m.bits 57
    52 + 1 ∧ k.t1.isSome = true ∧ k.d = none) ∧
  (∃ (s : State) (p : Fin 8) (k : LinkCheck) (x : Nat), Runs s ∧ sfind s.dev.tb.check p = some k ∧ k.since = some x ∧ x + 5000 ≤
    s.dev.cycle ∧ k.tried < 64) ∧
  (∃ (s : State) (p : Fin 8) (k : LinkCheck) (x : Nat), Runs s ∧ s.dev.tb.check = [(p.val, k)] ∧ s.dev.tb.checkAt = some x ∧ x + 50000 ≤
    s.dev.cycle ∧ k.done.length < 32) ∧
  (∃ (s : State) (p : Fin 8) (k : LinkCheck) (x : Nat), Runs s ∧ s.dev.tb.check = [(p.val, k)] ∧ s.dev.tb.checkAt = some x ∧ x + 50000 ≤
    s.dev.cycle ∧ 32 ≤ k.done.length ∧ -512 < median2 (k.done.map Prod.fst) / 2 ∧ median2 (k.done.map Prod.fst) / 2 < 512) :=
  ⟨⟨st ((ready.putReg .lkPctl 1 7).putReg .lkPstat 3 7), host, 0, by decide +kernel⟩,
   ⟨st ((ready.putReg .lkPctl 1 7).putReg .lkPstat 3 7), 7, ⟨5, true, timingBlock 0 63 0⟩, ⟨5, true, timingBlock 0 63 0⟩, by decide +kernel⟩,
   ⟨st {((ready.putReg .lkPctl 1 7).putReg .lkPstat 3 7) with tb := {ready.tb with check := [(7, {tried := 64, t1 := some 3})]}}, 7,
      ⟨5, true, timingBlock 1 63 0⟩, ⟨5, true, timingBlock 1 63 0⟩, {tried := 64, t1 := some 3}, by decide +kernel⟩,
   ⟨st {ready with tb := {ready.tb with check := [(7, {tried := 63, since := some 995000})]}}, 7, {tried := 63, since := some 995000},
      995000, by decide +kernel⟩,
   ⟨st {ready with tb := {ready.tb with check := [(7, {})], checkAt := some 950000}}, 7, {}, 950000, by decide +kernel⟩,
   ⟨st {ready with tb := {ready.tb with check := [(7, {done := List.replicate 32 (1023, 77)})], checkAt := some 950000}}, 7,
      {done := List.replicate 32 (1023, 77)}, 950000, by decide +kernel⟩⟩

end F02

namespace F03

/-- The hypotheses of Obligations.ChannelActivations can be met, clause by clause. -/
theorem witness_ChannelActivations :
  (∃ (s : State) (n : Fin 256) (e : Ev), Runs s ∧ sfind s.dev.ev.act n = none ∧ s.dev.eventsFor n = [e] ∧ s.dev.mutedF n = false ∧
    s.dev.fldF F.evEcCfgGuard n = 0 ∧ s.dev.unheard n) ∧
  (∃ (s : State) (n : Fin 256) (e : Ev), Runs s ∧ sfind s.dev.ev.act n = none ∧ s.dev.eventsFor n = [e] ∧ s.dev.mutedF n = true) ∧
  (∃ (s : State) (n : Fin 256) (e : Ev), Runs s ∧ sfind s.dev.ev.act n = none ∧ s.dev.eventsFor n = [e] ∧ s.dev.mutedF n = false ∧
    s.dev.fldF F.evEcCfgGuard n = 1 ∧ s.dev.fld F.evCtrlLoopMax < (s.dev.recent n).length + 1) ∧
  (∃ (s : State) (c : Ctx) (v : Nat), Takes s c ∧ v < 2 ^ 32) ∧
  (∃ (s : State) (c : Ctx) (w : Fin 8) (v : Nat), Takes s c ∧ v < 2 ^ 32 ∧ sget 0 s.dev.hwNow (RegName.addr .evLoopch 0 w) = 0) :=
  ⟨⟨st (({ready with ev := {ready.ev with prev := [⟨evCode 1 3 0, 31999999, true, []⟩, ⟨evCode 1 4 0, 5, false, []⟩]}}.plant F.evEcEven (evCode 1 3 0) 255 3).plant F.evEcCfgGuard 0 255),
      255, ⟨evCode 1 3 0, 31999999, true, []⟩, by unfold Device.unheard; decide +kernel⟩,
⟨st (({ready with ev := {ready.ev with prev := [⟨evCode 1 3 0, 31999999, true, []⟩]}}.plant F.evEcEven (evCode 1 3 0) 33 3).putReg .evLoopch 2 0 1),
      33, ⟨evCode 1 3 0, 31999999, true, []⟩, by decide +kernel⟩,
⟨st ((({ready with ev := {ready.ev with prev := [⟨evCode 1 3 0, 31999999, true, []⟩], hist := [(33, [999990])]}}.plant F.evEcEven (evCode 1 3 0) 33 3).plant F.evEcCfgGuard 1 33).plant F.evCtrlLoopMax 1),
      33, ⟨evCode 1 3 0, 31999999, true, []⟩, by decide +kernel⟩,
   ⟨st ready, host, 0x8001, by decide +kernel⟩,
   ⟨st ({ready with ev := {ready.ev with hist := [(32, [5]), (33,[6])]}}.putReg .evLoopch 3 0 1), host, 1, 2, by decide +kernel⟩⟩

/-- The hypotheses of Obligations.EventCounters can be met, clause by clause. -/
theorem witness_EventCounters :
  (∃ (s : State) (c : Ctx) (v : Nat), Takes s c ∧ v < 2 ^ 32 ∧ bitOf v 1 = false ∧ bitsOf v 24 16 ≤ 273 ∧ (bitsOf v 24 16 < 256 →
    s.dev.ecAway (bitsOf v 24 16) c.sess = false) ∧ s.dev.ecAway (bitsOf v 15 8) c.sess = false) ∧
  (∃ (s : State) (c : Ctx) (n : Fin 64) (v : Nat), Takes s c ∧ v < 2 ^ 32 ∧ bitOf v 0 = false ∧ bitsOf v 24 16 ≤ 273 ∧ (bitsOf v 24 16 <
    256 → s.dev.ecAway (bitsOf v 24 16) c.sess = false) ∧ s.dev.ecAway (bitsOf v 15 8) c.sess = false ∧ (s.dev.evc n).snapNow = none) :=
  ⟨⟨st {ready with ev := {ready.ev with evc := [(63, {base := 7, add := 2})]}}, hostAck, 0x01110501, by decide +kernel⟩,
   ⟨st {ready with ev := {ready.ev with evc := [(63, {base := 7, add := 2})]}}, hostAck, 63, 0x80110502, by decide +kernel⟩⟩

end F03

namespace F04
def budDev : Device := ((((((ready.plant F.budCfgEn 1 2).putReg .budCLo 1000000 2).putReg .budPcoolLo 1000000 2).putReg .budTbase 300000 2).putReg .budTlim 300100 2).putReg .budPstatLo 5 2)

/-- The hypotheses of Obligations.LedgerWrites can be met, clause by clause. -/
theorem witness_LedgerWrites :
  (∃ (s : State) (c : Ctx) (j : Fin 18) (v : Nat), Takes s c ∧ v < 2 ^ 32 ∧ bitsOf v 30 29 ≠ 3 ∧ (j.val < 16 → s.dev.ledWritable j c.sess
    = true) ∧ s.dev.ledSealed j = false ∧ s.dev.csBusy = false ∧ (if j.val = 16 then true else bitOf v 31) = s.dev.flag F.budCfgEn j ∧
    commitOk j (s.dev.stagedLedger j) = true) ∧
  (∃ (s : State) (c : Ctx) (j : Fin 18) (v : Nat), Takes s c ∧ v < 2 ^ 32 ∧ bitsOf v 30 29 ≠ 3 ∧ j.val ≠ 16 ∧ (j.val < 16 →
    s.dev.ledWritable j c.sess = true) ∧ s.dev.ledSealed j = false ∧ s.dev.csBusy = false ∧ bitOf v 31 = true ∧ s.dev.flag F.budCfgEn j =
    false ∧ commitOk j (s.dev.stagedLedger j) = true) ∧
  (∃ (s : State) (c : Ctx) (j : Fin 18) (v : Nat), Takes s c ∧ v < 2 ^ 32 ∧ j.val ≠ 16 ∧ (j.val < 16 → s.dev.ledWritable j c.sess = true)
    ∧ s.dev.ledSealed j = false ∧ s.dev.csBusy = false ∧ bitOf v 31 = false ∧ bitOf v 28 = false ∧ s.dev.flag F.budCfgEn j = true ∧ bitsOf
    v 30 29 = s.dev.fld F.budCfgCmode j ∧ bitsOf v 30 29 ≠ 3 ∧ bitsOf v 19 16 = s.dev.fld F.budCfgSrc j) ∧
  (∃ (s : State) (c : Ctx), Takes s c ∧ s.dev.flag F.budCtrlSeal = false) ∧
  (∃ (s : State) (c : Ctx), Takes s c ∧ s.dev.flag F.budCtrlSeal = true) ∧
  (∃ (s : State) (j : Fin 18), Runs s ∧ s.dev.fldF F.budCfgCmode j ≠ 0 ∧ (s.dev.led j).tmo ≠ 0 ∧ (s.dev.led j).stale = false ∧ (s.dev.led
    j).since + (s.dev.led j).tmo * 500000 ≤ s.dev.cycle) :=
  ⟨⟨st budDev, host, 2, 0x80000000, by decide +kernel⟩,
   ⟨st (budDev.plant F.budCfgEn 0 2), host, 2, 0xC0030000, by decide +kernel⟩,
   ⟨st budDev, host, 2, 0x0, by decide +kernel⟩,
   ⟨st ready, host, by decide +kernel⟩,
   ⟨st (ready.plant F.budCtrlSeal 1), host, by decide +kernel⟩,
   ⟨st ((budDev.plant F.budCfgCmode 1 2).putLed 2 {tmo := 1, since := 500000}), 2, by decide +kernel⟩⟩

/-- The hypotheses of Obligations.BudgetCommands can be met, clause by clause. -/
theorem witness_BudgetCommands :
  (∃ (s : State) (c : Ctx) (k : Nat) (addr : Nat), Takes s c ∧ k < 576 ∧ addr < 32768 ∧ s.dev.isBlockAt (storeOf k) addr = true ∧
    s.dev.seqReadable k c.sess = true) ∧
  (∃ (s : State) (c : Ctx) (p : Nat) (row : List Nat), Takes s c ∧ p < 512 ∧ row.length = 16 ∧ (∀ x ∈ row, x < 2 ^ 32) ∧ row.sum ≤ 2 ^ 32
    ∧ (∀ j : Fin 16, s.dev.attnWritable p j c.sess = true) ∧ s.dev.csBusy = false) :=
  ⟨⟨st {ready with prog := [(5, (SeqInstr.block 1 true false false false 0 9).encode)]}, host, 0, 5, by decide +kernel⟩,
   ⟨st ready, hostAck, 511, List.replicate 16 268435456, by decide +kernel⟩⟩

end F04

namespace F05
def curveImg : List Byte := [32,0,0,0,2,0,0,0] ++ List.replicate 24 0 ++ leBytes 8 0x3FF0000000000000 ++ leBytes 8 0x4014000000000000 ++ leBytes 8 0x4000000000000000 ++ leBytes 8 0x4024000000000000

/-- The hypotheses of Obligations.BenchVisits can be met, clause by clause. -/
theorem witness_BenchVisits_1 :
  (∃ (s : State) (c : Ctx) (v : Nat), Takes s c ∧ v < 2 ^ 32 ∧ bitsOf v 17 16 ≠ 3 ∧ s.dev.ecAway (bitsOf v 15 8) c.sess = false ∧
    (s.dev.bench.ending ≠ none ∨ s.dev.flag F.bnCtrlRun = false ∧ s.dev.bench.inPass = false ∧ s.dev.bench.want = none)) ∧
  (∃ (s : State) (c : Ctx) (v : Nat), Takes s c ∧ v < 2 ^ 32 ∧ bitsOf v 17 16 ≠ 3 ∧ s.dev.ecAway (bitsOf v 15 8) c.sess = false ∧
    s.dev.flag F.bnCtrlRun = true ∧ s.dev.bench.ending = none ∧ s.dev.bench.inPass = true) ∧
  (∃ (s : State) (c : Ctx) (v : Nat), Takes s c ∧ v < 2 ^ 32 ∧ bitsOf v 17 16 ≠ 3 ∧ s.dev.ecAway (bitsOf v 15 8) c.sess = false ∧
    s.dev.flag F.bnCtrlRun = true) ∧
  (∃ (s : State) (p : Nat) (rest : List Nat), Runs s ∧ s.dev.bench.phase = .idle ∧ s.dev.bench.next < s.dev.ssi + 32 ∧ s.dev.bench.gapOpen
    = false ∧ s.dev.bench.inPass = true ∧ s.dev.bench.points = p :: rest) ∧
  (∃ (s : State), Runs s ∧ s.dev.bench.phase = .brk ∧ s.dev.bench.stop < s.dev.ssi + 32) ∧
  (∃ (s : State), Runs s ∧ s.dev.bench.phase = .discharge ∧ s.dev.bench.stop < s.dev.ssi + 32 ∧ s.dev.bench.visit.pt < 16) :=
  ⟨⟨st {ready with ev := {ready.ev with cut := [RegName.addr .bnCtrl, 7]}}, host, 0x00080000, by decide +kernel⟩,
   ⟨st ({ready with bench := {ready.bench with inPass := true}}.plant F.bnCtrlRun 1), host, 0xFFFEFFFE, by decide +kernel⟩,
   ⟨st (ready.plant F.bnCtrlRun 1), host, 0x00080001, by decide +kernel⟩,
   ⟨st ({ready with bench := {ready.bench with inPass := true, points := [52,3], next := 32000031}}.putReg .bnPtConv 0x55 20), 52, [3],
      by decide +kernel⟩,
   ⟨st ({ready with bench := {ready.bench with phase := .brk, stop := 32000031}}.putReg .bnDisch 100), by decide +kernel⟩,
   ⟨st {ready with bench := {ready.bench with phase := .discharge, stop := 32000031, visit := {pt := 15}}}, by decide +kernel⟩⟩

/-- The hypotheses of Obligations.BenchVisits can be met, clause by clause. -/
theorem witness_BenchVisits_2 :
  (∃ (s : State), Runs s ∧ s.dev.bench.phase = .leads ∧ s.dev.bench.stop < s.dev.ssi + 32) ∧
  (∃ (s : State), Runs s ∧ s.dev.bench.phase = .make ∧ s.dev.bench.stop < s.dev.ssi + 32) ∧
  (∃ (s : State), Runs s ∧ s.dev.bench.phase = .warm ∧ s.dev.bench.stop < s.dev.ssi + 32) :=
  ⟨⟨st {ready with bench := {ready.bench with phase := .leads, stop := 32000031, visit := {pt := 15}}}, by decide +kernel⟩,
⟨st {ready with bench := {ready.bench with phase := .make, stop := 32000031, visit := {pt := 15, conv := 0xFFFFFFFF, neg := true, n := 4}}},
      by decide +kernel⟩,
⟨st {ready with bench := {ready.bench with phase := .warm, stop := 32000031, visit := {pt := 15, conv := 0xFFFFFFFF, neg := true, n := 4}}},
      by decide +kernel⟩⟩

/-- The hypotheses of Obligations.BenchConversions can be met, clause by clause. -/
theorem witness_BenchConversions_1 :
  (∃ (s : State), Runs s ∧ s.dev.bench.phase = .conv ∧ s.dev.bench.visit.ce < s.dev.ssi + 32 ∧ s.dev.bench.visit.cs <
    s.dev.bench.visit.settle) ∧
  (∃ (s : State) (code : Int) (x : Int) (y : Int), Runs s ∧ s.dev.bench.phase = .conv ∧ s.dev.bench.visit.ce < s.dev.ssi + 32 ∧
    s.dev.bench.visit.settle ≤ s.dev.bench.visit.cs ∧ s.dev.benchCode (bitsOf s.dev.bench.visit.conv 9 8) code = x ∧ y = min 147639500
    (max (-147639500) x) ∧ s.dev.bench.visit.n + 1 < 2 ^ bitsOf s.dev.bench.visit.conv 15 12) ∧
  (∃ (s : State), Runs s ∧ s.dev.bench.phase = .discharge ∧ s.dev.bench.stop < s.dev.ssi + 32 ∧ s.dev.bench.visit.pt < 16) ∧
  (∃ (s : State) (vsrc : Rat) (imon : Rat) (vsense : Rat), Runs s ∧ (s.dev.bench.phase = .warm ∨ s.dev.bench.phase = .conv) ∧
    s.dev.bench.visit.check < s.dev.ssi + 32 ∧ monitorFault s.dev.bench.visit.exc vsrc imon vsense = 0) ∧
  (∃ (s : State) (tick : Nat), Runs s ∧ s.dev.fld F.bnCtrlMains = 2 ∧ 1600 * tick < s.dev.ssi + 32 ∧ s.dev.bench.lastEdge = none) ∧
  (∃ (s : State) (tick : Nat) (e : Nat), Runs s ∧ s.dev.fld F.bnCtrlMains = 2 ∧ 1600 * tick < s.dev.ssi + 32 ∧ s.dev.bench.lastEdge = some
    e ∧ e < tick ∧ s.dev.bench.lost = false ∧ s.dev.bench.periods.length < 15) :=
  ⟨⟨st {ready with bench := {ready.bench with phase := .conv, visit := {conv := 0x20000, ce := 32000031, cs := 31999999, settle := 32000000}}},
      by decide +kernel⟩,
⟨st {ready with bench := {ready.bench with phase := .conv, visit := {conv := 0x22000, ce := 32000031, cs := 32000000, settle := 32000000, n := 2, neg := true}}},
      -147639500, (st ready).dev.benchCode 0 (-147639500), min 147639500 (max (-147639500) ((st ready).dev.benchCode 0 (-147639500))),
      by decide +kernel, by decide +kernel, by decide +kernel, by decide +kernel, rfl, rfl, by decide +kernel⟩,
   ⟨st {ready with bench := {ready.bench with phase := .discharge, stop := 32000000, visit := {pt := 15}}}, by decide +kernel⟩,
   ⟨st {ready with bench := {ready.bench with phase := .warm, visit := {exc := 64, check := 32000031, failed := true}}}, 0, 1, 0, by decide +kernel⟩,
   ⟨st (ready.plant F.bnCtrlMains 2), 20000, by decide +kernel⟩,
   ⟨st ({ready with bench := {ready.bench with lastEdge := some 5, periods := [1,2]}}.plant F.bnCtrlMains 2), 20000, 5, by decide +kernel⟩⟩

/-- The hypotheses of Obligations.BenchConversions can be met, clause by clause. -/
theorem witness_BenchConversions_2 :
  (∃ (s : State), Runs s ∧ s.dev.fld F.bnCtrlMains = 2 ∧ s.dev.bench.lost = false ∧ tickAt s.dev.mainsDeadline < s.dev.ssi + 32) ∧
  (∃ (s : State) (k : CalStep) (p : Nat) (conv : Nat) (exc : Nat) (rest : List (Nat × Nat × Nat)), Runs s ∧ s.dev.bench.gapOpen = true ∧
    s.dev.bench.phase = .idle ∧ s.dev.bench.inPass = false ∧ s.dev.bench.next < s.dev.ssi + 32 ∧ s.dev.flag F.bnCtrlCalslotEn = true ∧
    sfind s.dev.cal.steps 8 = some k ∧ k.visits = (p, conv, exc) :: rest) :=
  ⟨⟨st ({ready with cycle := 40000000, bench := {ready.bench with lastEdge := some 5, periods := [1,2]}}.plant F.bnCtrlMains 2), by decide +kernel⟩,
⟨st ({ready with bench := {ready.bench with gapOpen := true, next := 31999990}, cal := {ready.cal with steps := [(8, {cls := 9, inst := 0, start := 0, stop := 0, visits := [(18, 5, 6), (19, 7, 8)]})]}}.plant F.bnCtrlCalslotEn 1),
      {cls := 9, inst := 0, start := 0, stop := 0, visits := [(18, 5, 6), (19, 7, 8)]}, 18, 5, 6, [(19, 7, 8)], by decide +kernel⟩⟩

/-- The hypotheses of Obligations.BenchSettings can be met, clause by clause. -/
theorem witness_BenchSettings :
  (∃ (s : State) (c : Ctx) (n : Fin 32) (v : Nat), Takes s c ∧ v < 2 ^ 32 ∧ n.val < 16 ∧ bitsOf v 7 6 = 1 ∧ bitsOf v 4 2 ≤ 6 ∧ s.dev.fld
    F.bnPtConvCurve n = 0 ∧ s.dev.pointAway c.sess n = false) ∧
  (∃ (s : State) (c : Ctx) (n : Fin 32) (v : Nat), Takes s c ∧ v < 2 ^ 32 ∧ bitsOf v 23 16 ≠ 0 ∧ bitsOf v 15 12 ≤ 8 ∧ bitsOf v 9 8 ≠ 3 ∧ 3
    ≤ v % 32 ∧ bitsOf v 29 24 = 0 ∧ s.dev.pointAway c.sess n = false) ∧
  (∃ (s : State) (c : Ctx) (v : Nat), Takes s c ∧ v < 2 ^ 32 ∧ bitsOf v 23 16 = 0) ∧
  (∃ (s : State) (c : Ctx) (n : Nat) (k : Nat), Takes s c ∧ 1 ≤ n ∧ n ≤ 4096 ∧ k = min n (((s.dev.reg .bnRingWr).toNat + 4096 - (s.dev.reg
    .bnRingRd).toNat) % 4096)) ∧
  (∃ (s : State) (c : Ctx) (img : List Byte), Takes s c ∧ 32 ≤ img.length ∧ img.length = 32 + 16 * fieldB img 4 2 ∧ curveFault img = none
    ∧ s.dev.flag F.calCtrlSeal = false ∧ s.dev.flag F.bnCtrlRun = false ∧ s.dev.flag F.thStatusPlateOk = true ∧ s.dev.flag
    F.secStatusDrbgOk = true) ∧
  (∃ (s : State) (c : Ctx) (n : Nat) (b : List Byte) (x : List Byte), Takes s c ∧ 32 ≤ n ∧ n < 64 ∧ s.dev.plateOf (256 + n) = some b ∧
    s.dev.sealOf (256 + n) = some x) :=
  ⟨⟨st ready, host, 15, 0xFFFFFF58, by decide +kernel⟩,
   ⟨st ready, host, 31, 0xC0FF8CE3, by decide +kernel⟩,
   ⟨st ready, host, 0xC0008CE3, by decide +kernel⟩,
   ⟨st ({ready with bench := {ready.bench with ring := [(4095, List.replicate 16 7)]}}.putReg .bnRingRd 4095 |>.putReg .bnRingWr 3),
      hostAck, 4096, 4, by decide +kernel⟩,
   ⟨st ((ready.plant F.thStatusPlateOk 1).plant F.secStatusDrbgOk 1), host, curveImg, by decide +kernel⟩,
   ⟨st {ready with plate := [(256+63, [1,2])], seals := [(256+63, [3])]}, host, 63, [1,2], [3], by decide +kernel⟩⟩

end F05

namespace F06
def slotDev : Device := {((ready.putReg .calPeriod 1 0)) with offers := [{k := 5, lo := 31000000, hi := 64000000, next := 31990000}], cal := {ready.cal with marks := [calKey 0 5]}}
def vOf (d : Device) (k : CalStep) (m : CalMeas) : List Rat := (List.range (d.calForce k.cls k.inst).length).map fun i =>
      if k.cls = 11 ∧ i = 4 then (d.calForce k.cls k.inst).getD i 0 else calRound k.cls (m.m.getD i ((d.calForce k.cls k.inst).getD i 0))
def calDone (l : Nat) : Device := {(ready.plant F.calLimitLimit l 0) with offers := [{k := 5, lo := 31000000, hi := 64000000, next := 31990000}], cal := {ready.cal with steps := [(0, {cls := 0, inst := 5, start := 31990000, stop := 32000000, limit := l})], marks := [calKey 0 5, calKey 0 6]}}

/-- The hypotheses of Obligations.CalibrationSteps can be met, clause by clause. -/
theorem witness_CalibrationSteps_1 :
  (∃ (s : State) (n : Fin 9) (o : Slot) (cls : Nat) (inst : Nat), Runs s ∧ n.val < 8 ∧ sfind s.dev.cal.steps n = none ∧ s.dev.stepSlot n =
    some (o, cls, inst)) ∧
  (∃ (s : State) (k : CalStep), Runs s ∧ sfind s.dev.cal.steps 8 = none ∧ s.dev.benchStep = some k) ∧
  (∃ (s : State) (n : Fin 9) (m : CalMeas) (k : CalStep) (v : List Rat) (i : Nat), Runs s ∧ s.dev.stepEnded n = some k ∧ k.cls < 13 ∧ v =
    ((List.range (s.dev.calForce k.cls k.inst).length).map fun i => if k.cls = 11 ∧ i = 4 then (s.dev.calForce k.cls k.inst).getD i 0 else
    calRound k.cls (m.m.getD i ((s.dev.calForce k.cls k.inst).getD i 0))) ∧ calTooFar k.cls k.limit v (s.dev.calForce k.cls k.inst) = some
    i) ∧
  (∃ (s : State) (n : Fin 9) (m : CalMeas) (k : CalStep) (v : List Rat), Runs s ∧ s.dev.stepEnded n = some k ∧ k.cls < 13 ∧ v =
    ((List.range (s.dev.calForce k.cls k.inst).length).map fun i => if k.cls = 11 ∧ i = 4 then (s.dev.calForce k.cls k.inst).getD i 0 else
    calRound k.cls (m.m.getD i ((s.dev.calForce k.cls k.inst).getD i 0))) ∧ calTooFar k.cls k.limit v (s.dev.calForce k.cls k.inst) =
    none) ∧
  (∃ (s : State) (n : Nat), Runs s ∧ n < 13 ∧ bitOf (s.dev.reg .calDue).toNat n = false ∧ s.dev.calLate n = true) ∧
  (∃ (s : State), Runs s ∧ s.dev.cal.periodAt + (s.dev.reg .calCommitper).toNat * 500000000 ≤ s.dev.cycle ∧ s.dev.cal.changed = []) :=
  ⟨⟨st slotDev, 0, {k := 5, lo := 31000000, hi := 64000000, next := 31990000}, 0, 5, by decide +kernel⟩,
   ⟨st ({ready with bench := {ready.bench with gapOpen := true}, cal := {ready.cal with xfer := [(1,2,3)]}}.plant F.bnCtrlCalslotEn 1),
      ({ready with bench := {ready.bench with gapOpen := true}, cal := {ready.cal with xfer := [(1,2,3)]}}.plant F.bnCtrlCalslotEn 1).benchStep.getD {cls := 0, inst := 0, start := 0, stop := 0},
      by decide +kernel⟩,
   ⟨st (calDone 3), 0, ⟨[4], 0, 0⟩, {cls := 0, inst := 5, start := 31990000, stop := 32000000, limit := 3},
      vOf ((calDone 3)) {cls := 0, inst := 5, start := 31990000, stop := 32000000, limit := 3} ⟨[4], 0, 0⟩, 0, by decide +kernel⟩,
   ⟨st (calDone 5), 0, ⟨[4], 0, 0⟩, {cls := 0, inst := 5, start := 31990000, stop := 32000000, limit := 5},
      vOf ((calDone 5)) {cls := 0, inst := 5, start := 31990000, stop := 32000000, limit := 5} ⟨[4], 0, 0⟩, by decide +kernel⟩,
   ⟨st {(ready.putReg .calDue 1) with tb := {ready.tb with offset := 2679000 * 2^64}}, 12, by decide +kernel⟩,
   ⟨st {(ready.putReg .calCommitper 1) with cycle := 500000000}, by decide +kernel⟩⟩

/-- The hypotheses of Obligations.CalibrationSteps can be met, clause by clause. -/
theorem witness_CalibrationSteps_2 :
  (∃ (s : State), Runs s ∧ s.dev.cal.periodAt + (s.dev.reg .calCommitper).toNat * 500000000 ≤ s.dev.cycle ∧ s.dev.cal.changed ≠ [] ∧
    s.dev.flag F.thStatusPlateOk = false) :=
  ⟨st {(ready.putReg .calCommitper 1) with cycle := 500000000, cal := {ready.cal with changed := [3]}}, by decide +kernel⟩

/-- The hypotheses of Obligations.CalibrationCommands can be met, clause by clause. -/
theorem witness_CalibrationCommands_1 :
  (∃ (s : State) (c : Ctx) (v : Nat), Takes s c ∧ v < 2 ^ 32 ∧ s.dev.flag F.calCtrlSeal = false ∧ 10 ^ 9 ≤ (s.dev.reg .calRefvLo).toNat +
    2 ^ 32 * v ∧ (s.dev.reg .calRefvLo).toNat + 2 ^ 32 * v ≤ 5 * 10 ^ 9) ∧
  (∃ (s : State) (c : Ctx), Takes s c ∧ s.dev.flag F.calCtrlSeal = false) ∧
  (∃ (s : State) (c : Ctx) (n : Nat), Takes s c ∧ n < 16 ∧ s.dev.flag F.calCtrlSeal = false ∧ s.dev.flag F.thStatusPlateOk = true) ∧
  (∃ (s : State) (c : Ctx) (n : Nat), Takes s c ∧ n < 16 ∧ s.dev.flag F.calCtrlSeal = true) ∧
  (∃ (s : State) (c : Ctx) (n : Nat) (b : List Byte) (x : List Byte), Takes s c ∧ n < 8 ∧ s.dev.plateOf n = some b ∧ s.dev.sealOf n = some
    x) ∧
  (∃ (s : State) (c : Ctx) (mask : Nat) (first : Nat) (last : Nat), Takes s c ∧ mask < 2 ^ 13 ∧ first ≤ last) :=
  ⟨⟨st (ready.putReg .calRefvLo 705032704), host, 1, by decide +kernel⟩,
   ⟨st ready, host, by decide +kernel⟩,
   ⟨st (ready.plant F.thStatusPlateOk 1), host, 15, by decide +kernel⟩,
   ⟨st (ready.plant F.calCtrlSeal 1), host, 15, by decide +kernel⟩,
   ⟨st {ready with plate := [(7, [1,2])], seals := [(7, [3])]}, host, 7, [1,2], [3], by decide +kernel⟩,
   ⟨st ready, host, 0x1FFF, 2, 5, by decide +kernel⟩⟩

/-- The hypotheses of Obligations.CalibrationCommands can be met, clause by clause. -/
theorem witness_CalibrationCommands_2 :
  (∃ (s : State) (c : Ctx) (mask : Nat) (n : Nat), Takes s c ∧ s.dev.cal.changed = [n] ∧ bitOf mask n = true ∧ s.dev.flag
    F.thStatusPlateOk = true) ∧
  (∃ (s : State) (c : Ctx) (n : Nat) (t : Nat), Takes s c ∧ n < 8 ∧ 0 < t ∧ t < 2 ^ 32 ∧ s.dev.flag F.calCtrlSeal = false ∧ s.dev.reg
    .calTpoint 0 n = 0 ∧ (∀ x ∈ s.dev.calSets, t + 1000 < x.1 ∨ x.1 + 1000 < t) ∧ s.dev.flag F.thStatusPlateOk = true) ∧
  (∃ (s : State) (k : CalStep), Runs s ∧ s.dev.stepEnded 8 = some k ∧ k.cls = 13) ∧
  (∃ (s : State) (k : CalStep), Runs s ∧ s.dev.stepEnded 8 = some k ∧ k.cls = 13) :=
  ⟨⟨st (({ready with cal := {ready.cal with changed := [3]}}.plant F.thStatusPlateOk 1).plant F.secStatusDrbgOk 1 |>.plant F.calStatusCommitPending 1),
      host, 0xFF, 3, by decide +kernel⟩,
   ⟨st ((ready.plant F.thStatusPlateOk 1).plant F.secStatusDrbgOk 1), host, 7, 350000, by decide +kernel⟩,
⟨st {ready with sess := [(0, {isOpen := true})], cal := {ready.cal with steps := [(8, {cls := 13, inst := 5, start := 31990000, stop := 32000000})], xfer := [(1,2,3)]}},
      {cls := 13, inst := 5, start := 31990000, stop := 32000000}, by decide +kernel⟩,
⟨st {ready with sess := [(0, {isOpen := true})], cal := {ready.cal with steps := [(8, {cls := 13, inst := 5, start := 31990000, stop := 32000000})], xfer := [(1,2,3)]}},
      {cls := 13, inst := 5, start := 31990000, stop := 32000000}, by decide +kernel⟩⟩

end F06

namespace F07
/-- Sequencer k about to issue instruction i at address 10, its cursor at t. -/
def atInstr (k : Nat) (i : SeqInstr) (t : Nat := 32001000) (q : Seq := {}) : Device :=
  { (ready.plant F.csSpanHi 100 k).plant F.csSpanLo 3 k with
    seqs := [(k, { q with npc := 10, t := t, issuing := true })], prog := [(32768 * storeOf k + 10, i.encode)] }
def condA : Cond := {ser := 4, gate := false, lanes := [(1023, 2, some {a := 5, state := 1, f := false, rx := 0, reach := 7})], truth := 0, dflt := false, ta := 5}
def blk1 : Blk := { uid := 1, addr := 4, t0 := 31000000, start := 31000000, vec := [], colo := false, upol := true, id := 3, serial := 1, started := true }
def blk2 : Blk := { uid := 1, addr := 4, t0 := 31000000, start := 32000031, vec := [7, 0, 0, 0, 5], colo := false, upol := true, id := 3, serial := 1 }
def segDev (d : Device) : Device := { d with segs := [(4096*63+4095, {state := 3, len := 320}), (4096*63+7, {state := 3, len := 64})] }

/-- The hypotheses of Obligations.ControlInstructions can be met, clause by clause. -/
theorem witness_ControlInstructions_1 :
  (∃ (s : State) (k : Fin 576), Runs s ∧ s.dev.nextInstr k = some .nop) ∧
  (∃ (s : State) (k : Fin 576) (t : Nat), Runs s ∧ s.dev.nextInstr k = some (.goto t)) ∧
  (∃ (s : State) (k : Fin 576) (c : Nat) (n : Nat), Runs s ∧ s.dev.nextInstr k = some (.loop c n)) ∧
  (∃ (s : State) (k : Fin 576) (c : Nat) (t : Nat), Runs s ∧ s.dev.nextInstr k = some (.endl c t)) ∧
  (∃ (s : State) (k : Fin 576) (pol : Bool) (t : Nat), Runs s ∧ s.dev.nextInstr k = some (.jcond pol t) ∧ (s.dev.seq k).cond = none) ∧
  (∃ (s : State) (k : Fin 576) (pol : Bool) (v : Bool) (t : Nat) (c : Cond), Runs s ∧ s.dev.nextInstr k = some (.jcond pol t) ∧ (s.dev.seq
    k).cond = some c ∧ c.v = some v) :=
  ⟨⟨st (atInstr 575 .nop), 575, by decide +kernel⟩,
   ⟨st (atInstr 575 (.goto 77)), 575, 77, by decide +kernel⟩,
   ⟨st (atInstr 575 (.loop 3 16777215)), 575, 3, 16777215, by decide +kernel⟩,
   ⟨st ((atInstr 575 (.endl 3 5)).plant F.csLoopRemain 2 575 3), 575, 3, 5, by decide +kernel⟩,
   ⟨st ((atInstr 575 (.jcond false 50))), 575, false, 50, by decide +kernel⟩,
⟨st ((atInstr 575 (.jcond true 50) 32001000 {cond := some {ser := 1, gate := false, lanes := [], truth := 0, dflt := false, ta := 5, v := some true}})),
      575, true, true, 50, {ser := 1, gate := false, lanes := [], truth := 0, dflt := false, ta := 5, v := some true}, by decide +kernel⟩⟩

/-- The hypotheses of Obligations.ControlInstructions can be met, clause by clause. -/
theorem witness_ControlInstructions_2 :
  (∃ (s : State) (k : Fin 576) (pol : Bool) (t : Nat) (c : Cond), Runs s ∧ s.dev.nextInstr k = some (.jcond pol t) ∧ (s.dev.seq k).cond =
    some c ∧ s.dev.known c (c.tc.getD (s.dev.seq k).t) = false) ∧
  (∃ (s : State) (k : Fin 576) (pol : Bool) (v : Bool) (t : Nat) (a : Nat) (c : Cond) (ws : List DecWord), Runs s ∧ s.dev.nextInstr k =
    some (.jcond pol t) ∧ (s.dev.seq k).cond = some c ∧ c.v = none ∧ c.tc = none ∧ s.dev.known c (s.dev.seq k).t = true ∧ c.judge
    (s.dev.seq k).t s.dev.cycle = (v, false, ws) ∧ (∀ w ∈ ws, w.f = false ∧ w.rx = 0) ∧ (∀ o ∈ (s.dev.seq k).old, o.ser ≠ c.ser) ∧ (∀ x ∈
    (s.dev.port k).voices, x.choice = none) ∧ a = (if v = pol then t else (s.dev.seq k).npc + 1) ∧ s.dev.fetchAt k a = some .nop) ∧
  (∃ (s : State) (k : Fin 576) (an : Bool) (n : Nat), Runs s ∧ s.dev.nextInstr k = some (.wait an n) ∧ (512 ≤ k.val → ∀ c ∈ (s.dev.input
    (k - 512)).caps, c.until_ ≤ (s.dev.seq k).t) ∧ (∀ j : Fin 16, ∀ w ∈ (s.dev.lane (16 * (k - 512) + j)).wins, k.val < 512 ∨ w.w + w.span
    ≤ (s.dev.seq k).t)) ∧
  (∃ (s : State) (k : Fin 576) (an : Bool) (n : Nat), Runs s ∧ s.dev.nextInstr k = some (.wait an n) ∧ 512 ≤ k.val ∧ ((s.dev.input (k -
    512)).caps.any (fun c => decide ((s.dev.seq k).t < c.until_)) = true ∨ ∃ j ∈ List.range 16, ∃ w ∈ (s.dev.lane (16 * (k - 512) +
    j)).wins, (s.dev.seq k).t < w.w + w.span)) ∧
  (∃ (s : State) (k : Fin 576) (lane : Nat) (mask : Nat) (dflt : Bool), Runs s ∧ s.dev.nextInstr k = some (.armdLane lane mask dflt)) ∧
  (∃ (s : State) (k : Fin 576) (g : Nat), Runs s ∧ s.dev.nextInstr k = some (.armdGate g)) :=
  ⟨⟨st (atInstr 575 (.jcond true 50) 32001000 {cond := some {condA with lanes := [(1023, 2, none)]}}), 575, true, 50,
      {condA with lanes := [(1023, 2, none)]}, by decide +kernel⟩,
⟨st ({(atInstr 511 (.jcond true 50) 32001000 {cond := some condA, blk := some {uid := 77, addr := 4, t0 := 31000000, start := 31000000, vec := [], colo := false, upol := true, id := 3, serial := 1, started := true}}) with prog := [(32768 * storeOf 511 + 10, (SeqInstr.jcond true 50).encode), (32768 * storeOf 511 + 50, SeqInstr.nop.encode)]}),
      511, true, true, 50, 50, condA, [{a := 5, state := 1, f := false, rx := 0, reach := 7}], by decide +kernel⟩,
   ⟨st ((atInstr 575 (.wait false 640) 32001000 {bounds := [5, 32000000, 32000990]})), 575, false, 640, by decide +kernel⟩,
⟨st ({atInstr 575 (.wait true 320000) 32001000 with inputs := [(63, {caps := [{start := 5, len := 2, serial := 0, refused := false, engine := none, late := 0, isOpen := true, stop := 33000000}]})]}),
      575, true, 320000, by decide +kernel⟩,
   ⟨st ((atInstr 575 (.armdLane 1023 7 true) 32001000 {condSer := 4})), 575, 1023, 7, true, by decide +kernel⟩,
   ⟨st ((atInstr 575 (.armdGate 3) 32001000 {condSer := 4}).plant F.csGateCtrlTruth 0xABCD 575 3), 575, 3, by decide +kernel⟩⟩

/-- The hypotheses of Obligations.BlockInstructions can be met, clause by clause. -/
theorem witness_BlockInstructions :
  (∃ (s : State) (k : Fin 576) (cls : Nat) (ess : Bool) (colo : Bool) (upol : Bool) (event : Bool) (ec : Nat) (id : Nat), Runs s ∧
    s.dev.nextInstr k = some (.block cls ess colo upol event ec id) ∧ (s.dev.seq k).altOf = none ∧ ((s.dev.seq k).blk.any fun b =>
    b.underrun && b.upol) = false ∧ (∀ x ∈ s.dev.namedSegs k (s.dev.seq k).npc, (s.dev.seg (k / 8) x.1).state = 3)) ∧
  (∃ (s : State) (k : Fin 576) (cls : Nat) (ess : Bool) (colo : Bool) (upol : Bool) (event : Bool) (ec : Nat) (id : Nat) (b : Blk), Runs s
    ∧ s.dev.nextInstr k = some (.block cls ess colo upol event ec id) ∧ (s.dev.seq k).altOf = none ∧ (s.dev.seq k).blk = some b ∧
    b.underrun = true ∧ b.upol = true) ∧
  (∃ (s : State) (k : Fin 576) (b : Blk), Runs s ∧ s.dev.nextInstr k = some .endB ∧ (s.dev.seq k).blk = some b ∧ (s.dev.seq k).altOf =
    none) ∧
  (∃ (s : State) (k : Fin 576) (b : Blk), Runs s ∧ s.dev.nextInstr k = some .yieldB ∧ (s.dev.seq k).blk = some b ∧ (s.dev.seq k).altOf =
    none) ∧
  (∃ (s : State) (k : Fin 576) (b : Blk) (a : Nat), Runs s ∧ s.dev.nextInstr k = some .yieldB ∧ (s.dev.seq k).blk = some b ∧ (s.dev.seq
    k).altOf = some a ∧ (b.underrun && b.upol) = false ∧ s.dev.inSpan k a = true ∧ (∀ x ∈ s.dev.namedSegs k a, (s.dev.seg (k / 8)
    x.1).state = 3)) ∧
  (∃ (s : State) (k : Fin 576) (a : Nat), Runs s ∧ (s.dev.seq k).represent = some a ∧ (s.dev.seq k).final = none ∧ (s.dev.seq k).t ≤
    s.dev.issueIndex + 8192 ∧ s.dev.inSpan k a = true ∧ (∀ x ∈ s.dev.namedSegs k a, (s.dev.seg (k / 8) x.1).state = 3)) :=
  ⟨⟨st (atInstr 575 (.block 2 true true true true 255 511)), 575, 2, true, true, true, true, 255, 511, by decide +kernel⟩,
⟨st (atInstr 575 (.block 2 true true true true 255 511) 32001000 {blk := some {uid := 1, addr := 4, t0 := 31000000, start := 31000000, vec := [], colo := false, upol := true, id := 3, serial := 1, underrun := true}}),
      575, 2, true, true, true, true, 255, 511,
      {uid := 1, addr := 4, t0 := 31000000, start := 31000000, vec := [], colo := false, upol := true, id := 3, serial := 1, underrun := true},
      by decide +kernel⟩,
   ⟨st (atInstr 575 .endB 32001000 {blk := some blk1}), 575, blk1, by decide +kernel⟩,
   ⟨st (atInstr 575 .yieldB 32001000 {blk := some blk1}), 575, blk1, by decide +kernel⟩,
   ⟨st (atInstr 575 .yieldB 32001000 {blk := some blk1, altOf := some 6}), 575, blk1, 6, by decide +kernel⟩,
   ⟨st (atInstr 575 .nop 32008864 {represent := some 6}), 575, 6, by decide +kernel⟩⟩

/-- The hypotheses of Obligations.BlockLifecycle can be met, clause by clause. -/
theorem witness_BlockLifecycle :
  (∃ (s : State) (k : Fin 576) (b : Blk), Runs s ∧ (s.dev.seq k).blk = some b ∧ (s.dev.seq k).ending = [] ∧ b.started = false ∧ b.start <
    s.dev.ssi + 32 ∧ (s.dev.seq k).pres = none ∧ (s.dev.seq k).represent = none ∧ s.dev.fld F.csStatusState k = 3) ∧
  (∃ (s : State) (k : Fin 576) (r : Nat) (tgt : Nat) (b : Nat), Runs s ∧ k.val < 512 ∧ (s.dev.seq k).jump = some (r, tgt, []) ∧ (s.dev.seq
    k).bounds = [b] ∧ r + 64 < b ∧ s.dev.reach ≤ b ∧ b ≤ s.dev.issueIndex + 8192 ∧ (s.dev.seq k).blk = none ∧ (s.dev.seq k).ending = [] ∧
    (s.dev.seq k).pres = none ∧ (s.dev.seq k).represent = none ∧ (s.dev.seq k).altOf = none ∧ s.dev.offers = [] ∧ s.dev.inSpan k tgt =
    true ∧ s.dev.namedSegs k tgt = []) ∧
  (∃ (s : State) (k : Fin 576) (b : Blk) (e : Nat), Runs s ∧ k.val < 512 ∧ (s.dev.seq k).ending = [b] ∧ b.underrun = true ∧ b.upol = true
    ∧ b.stop = some e ∧ b.start < e ∧ (s.dev.seq k).final = none ∧ s.dev.gangMates k = [] ∧ s.dev.offers = [] ∧ (s.dev.seq k).pres = none
    ∧ (s.dev.seq k).represent = none ∧ (s.dev.seq k).altOf = none ∧ (s.dev.seq k).blk = none) :=
  ⟨⟨st (((atInstr 575 .nop 32001000 {blk := some blk2}).plant F.csStatusState 3 575).plant F.budCfgEn 1 0), 575, blk2, by decide +kernel⟩,
⟨st {atInstr 511 .nop 32001000 {jump := some (5, 7, []), bounds := [32000736]} with ports := [(511, {voices := [{voice := 1, stream := false, seg := 0, start := 32000736, len := 4, reach := 0, gain := 1}]})]},
      511, 5, 7, 32000736, by decide +kernel⟩,
   ⟨st (atInstr 511 .nop 32001000 {ending := [{blk1 with underrun := true, stop := some 32000000}]}), 511,
      {blk1 with underrun := true, stop := some 32000000}, 32000000, by decide +kernel⟩⟩

/-- The hypotheses of Obligations.OutputInstructions can be met, clause by clause. -/
theorem witness_OutputInstructions_1 :
  (∃ (s : State) (k : Fin 512) (c : Nat) (f : Nat), Runs s ∧ s.dev.nextInstr k = some (.setf c f)) ∧
  (∃ (s : State) (k : Fin 512) (c : Nat) (ph : Nat) (add : Bool), Runs s ∧ s.dev.nextInstr k = some (.setp c add ph)) ∧
  (∃ (s : State) (k : Fin 512) (kind : Nat) (v : Nat), Runs s ∧ s.dev.nextInstr k = some (.setport kind v)) ∧
  (∃ (s : State) (k : Fin 512), Runs s ∧ s.dev.nextInstr k = some .strobe) ∧
  (∃ (s : State) (k : Fin 576) (o : Nat), Runs s ∧ s.dev.nextInstr k = some (.emit o) ∧ s.dev.reach ≤ (s.dev.seq k).t) ∧
  (∃ (s : State) (k : Fin 576) (o : Nat), Runs s ∧ s.dev.nextInstr k = some (.emit o) ∧ (s.dev.seq k).t < s.dev.reach) :=
  ⟨⟨st (atInstr 511 (.setf 31 0xFFFFFFFFFFFF) 32000736), 511, 31, 0xFFFFFFFFFFFF, by decide +kernel⟩,
   ⟨st (atInstr 511 (.setp 31 true 0xFFFFFFFFFFFF) 32000736), 511, 31, 0xFFFFFFFFFFFF, true, by decide +kernel⟩,
   ⟨st (atInstr 511 (.setport 1 0xFFFFF) 32000736), 511, 1, 0xFFFFF, by decide +kernel⟩,
   ⟨st (atInstr 511 .strobe 32000736), 511, by decide +kernel⟩,
   ⟨st (atInstr 575 (.emit 3) 32000736), 575, 3, by decide +kernel⟩,
   ⟨st (atInstr 575 (.emit 3) 32000735), 575, 3, by decide +kernel⟩⟩

/-- The hypotheses of Obligations.OutputInstructions can be met, clause by clause. -/
theorem witness_OutputInstructions_2 :
  (∃ (s : State) (k : Fin 512) (bit : Nat) (ofs : Nat) (n : Nat) (x : Nat), Runs s ∧ s.dev.nextInstr k = some (.mark bit ofs n) ∧ 0 < n ∧
    x = (s.dev.seq k).t + ofs ∧ s.dev.reach < x + n) ∧
  (∃ (s : State) (k : Fin 512) (bit : Nat) (ofs : Nat) (n : Nat) (x : Nat), Runs s ∧ s.dev.nextInstr k = some (.mark bit ofs n) ∧ x =
    (s.dev.seq k).t + ofs ∧ x + n ≤ s.dev.reach) ∧
  (∃ (s : State) (k : Fin 512) (adv : Bool) (voice : Nat) (sg : Nat) (gain : Nat), Runs s ∧ s.dev.nextInstr k = some (.play adv voice sg
    gain)) ∧
  (∃ (s : State) (k : Fin 512) (adv : Bool) (voice : Nat) (ring : Nat) (gain : Nat) (n : Nat), Runs s ∧ s.dev.nextInstr k = some (.stream
    adv voice ring gain n)) ∧
  (∃ (s : State) (k : Fin 512) (adv : Bool) (voice : Nat) (a : Nat) (b : Nat) (gain : Nat), Runs s ∧ s.dev.nextInstr k = some (.cplay adv
    voice a b gain) ∧ (s.dev.seq k).cond = none) ∧
  (∃ (s : State) (k : Fin 512) (adv : Bool) (v : Bool) (voice : Nat) (a : Nat) (b : Nat) (gain : Nat) (c : Cond), Runs s ∧ s.dev.nextInstr
    k = some (.cplay adv voice a b gain) ∧ (s.dev.seq k).cond = some c ∧ c.v = some v ∧ c.tc.isSome = true ∧ (∀ w ∈ (s.dev.port k).voices,
    w.choice = none)) :=
  ⟨⟨st (atInstr 511 (.mark 1 5 9) 32000731), 511, 1, 5, 9, 32000736, by decide +kernel⟩,
   ⟨st (atInstr 511 (.mark 1 5 9) 32000022), 511, 1, 5, 9, 32000027, by decide +kernel⟩,
   ⟨st (segDev (atInstr 511 (.play true 15 4095 0x8000) 32000736)), 511, true, 15, 4095, 0x8000, by decide +kernel⟩,
   ⟨st (segDev (atInstr 511 (.stream false 15 15 0x8000 9) 32000736)), 511, false, 15, 15, 0x8000, 9, by decide +kernel⟩,
   ⟨st (segDev (atInstr 511 (.cplay true 15 4095 7 0x8000) 32000736)), 511, true, 15, 4095, 7, 0x8000, by decide +kernel⟩,
⟨st (segDev (atInstr 511 (.cplay true 15 4095 7 0x7FFF) 32000736 {cond := some {ser := 1, gate := false, lanes := [], truth := 0, dflt := false, ta := 5, tc := some 9, v := some false}})),
      511, true, false, 15, 4095, 7, 0x7FFF,
      {ser := 1, gate := false, lanes := [], truth := 0, dflt := false, ta := 5, tc := some 9, v := some false}, by decide +kernel⟩⟩

end F07

namespace F08
def segD : Device := { ready with
  segs := [(4096 * 63 + 5, { state := 3, home := 2, lib := some 7, len := 64, m := 64, sq := 9, loadser := 1 }), (4096 * 63 + 9, { state := 3, home := 8, len := 64, m := 64 }), (4096*63+4095, {state := 1, home := 30, lib := some 9, len := 64, m := 64})]
  galley := [(galByte 63 0 + 5, 7), (galByte 63 1, 9), (galByte 63 30 + 1, 3), (galByte 63 31 + 1, 3), (galByte 63 31 + 2, 128)] }.plant F.galCtrlRingBase 3 63
def sampleData : List Byte := (List.range 256).map fun i => BitVec.ofNat 8 (i * 7)
def libB : List Byte := headerBytes ⟨64, 0, 0, 64⟩ 0 5 0
def portD : Device := { segD with ports := [(504, {staged := [⟨32000000, 0, 0x111⟩, ⟨32000001, 1, 9⟩, ⟨7, 3, 5⟩, ⟨9, 2, 37⟩]}), (503, {mode := 0x111}), (511, {mode := 0x111, staged := [⟨5, 0, 0⟩]})] }
def sessD (d : Device) : Device := { d with sess := [(3, { isOpen := true, via := 0, keys := (List.range 72).map fun i => BitVec.ofNat 8 i })] }
def refillHead (f n count pos : Nat) : List Byte := leBytes 2 0x0407 ++ leBytes 1 3 ++ leBytes 1 f ++ leBytes 1 n ++ leBytes 1 count ++ leBytes 2 0 ++ leBytes 4 pos ++ zeros 20
def refillRaw (d : Device) (h body : List Byte) : RawPacket :=
  let x := d.session 3
  { via := 0, vc := 2, header := h, body := body, tag := gcmTag (x.key 0) (x.iv 0 2 0) h body, sigOk := true }
def ringD : Device := sessD (((segD.plant F.galRingEn 1 63 15).plant F.galRingBase 4096 63 15).putReg .galRingWr 960 63 15 |>.putReg .galRingRd 64 63 15)

/-- The hypotheses of Obligations.SegmentCommands can be met, clause by clause. -/
theorem witness_SegmentCommands_1 :
  (∃ (s : State) (c : Ctx) (f : Nat) (n : Nat) (home : Nat) (h : SegHead) (data : List Byte), Takes s c ∧ s.dev.memWf = true ∧ f < 64 ∧ n
    < 4096 ∧ h.kind ≤ 1 ∧ data.length = h.m * sampleBytes h.kind ∧ h.len % 32 = 0 ∧ 64 ≤ h.len ∧ h.len < 2 ^ 32 ∧ h.rate ≤ 255 * 2 ^ 24 ∧
    h.m = envSamples h.len h.rate ∧ home + segLines h.m h.kind ≤ s.dev.segArea f ∧ s.dev.formeWritable f c.sess = true ∧ s.dev.pinned f n
    = false ∧ s.dev.pinnedOver f n home (segLines h.m h.kind) = false ∧ n ∉ (s.dev.forme f).fetchq) ∧
  (∃ (s : State) (c : Ctx) (line : Nat) (h : SegHead) (data : List Byte), Takes s c ∧ h.kind ≤ 1 ∧ data.length = h.m * sampleBytes h.kind
    ∧ h.len % 32 = 0 ∧ 64 ≤ h.len ∧ h.len < 2 ^ 32 ∧ h.rate ≤ 255 * 2 ^ 24 ∧ h.m = envSamples h.len h.rate ∧ line + segLines h.m h.kind ≤
    dramLines ∧ s.dev.flag F.memStatusFrozen = false ∧ s.dev.mc.setclass = none) ∧
  (∃ (s : State) (c : Ctx) (f : Nat) (n : Nat) (home : Nat) (line : Nat), Takes s c ∧ f < 64 ∧ n < 4096 ∧ home < 32768 ∧ line < dramLines
    ∧ s.dev.formeWritable f c.sess = true ∧ s.dev.pinned f n = false ∧ s.dev.flag F.memStatusFrozen = false ∧ s.dev.mc.setclass = none ∧
    (∀ e ∈ s.dev.mc.merge, e.line ≠ line)) ∧
  (∃ (d : Device) (t : Nat) (f : Nat) (n : Nat) (home : Nat) (line : Nat) (b : List Byte) (h : SegHead), libHead b = h ∧ f < 64 ∧ n < 4096
    ∧ home < 32768 ∧ line + segLines h.m h.kind ≤ dramLines ∧ d.formeWritable f t = true ∧ d.pinned f n = false ∧ d.flag F.memStatusFrozen
    = false ∧ d.mc.setclass = none ∧ libFault b = none ∧ d.homeOk f home h = true) ∧
  (∃ (s : State) (c : Ctx) (f : Nat) (n : Nat), Takes s c ∧ f < 64 ∧ n < 4096 ∧ s.dev.formeWritable f c.sess = true ∧ (s.dev.seg f
    n).state = 1) ∧
  (∃ (s : State) (c : Ctx) (f : Nat) (n : Nat), Takes s c ∧ f < 64 ∧ n < 4096 ∧ s.dev.formeWritable f c.sess = true ∧ (s.dev.seg f
    n).state = 0) :=
  ⟨⟨st segD, hostAck, 63, 4095, 1, ⟨64, 0, 0, 64⟩, sampleData, by decide +kernel⟩,
   ⟨st segD, host, dramLines - 9, ⟨64, 0, 0, 64⟩, sampleData, by decide +kernel⟩,
   ⟨st segD, hostAck, 63, 4095, 32767, dramLines - 1, by decide +kernel⟩,
   ⟨segD, 3, 63, 4095, 1, dramLines - 9, libB, ⟨64, 0, 0, 64⟩, by decide +kernel⟩,
   ⟨st segD, host, 63, 4095, by decide +kernel⟩,
   ⟨st segD, host, 63, 4094, by decide +kernel⟩⟩

/-- The hypotheses of Obligations.SegmentCommands can be met, clause by clause. -/
theorem witness_SegmentCommands_2 :
  (∃ (s : State) (c : Ctx) (f : Nat) (n : Nat), Takes s c ∧ f < 64 ∧ n < 4096 ∧ s.dev.formeWritable f c.sess = true ∧ s.dev.pinned f n =
    false ∧ n ∉ (s.dev.forme f).fetchq) ∧
  (∃ (s : State) (c : Ctx) (f : Nat) (n : Nat), Takes s c ∧ f < 64 ∧ n < 4096) :=
  ⟨⟨st segD, host, 63, 4095, by decide +kernel⟩,
   ⟨st segD, host, 63, 4095, by decide +kernel⟩⟩

/-- The hypotheses of Obligations.FetchesAndSplit can be met, clause by clause. -/
theorem witness_FetchesAndSplit :
  (∃ (s : State) (f : Fin 64) (n : Nat) (rest : List Nat), Runs s ∧ (s.dev.forme f).fetchq = n :: rest ∧ (s.dev.forme f).busy = false ∧
    s.dev.flag F.memStatusFrozen = false ∧ s.dev.rewriting ((s.dev.seg f n).lib.getD 0) (segLines (s.dev.seg f n).m (s.dev.seg f n).kind)
    = false ∧ s.dev.pinnedOver f n (s.dev.seg f n).home (segLines (s.dev.seg f n).m (s.dev.seg f n).kind) = true) ∧
  (∃ (s : State) (f : Fin 64) (n : Nat) (lib : Nat) (rest : List Nat), Runs s ∧ (s.dev.forme f).fetchq = n :: rest ∧ (s.dev.forme f).busy
    = false ∧ s.dev.flag F.memStatusFrozen = false ∧ (s.dev.seg f n).lib = some lib ∧ s.dev.rewriting lib (segLines (s.dev.seg f n).m
    (s.dev.seg f n).kind) = false ∧ s.dev.pinnedOver f n (s.dev.seg f n).home (segLines (s.dev.seg f n).m (s.dev.seg f n).kind) = false) ∧
  (∃ (s : State) (f : Fin 64) (n : Nat) (rest : List Nat), Runs s ∧ (s.dev.forme f).fetchq = n :: rest ∧ (s.dev.forme f).busy = true ∧
    (s.dev.forme f).left = 0 ∧ s.dev.flag F.memStatusFrozen = false) ∧
  (∃ (s : State) (c : Ctx) (f : Fin 64) (v : Nat), Takes s c ∧ bitsOf v 5 0 ≤ 32 ∧ s.dev.formeWritable f c.sess = true ∧ (∀ m : Fin 8,
    s.dev.seqQuiet (8 * f.val + m.val) = true) ∧ (∀ n : Fin 16, s.dev.flag F.galRingEn f n = false)) ∧
  (∃ (s : State) (c : Ctx) (f : Fin 64) (v : Nat), Takes s c ∧ 32 < bitsOf v 5 0 ∧ s.dev.formeWritable f c.sess = true) :=
  ⟨⟨st { segD with formes := [(63, {fetchq := [4095, 2], pins := [(9, 504)]})], segs := [(4096 * 63 + 9, { state := 3, home := 38, len := 64, m := 64 }), (4096*63+4095, {state := 2, home := 30, lib := some 9, len := 64, m := 64})]},
      63, 4095, [2], by decide +kernel⟩,
   ⟨st { segD with formes := [(63, {fetchq := [4095, 2], pins := [(9, 504)]})]}, 63, 4095, 9, [2], by decide +kernel⟩,
   ⟨st { segD with formes := [(63, {fetchq := [4095, 2], busy := true})]}, 63, 4095, [2], by decide +kernel⟩,
   ⟨st segD, host, 63, 0, by decide +kernel⟩,
   ⟨st segD, host, 63, 33, by decide +kernel⟩⟩

def lit0 : RawPacket :=
  ⟨0, 2, (bytes [7, 4, 3, 63, 15, 2, 0, 0, 0, 0, 0, 0, 0, 0, 0, 0, 0, 0, 0, 0, 0, 0, 0, 0, 0, 0, 0, 0, 0, 0, 0, 0]), (zeros 0), (bytes
    [108, 26, 254, 3, 83, 225, 63, 163, 133, 0, 214, 118, 144, 61, 217, 41]), true⟩

def lit1 : Refill :=
  ⟨3, 63, 15, 2, 0, true, (zeros 0)⟩

def lit2 : RawPacket :=
  ⟨0, 2, (bytes [7, 4, 3, 63, 15, 2, 0, 0, 192, 3, 0, 0, 0, 0, 0, 0, 0, 0, 0, 0, 0, 0, 0, 0, 0, 0, 0, 0, 0, 0, 0, 0]), (bytes [0, 7, 14,
    21, 28, 35, 42, 49, 56, 63, 70, 77, 84, 91, 98, 105, 112, 119, 126, 133, 140, 147, 154, 161, 168, 175, 182, 189, 196, 203, 210, 217,
    224, 231, 238, 245, 252, 3, 10, 17, 24, 31, 38, 45, 52, 59, 66, 73, 80, 87, 94, 101, 108, 115, 122, 129, 136, 143, 150, 157, 164,
    171, 178, 185]), (bytes [5, 230, 3, 84, 125, 219, 87, 135, 254, 137, 250, 202, 32, 100, 85, 57]), true⟩

def lit3 : Refill :=
  ⟨3, 63, 15, 2, 960, true, (bytes [54, 53, 200, 133, 125, 23, 9, 106, 229, 102, 154, 179, 199, 41, 97, 18, 239, 81, 42, 113, 126, 187,
    24, 39, 40, 43, 133, 182, 153, 125, 46, 182, 101, 137, 25, 110, 98, 249, 33, 14, 183, 97, 170, 63, 180, 80, 171, 169, 17, 103, 247,
    45, 94, 78, 167, 196, 34, 9, 137, 32, 243, 106, 4, 12])⟩

def lit4 : RawPacket :=
  ⟨0, 2, (bytes [7, 4, 3, 63, 15, 2, 0, 0, 192, 3, 0, 0, 0, 0, 0, 0, 0, 0, 0, 0, 0, 0, 0, 0, 0, 0, 0, 0, 0, 0, 0, 0]), (bytes [0, 7, 14,
    21, 28, 35, 42, 49, 56, 63, 70, 77, 84, 91, 98, 105, 112, 119, 126, 133, 140, 147, 154, 161, 168, 175, 182, 189, 196, 203, 210, 217,
    224, 231, 238, 245, 252, 3, 10, 17, 24, 31, 38, 45, 52, 59, 66, 73, 80, 87, 94, 101, 108, 115, 122, 129, 136, 143, 150, 157, 164,
    171, 178, 185]), (zeros 16), true⟩

/-- The hypotheses of Obligations.StreamRings can be met, clause by clause. -/
theorem witness_StreamRings_1 :
  (∃ (s : State) (c : Ctx) (f : Fin 64) (n : Fin 16) (v : Nat), Takes s c ∧ s.dev.formeWritable f c.sess = true ∧ s.dev.flag F.galRingEn f
    n = false ∧ v ≤ 255 * 2 ^ 24) ∧
  (∃ (s : State) (c : Ctx) (f : Fin 64) (n : Fin 16) (v : Nat), Takes s c ∧ s.dev.formeWritable f c.sess = true ∧ s.dev.flag F.galRingEn f
    n = false ∧ v < 2 ^ 32 ∧ bitOf v 31 = true ∧ bitsOf v 29 26 ≤ 9 ∧ bitsOf v 25 22 ≤ 10 ∧ bitsOf v 14 0 % (32 * 2 ^ bitsOf v 29 26) = 0
    ∧ s.dev.segArea f ≤ bitsOf v 14 0 ∧ bitsOf v 14 0 + 32 * 2 ^ bitsOf v 29 26 ≤ 32768 ∧ (∀ m : Fin 16, m ≠ n → s.dev.flag F.galRingEn f
    m = true → overlap (bitsOf v 14 0) (32 * 2 ^ bitsOf v 29 26) (s.dev.fld F.galRingBase f m) (s.dev.ringLines f m) = false)) ∧
  (∃ (s : State) (c : Ctx) (f : Fin 64) (n : Fin 16) (v : Nat), Takes s c ∧ s.dev.formeWritable f c.sess = true ∧ s.dev.flag F.galRingEn f
    n = false ∧ v < 2 ^ 32 ∧ bitOf v 31 = false ∧ bitsOf v 29 26 ≤ 9 ∧ bitsOf v 25 22 ≤ 10 ∧ bitsOf v 14 0 % (32 * 2 ^ bitsOf v 29 26) = 0
    ∧ s.dev.segArea f ≤ bitsOf v 14 0 ∧ bitsOf v 14 0 + 32 * 2 ^ bitsOf v 29 26 ≤ 32768) ∧
  (∃ (s : State) (c : Ctx) (f : Fin 64) (n : Fin 16) (v : Nat), Takes s c ∧ s.dev.formeWritable f c.sess = true ∧ s.dev.flag F.galRingEn f
    n = true ∧ BitVec.ofNat 32 v &&& 0xFFC07FFF = s.dev.reg .galRing f n &&& 0x7FFFFFFF ∧ s.dev.ringActive f n = false) ∧
  (∃ (s : State) (c : Ctx) (f : Fin 64) (n : Fin 16) (v : Nat), Takes s c ∧ s.dev.formeWritable f c.sess = true ∧ s.dev.flag F.galRingEn f
    n = true ∧ BitVec.ofNat 32 v &&& 0xFFC07FFF ≠ s.dev.reg .galRing f n &&& 0x7FFFFFFF) ∧
  (∃ (s : State) (r : RawPacket) (p : Refill) (x : Device) (c : Nat) (n : Nat), s.dev.live = true ∧ n = fieldB r.header 2 1 % 8 ∧
    s.dev.tagCount r n = some c ∧ x = countRx n 2 c s.dev ∧ refillOf r.header (s.dev.plain r n (some c)) = p ∧ (s.dev.flag F.galRingEn
    p.forme p.ring = false ∨ s.dev.formeWritable p.forme p.sess = false ∨ p.resvOk = false ∨ p.count = 0 ∨ 64 < p.count ∨ p.pos % 32 ≠ 0 ∨
    p.data.length ≠ 32 * p.count)) :=
  ⟨⟨st segD, host, 63, 15, 255 * 2^24, by decide +kernel⟩,
   ⟨st segD, host, 63, 15, 2^31 + 2^26*9 + 2^22*10 + 16384, by decide +kernel⟩,
   ⟨st segD, host, 63, 15, 2^26*9 + 2^22*10 + 16384, by decide +kernel⟩,
   ⟨st (segD.plant F.galRingEn 1 63 15), host, 63, 15, 0, by decide +kernel⟩,
   ⟨st (segD.plant F.galRingEn 1 63 15), host, 63, 15, 2^31 + 2^26*9 + 2^22*10 + 16384, by decide +kernel⟩,
   ⟨st (sessD segD), lit0, lit1, countRx 3 2 0 (sessD segD), 0, 3, by decide +kernel⟩⟩

/-- The hypotheses of Obligations.StreamRings can be met, clause by clause. -/
theorem witness_StreamRings_2 :
  (∃ (s : State) (r : RawPacket) (p : Refill) (x : Device) (c : Nat) (n : Nat) (rd : Nat), s.dev.live = true ∧ n = fieldB r.header 2 1 % 8
    ∧ s.dev.tagCount r n = some c ∧ x = countRx n 2 c s.dev ∧ refillOf r.header (s.dev.plain r n (some c)) = p ∧ p.resvOk = true ∧
    s.dev.flag F.galRingEn p.forme p.ring = true ∧ s.dev.formeWritable p.forme p.sess = true ∧ 1 ≤ p.count ∧ p.count ≤ 64 ∧ p.pos % 32 = 0
    ∧ p.data.length = 32 * p.count ∧ p.pos = (s.dev.reg .galRingWr p.forme p.ring).toNat ∧ rd = (s.dev.reg .galRingRd p.forme
    p.ring).toNat ∧ rd ≤ p.pos ∧ p.pos + 32 * p.count < 2 ^ 31 ∧ p.pos + 32 * p.count ≤ rd + 32 * s.dev.ringLines p.forme p.ring) ∧
  (∃ (s : State) (r : RawPacket) (n : Nat), s.dev.live = true ∧ n = fieldB r.header 2 1 % 8 ∧ s.dev.tagCount r n = none ∧ (s.dev.session
    n).isOpen = true) :=
  ⟨⟨st ringD, lit2, lit3, countRx 3 2 0 ringD, 0, 3, 64, by decide +kernel⟩,
   ⟨st ringD, lit4, 3, by decide +kernel⟩⟩

/-- The hypotheses of Obligations.OutputSettings can be met, clause by clause. -/
theorem witness_OutputSettings_1 :
  (∃ (s : State) (c : Ctx) (f : Fin 64) (v : Nat), Takes s c ∧ v < 2 ^ 32 ∧ s.dev.formeWritable f c.sess = true) ∧
  (∃ (s : State) (c : Ctx) (f : Fin 64) (v : Nat), Takes s c ∧ v < 2 ^ 32 ∧ s.dev.formeWritable f c.sess = true) ∧
  (∃ (s : State) (c : Ctx) (f : Fin 64) (v : Nat), Takes s c ∧ v < 2 ^ 32 ∧ s.dev.formeWritable f c.sess = true) ∧
  (∃ (s : State) (c : Ctx) (p : Fin 512) (v : Nat), Takes s c ∧ v < 2 ^ 32 ∧ s.dev.seqWritable p c.sess = true ∧ validMode (v &&& 0x333) =
    true ∧ s.dev.offers = [] ∧ (s.dev.seqQuiet p = true ∨ s.dev.pfsWith p (v &&& 0x333) ≤ s.dev.pfsPort p)) ∧
  (∃ (s : State) (c : Ctx) (p : Fin 512) (v : Nat), Takes s c ∧ v < 2 ^ 32 ∧ s.dev.seqWritable p c.sess = true ∧ validMode (v &&& 0x333) =
    true ∧ s.dev.fld F.csStatusState p = 2 ∧ s.dev.pfsPort p < s.dev.pfsWith p (v &&& 0x333)) ∧
  (∃ (s : State) (c : Ctx) (f : Fin 64) (on : Bool), Takes s c ∧ s.dev.formeWritable f c.sess = true ∧ (s.dev.fld F.fmStrobecnt f = 0 ∨
    s.dev.reg64 .fmLaststrobeLo .fmLaststrobeHi f ≠ s.dev.ssi) ∧ on = (s.dev.flag F.fmOutenLive f || s.dev.flag F.fmOutenEnabled f)) :=
  ⟨⟨st {segD with formes := [(63, {changes := [⟨32000000, 0, 0, 3, false, false, none, 7⟩, ⟨32000005, 1, 0, 3, false, false, none, 7⟩]})]},
      host, 63, 0x1FFFF, by decide +kernel⟩,
   ⟨st segD, hostAck, 63, 0xFFFF, by decide +kernel⟩,
   ⟨st segD, hostAck, 63, 0xFFFFFFFF, by decide +kernel⟩,
   ⟨st segD, hostAck, 511, 0x111, by decide +kernel⟩,
   ⟨st (segD.plant F.csStatusState 2 511), hostAck, 511, 0x111, by decide +kernel⟩,
   ⟨st (portD.plant F.fmOutenEnabled 1 63), hostAck, 63, true, by decide +kernel⟩⟩

/-- The hypotheses of Obligations.OutputSettings can be met, clause by clause. -/
theorem witness_OutputSettings_2 :
  (∃ (s : State) (c : Ctx) (mask : Nat), Takes s c ∧ (∀ f ∈ bitsSet 64 mask, s.dev.formeWritable f c.sess = true)) ∧
  (∃ (s : State) (c : Ctx), Takes s c) ∧
  (∃ (d : Device) (n : Nat) (p : Nat) (q : Port) (l : Bool), sfind d.ports p = some q ∧ q.muteAt = some (n, l) ∧ q.safe = none ∧ effMode
    q.mode (l && !q.muted) % 4 ≠ 0) ∧
  (∃ (s : State) (p : Fin 512) (g : Safe), Runs s ∧ (s.dev.port p).safe = some g ∧ g.stop ≤ s.dev.ssi) :=
  ⟨⟨st portD, hostAck, 2^63+5, by decide +kernel⟩,
   ⟨st ((portD.plant F.fmOutenLive 1 62).plant F.fmOutenLive 1 63 |>.plant F.fmOutenEnabled 1 63), hostAck, by decide +kernel⟩,
   ⟨{portD with ports := [(504, {mode := 0x111, muteAt := some (32000736, true)})]}, 32000736, 504,
      {mode := 0x111, muteAt := some (32000736, true)}, true, by decide +kernel⟩,
   ⟨st {portD with ports := [(511, {safe := some ⟨5, 32000000, 0, true, true, 0, false⟩})]}, 511, ⟨5, 32000000, 0, true, true, 0, false⟩,
      by decide +kernel⟩⟩

end F08

namespace F09
open F07
def lset0 : LaneSet := {dec := 0, freq := 0, ofs := 0, ctrl := 0, kbase := 0, klen := 1, kreg := 0, bounds := [], disc := 0}
def winA : Win := {w := 31999936, len := 2, late := 0, serial := 3, uid := 4, set := some lset0}
def ovrXs : List Int := (List.range 32).map fun (j : Nat) => if j = 31 then (2047 : Int) else if j = 7 then -2048 else (j : Int)
def capA : Capture := {start := 31999936, len := 2, serial := 3, refused := false, engine := none, late := 0, isOpen := true, stop := 32000000, offset := 1023, capser := 9, code := 1}
def capB : Capture := {capA with taken := capA.stored, odd := [1,2,3], lost := [4]}
def capD : Device := ((({ready with inputs := [(63, {caps := [capB], ovr := [3], held := [(900, [1,2], 5)], fill := 9, drained := 511, words := [(1000000, [1])]})]}.putReg .ipCapSize 1024 63).putReg .ipCapBase 7 63).plant F.ipCapCtrlWrap 1 63 |>.plant F.ipStatusCapActive 1 63)
def lset : LaneSet := {lset0 with freq := 2^40, ctrl := 0x11220000, kbase := 32767, klen := 1, kreg := 0xFFFF8001}
def winB : Win := {w := 31999480, len := 2, late := 0, serial := 3, uid := 4, set := some lset, k := 1}
def laneD (x : Lane) : Device := { ready with lanes := [(1023, x), (1022, {})], kernels := [(32768*63+32767, 0x7FFF8000)] }
def decW : Win := {winB with w := 31999487}
def decD : Device := { laneD {wins := [decW], step := 4000001} with inputs := [(63, {words := [(999984, (List.range 32).map fun (j : Nat) => ((j : Int) * 100 - 2000)), (999985, [])]})] }
def decO : Int × Int × Bool := decW.decimate 1 ((List.range decW.dec).map fun j => decD.sampleAt 63 (decW.w + decW.dec * 1 + j))
def eng (i : DInstr) (x : Lane := {}) (w : Win := winB) : Sys2Proof.Machine.State :=
  st ((laneD { x with wins := [w], step := 4000003, run := true, pc := 255, kp := 32767, ps := 3 }).putReg .ipDprog (BitVec.ofNat 32 i.encode) 63 255)
def winC : Win := {winB with w := 31999296, k := 16, ended := true}
def winE : Win := {winC with ended := false}
def recA : Record := {folio := 3, start := 5, i := -7, q := 8, lane := 1023, state := 2, h := 1, scale := 3, flags := 0, len := 2, serial := 3, uid := 1}
def ringD (n : Nat) : Device := { ready with inputs := [(63, {ring := List.replicate n recA})] }
def sesB : Session := {isOpen := true, via := 7, keys := (List.range 72).map fun i => BitVec.ofNat 8 i}
def linkR (n : Nat) (k : Option Streamed) : Device := ({(((ringD n).plant F.ipRecCtrlPort 7 63).plant F.lkPstatLstate 3 7).plant F.ipRecCtrlSess 4 63 with links := [(7, {cred := [0,0,1], packet := k, after := [mkFrame 3 true false [7]]})], sess := [(4, sesB)]})
def strA (n : Nat) : Streamed := {input := 63, left := n, key := (List.range 32).map fun i => BitVec.ofNat 8 i, iv := zeros 12, header := [1,2], sent := [3,4]}
def capE : Device := { capD with inputs := capD.inputs.map fun x => (x.1, { x.2 with words := [] }) }

/-- The hypotheses of Obligations.InputsAndCaptures can be met, clause by clause. -/
theorem witness_InputsAndCaptures_1 :
  (∃ (s : State) (c : Ctx) (i : Fin 64) (v : Nat), Takes s c ∧ v < 2 ^ 32 ∧ s.dev.seqWritable (512 + i.val) c.sess = true ∧ bitsOf v 6 4 ≤
    3 ∧ (bitsOf v 1 0 = s.dev.fld F.ipCtrlRange i ∨ s.dev.inputOpen i s.dev.ssi = false) ∧ (s.dev.offers.any fun o => o.k == 512 + i.val
    && o.idle) = false) ∧
  (∃ (s : State) (c : Ctx) (i : Fin 64) (v : Nat), Takes s c ∧ v < 2 ^ 32 ∧ s.dev.seqWritable (512 + i.val) c.sess = true ∧ bitsOf v 6 4 ≤
    3 ∧ bitsOf v 1 0 ≠ s.dev.fld F.ipCtrlRange i ∧ s.dev.inputOpen i s.dev.ssi = true) ∧
  (∃ (s : State) (c : Ctx) (i : Fin 64) (v : Nat), Takes s c ∧ v < 2 ^ 32 ∧ s.dev.seqWritable (512 + i.val) c.sess = true ∧
    (s.dev.offers.any fun o => o.k == 512 + i.val && o.idle) = false ∧ sget 0 s.dev.hwNow (RegName.addr .ipCapCtrl i) = 0 ∧ s.dev.linesIn
    (s.dev.reg .ipCapBase i).toNat (s.dev.reg .ipCapSize i).toNat (· == 2) = true) ∧
  (∃ (s : State) (c : Ctx) (i : Fin 64) (v : Nat), Takes s c ∧ v < 2 ^ 32 ∧ s.dev.seqWritable (512 + i.val) c.sess = true ∧ bitOf v 0 =
    true ∧ s.dev.linesIn (s.dev.reg .ipCapBase i).toNat (s.dev.reg .ipCapSize i).toNat (· == 2) = false) ∧
  (∃ (s : State) (i : Fin 64) (xs : List Int) (n : Nat) (ns : List Nat), Runs s ∧ sfind (s.dev.input i).words (s.dev.ssi / 32) = none ∧
    xs.length = 32 ∧ (s.dev.offers.any fun o => o.k == 512 + i.val && o.cut.isSome) = false ∧ ((List.range 32).filter fun j => xs.getD j 0
    == 2047 || xs.getD j 0 == -2048).map (fun j => s.dev.ssi + j) = n :: ns) ∧
  (∃ (s : State) (i : Fin 64) (adv : Bool) (tones : Nat) (n : Nat), Runs s ∧ s.dev.nextInstr (512 + i.val) = some (.win adv tones n) ∧
    s.dev.reach ≤ (s.dev.seq (512 + i.val)).t ∧ s.dev.windowClash i tones (s.dev.seq (512 + i.val)).t n = false) :=
  ⟨⟨st ready, host, 63, 0xBF, by decide +kernel⟩,
⟨st {ready with inputs := [(63, {caps := [{start := 5, len := 2, serial := 0, refused := false, engine := none, late := 0, isOpen := true, stop := 33000000}]})]},
      host, 63, 1, by decide +kernel⟩,
   ⟨st (ready.putReg .ipCapSize 1024 63 |>.putReg .memGran 0xAAAAAAAA 0 0), host, 63, 3, by decide +kernel⟩,
   ⟨st (ready.putReg .ipCapSize 1024 63), host, 63, 3, by decide +kernel⟩,
⟨st {ready with lanes := [(1022, {wins := [{winA with w := 5}, winA]}), (1007, {wins := [winA]})], inputs := [(63, {caps := [{start := 31999936, len := 9, serial := 0, refused := false, isOpen := true, stop := 32000008}], words := [(7,[3])]}), (62, {})]},
      63, ovrXs, 32000007, [32000031], by decide +kernel⟩,
   ⟨st {atInstr 575 (.win true 0x8001 3) 32000736 {blk := some blk1} with lanes := [(1023, {wins := [winA]}), (1022, {wins := [winA]})]},
      63, true, 0x8001, 3, by decide +kernel⟩⟩

/-- The hypotheses of Obligations.InputsAndCaptures can be met, clause by clause. -/
theorem witness_InputsAndCaptures_2 :
  (∃ (s : State) (i : Fin 64) (adv : Bool) (tones : Nat) (n : Nat), Runs s ∧ s.dev.nextInstr (512 + i.val) = some (.win adv tones n) ∧
    (s.dev.seq (512 + i.val)).t < s.dev.ssi + 32 ∧ s.dev.windowClash i tones (s.dev.seq (512 + i.val)).t n = true) ∧
  (∃ (s : State) (i : Fin 64) (adv : Bool) (n : Nat), Runs s ∧ s.dev.nextInstr (512 + i.val) = some (.capt adv n) ∧ s.dev.reach ≤
    (s.dev.seq (512 + i.val)).t ∧ s.dev.captureClash i (s.dev.seq (512 + i.val)).t n = false) ∧
  (∃ (s : State) (i : Fin 64) (k : Capture) (ls : List (Nat × List Byte × Nat)), Runs s ∧ (s.dev.input i).caps = [k] ∧ k.isOpen = true ∧
    k.ended = false ∧ k.stop < s.dev.ssi + 32 ∧ (sfind (s.dev.input i).words (s.dev.ssi / 32)).isSome = true ∧ k.taken = k.stored ∧
    k.odd.length < 64 ∧ k.trunc = false ∧ k.meas = [] ∧ s.dev.sramErrs = [] ∧ (s.dev.inputs.all fun x => x.1 == i || x.2.held.isEmpty) =
    true ∧ ls = (s.dev.input i).held ++ (if k.odd.isEmpty then [] else [(s.dev.capLine i k (1 + 3 * k.taken / 64), sliceB (joinHalves
    k.odd) 0 32, k.frees (3 * k.taken / 64))]) ++ [(s.dev.capLine i k 0, k.header i k.lost.length, 0)]) ∧
  (∃ (s : State) (i : Fin 64) (l : Fin 1024) (xs : List Int), Runs s ∧ l.val / 16 = i.val ∧ sfind (s.dev.input i).words (s.dev.ssi / 32) =
    none ∧ xs.length = 32 ∧ (s.dev.offers.any fun o => o.k == 512 + i.val && o.cut.isSome) = false) ∧
  (∃ (s : State) (i : Fin 64) (errs : List (Nat × Nat)), Runs s ∧ errs ≠ [] ∧ (s.dev.input i).current = none ∧ (s.dev.input i).held = [])
    :=
  ⟨⟨st {atInstr 575 (.win true 0x8001 3) 31999937 {blk := some blk1} with lanes := [(1023, {wins := [winA]}), (1022, {wins := [winA]})]},
      63, true, 0x8001, 3, by decide +kernel⟩,
   ⟨st (atInstr 575 (.capt true 3) 32000736 {blk := some blk1}), 63, true, 3, by decide +kernel⟩,
   ⟨st (capD.plant F.memStatusFrozen 1), 63, capB,
      [(900, [1,2], 5), (capD.capLine 63 capB (1 + 3 * capB.taken / 64), sliceB (joinHalves capB.odd) 0 32, capB.frees (3 * capB.taken / 64)), (capD.capLine 63 capB 0, capB.header 63 1, 0)],
      by decide +kernel⟩,
   ⟨st capE, 63, 1023, ovrXs, by decide +kernel⟩,
   ⟨st ready, 63, [(3, 5)], by decide +kernel⟩⟩

/-- The hypotheses of Obligations.DemodulationEngine can be met, clause by clause. -/
theorem witness_DemodulationEngine_1 :
  (∃ (s : State) (l : Fin 1024) (w : Win) (k : Nat) (i : Int) (q : Int) (clamp : Bool), Runs s ∧ (s.dev.lane l).nextSample = some (w, k) ∧
    (∀ v ∈ (s.dev.lane l).wins, v.w = w.w → v = w) ∧ s.dev.ssi ≤ w.entry k ∧ w.entry k < s.dev.ssi + 32 ∧ w.entry k / 8 ≤ (s.dev.lane
    l).step ∧ w.ended = false ∧ w.decimate k ((List.range w.dec).map fun j => s.dev.sampleAt (l / 16) (w.w + w.dec * k + j)) = (i, q,
    clamp)) ∧
  (∃ (s : State) (l : Fin 1024) (w : Win) (t : LaneSet), Runs s ∧ (s.dev.lane l).current = some w ∧ w.set = some t ∧ (s.dev.lane l).run =
    false ∧ (s.dev.lane l).free ≤ (s.dev.lane l).step ∧ 0 < w.k ∧ s.dev.ssi / 8 ≤ (s.dev.lane l).step) ∧
  (∃ (s : State) (l : Fin 1024) (w : Win) (t : LaneSet), Runs s ∧ Engaged s.dev l w t ∧ s.dev.nextD l (s.dev.lane l) = .nop) ∧
  (∃ (s : State) (l : Fin 1024) (w : Win) (t : LaneSet) (a : Nat) (conj : Bool) (ksrc : Bool) (i : Int) (q : Int) (ti : Int) (tq : Int)
    (tap : Int × Int), Runs s ∧ Engaged s.dev l w t ∧ s.dev.nextD l (s.dev.lane l) = .mac a conj ksrc ∧ w.used < w.n ∧ w.used ∉ w.lost ∧
    (s.dev.lane l).buf.find? (fun b => b.1 == w.w && b.2.1 == w.used) = some (w.w, w.used, i, q) ∧ tap = (if ksrc then (toSigned 16
    (bitsOf t.kreg 15 0), toSigned 16 (bitsOf t.kreg 31 16)) else s.dev.tapAt (l / 16) (s.dev.lane l).kp) ∧ (ti, tq) = (if conj then (i *
    tap.1 + q * tap.2, q * tap.1 - i * tap.2) else (i * tap.1 - q * tap.2, i * tap.2 + q * tap.1))) ∧
  (∃ (s : State) (l : Fin 1024) (w : Win) (t : LaneSet) (a : Nat) (conj : Bool) (ksrc : Bool), Runs s ∧ Engaged s.dev l w t ∧ s.dev.nextD
    l (s.dev.lane l) = .mac a conj ksrc ∧ w.n ≤ w.used ∧ (s.dev.lane l).acc.length = 4 ∧ a < 4) ∧
  (∃ (s : State) (l : Fin 1024) (w : Win) (t : LaneSet) (advk : Bool) (n : Nat) (b : Nat × Nat × Int × Int), Runs s ∧ Engaged s.dev l w t
    ∧ s.dev.nextD l (s.dev.lane l) = .skip advk n ∧ w.used < w.n ∧ w.used ∉ w.lost ∧ (s.dev.lane l).buf.find? (fun b => b.1 == w.w &&
    b.2.1 == w.used) = some b ∧ (s.dev.lane l).skip = 0 ∧ 1 < n) :=
  ⟨⟨st decD, 1023, decW, 1, decO.1, decO.2.1, decO.2.2, by decide +kernel⟩,
   ⟨st (laneD {wins := [winB], step := 4000000, free := 4000000, pc := 9}), 1023, winB, lset, by decide +kernel⟩,
   ⟨eng .nop, 1023, winB, lset, by unfold Engaged; decide +kernel⟩,
   ⟨eng (.mac 3 true false) {buf := [(31999480, 0, -32768, 32767)], acc := [(0,0,false),(0,0,false),(0,0,false),(2^39-1,5,false)]}, 1023,
      winB, lset, 3, true, false, -32768, 32767, (macTerm true (-32768, 32767) (-32768, 32767)).1,
      (macTerm true (-32768, 32767) (-32768, 32767)).2, (-32768, 32767), by unfold Engaged; decide +kernel⟩,
   ⟨eng (.mac 3 false true) {} {winB with used := 16}, 1023, {winB with used := 16}, lset, 3, false, true, by unfold Engaged; decide +kernel⟩,
   ⟨eng (.skip true 65536) {buf := [(31999480, 0, -32768, 32767)]}, 1023, winB, lset, true, 65536, (31999480, 0, -32768, 32767), by unfold Engaged; decide +kernel⟩⟩

/-- The hypotheses of Obligations.DemodulationEngine can be met, clause by clause. -/
theorem witness_DemodulationEngine_2 :
  (∃ (s : State) (l : Fin 1024) (w : Win) (t : LaneSet) (len : Nat) (n : Nat), Runs s ∧ Engaged s.dev l w t ∧ s.dev.nextD l (s.dev.lane l)
    = .rep len n) ∧
  (∃ (s : State) (l : Fin 1024) (w : Win) (t : LaneSet) (tap : Nat), Runs s ∧ Engaged s.dev l w t ∧ s.dev.nextD l (s.dev.lane l) = .setkp
    tap) ∧
  (∃ (s : State) (l : Fin 1024) (w : Win) (t : LaneSet) (ps : Nat), Runs s ∧ Engaged s.dev l w t ∧ s.dev.nextD l (s.dev.lane l) = .setps
    ps) ∧
  (∃ (s : State) (l : Fin 1024) (w : Win) (t : LaneSet) (a : Nat) (b : Nat) (sh : Nat) (sub : Bool) (i : Int) (q : Int) (sat : Bool), Runs
    s ∧ Engaged s.dev l w t ∧ s.dev.nextD l (s.dev.lane l) = .add a b sub sh ∧ (s.dev.lane l).acc.getD b (0, 0, false) = (i, q, sat)) ∧
  (∃ (s : State) (l : Fin 1024) (w : Win) (t : LaneSet) (a : Nat), Runs s ∧ Engaged s.dev l w t ∧ s.dev.nextD l (s.dev.lane l) = .clr a) ∧
  (∃ (s : State) (l : Fin 1024) (w : Win) (t : LaneSet), Runs s ∧ Engaged s.dev l w t ∧ s.dev.nextD l (s.dev.lane l) = .endP) :=
  ⟨⟨eng (.rep 16 65536), 1023, winB, lset, 16, 65536, by unfold Engaged; decide +kernel⟩,
   ⟨eng (.setkp 32767), 1023, winB, lset, 32767, by unfold Engaged; decide +kernel⟩,
   ⟨eng (.setps 15), 1023, winB, lset, 15, by unfold Engaged; decide +kernel⟩,
   ⟨eng (.add 3 3 true 15) {acc := [(0,0,false),(0,0,false),(0,0,false),(-2^39,5,false)]}, 1023, winB, lset, 3, 3, 15, true, -2^39, 5,
      false, by unfold Engaged; decide +kernel⟩,
   ⟨eng (.clr 3) {acc := [(0,0,false),(0,0,false),(0,0,false),(-2^39,5,false)]}, 1023, winB, lset, 3, by unfold Engaged; decide +kernel⟩,
⟨eng .endP {acc := [(7,8,true),(0,0,false),(0,0,false),(-2^39,5,false)], buf := [(31999480, 0, -32768, 32767), (32000000, 0, -32768, 32767)]},
      1023, winB, lset, by unfold Engaged; decide +kernel⟩⟩

/-- The hypotheses of Obligations.DemodulationEngine can be met, clause by clause. -/
theorem witness_DemodulationEngine_3 :
  (∃ (s : State) (l : Fin 1024) (w : Win) (t : LaneSet), Runs s ∧ (s.dev.lane l).wins = [w] ∧ w.set = some t ∧ w.handed = false ∧ w.ended
    = true ∧ s.dev.ssi / 8 ≤ w.finish ∧ w.finish < s.dev.ssi / 8 + 4 ∧ w.k = w.n ∧ 0 < w.n ∧ (s.dev.lane l).step = w.finish) ∧
  (∃ (s : State) (l : Fin 1024) (w : Win) (t : LaneSet), Runs s ∧ (s.dev.lane l).wins = [w] ∧ w.set = some t ∧ w.handed = false ∧ w.ended
    = false ∧ s.dev.ssi / 8 ≤ w.finish ∧ w.finish < s.dev.ssi / 8 + 4 ∧ w.k = w.n ∧ 0 < w.n ∧ (s.dev.lane l).step = w.finish ∧ (s.dev.lane
    l).run = true ∧ stepInstr s.dev l (s.dev.lane l) w t = none ∧ (s.dev.lane l).buf.length ≤ 16) :=
  ⟨⟨st (laneD {wins := [winC], step := winC.finish}), 1023, winC, lset, by decide +kernel⟩,
⟨st ((laneD {wins := [winE], step := winE.finish, run := true, pc := 255, buf := [(31999296, 1, -32768, 32767)]}).putReg .ipDprog (BitVec.ofNat 32 (DInstr.mac 0 false false).encode) 63 255),
      1023, winE, lset, by decide +kernel⟩⟩

/-- The hypotheses of Obligations.RecordsAndLoads can be met, clause by clause. -/
theorem witness_RecordsAndLoads_1 :
  (∃ (s : State) (i : Fin 64) (r : Record) (rest : List Record), Runs s ∧ (s.dev.input i).ring = r :: rest ∧ s.dev.packetPort i = none ∧
    s.dev.flag F.ipRecCtrlDest i = true ∧ s.dev.spoolFull i = true) ∧
  (∃ (s : State) (i : Fin 64) (r : Record) (rest : List Record), Runs s ∧ (s.dev.input i).ring = r :: rest ∧ s.dev.packetPort i = none ∧
    s.dev.flag F.ipRecCtrlDest i = true ∧ s.dev.spoolFull i = false ∧ s.dev.flag F.memStatusFrozen = false ∧ s.dev.sramErrs = []) ∧
  (∃ (s : State) (i : Fin 64) (r : Record) (rest : List Record) (p : Nat), Runs s ∧ (s.dev.input i).ring = r :: rest ∧ (s.dev.packetPort i
    = some p ∨ s.dev.packetPort i = none ∧ s.dev.flag F.ipRecCtrlDest i = false ∧ s.dev.fld F.ipRecCtrlPort i = p) ∧ ((s.dev.session
    (s.dev.recSession i)).isOpen && (s.dev.session (s.dev.recSession i)).via == p) = false) ∧
  (∃ (s : State) (i : Fin 64) (r : Record) (rest : List Record) (p : Nat) (n : Nat) (x : Session), Runs s ∧ (s.dev.input i).ring = r ::
    rest ∧ s.dev.packetPort i = none ∧ s.dev.flag F.ipRecCtrlDest i = false ∧ s.dev.fld F.ipRecCtrlPort i = p ∧ s.dev.flag F.lkPctlRole p
    = false ∧ s.dev.fld F.lkPstatLstate p = 3 ∧ s.dev.session (s.dev.recSession i) = x ∧ x.isOpen = true ∧ x.via = p ∧ ((s.dev.link
    p).out.filter fun f => f.vc == 3).length < (s.dev.link p).cred.getD 2 0 ∧ (s.dev.link p).packet = none ∧ s.dev.sramErrs = [] ∧ n = min
    64 (rest.length + 1)) ∧
  (∃ (s : State) (i : Fin 64) (r : Record) (rest : List Record) (p : Nat) (k : Streamed) (ct : List Byte), Runs s ∧ (s.dev.input i).ring =
    r :: rest ∧ s.dev.packetPort i = some p ∧ s.dev.flag F.lkPctlRole p = false ∧ s.dev.fld F.lkPstatLstate p = 3 ∧ (s.dev.session
    (s.dev.recSession i)).isOpen = true ∧ (s.dev.session (s.dev.recSession i)).via = p ∧ ((s.dev.link p).out.filter fun f => f.vc ==
    3).length < (s.dev.link p).cred.getD 2 0 ∧ (s.dev.link p).packet = some k ∧ s.dev.sramErrs = [] ∧ ct = counterMode k.key k.iv
    (k.sent.length / 16) r.read) ∧
  (∃ (s : State) (c : Ctx) (i : Nat) (first : Nat) (taps : List (Int × Int)), Takes s c ∧ i < 64 ∧ taps ≠ [] ∧ first + taps.length ≤ 32768
    ∧ s.dev.seqWritable (512 + i) c.sess = true ∧ (∀ l : Fin 16, ∀ w ∈ s.dev.openWins (16 * i + l.val), meets first taps.length
    (w.set.getD (s.dev.laneSet (16 * i + l.val))).kbase (w.set.getD (s.dev.laneSet (16 * i + l.val))).klen = false)) :=
  ⟨⟨st ((ringD 3).plant F.ipRecCtrlDest 1 63), 63, recA, [recA, recA], by decide +kernel⟩,
   ⟨st (((ringD 3).plant F.ipRecCtrlDest 1 63).putReg .ipSpoolSize 16 63 |>.putReg .ipSpoolWr 15 63 |>.putReg .ipSpoolRd 3 63), 63, recA,
      [recA, recA], by decide +kernel⟩,
   ⟨st (((ringD 3).plant F.ipRecCtrlPort 7 63).plant F.lkPstatLstate 3 7), 63, recA, [recA, recA], 7, by decide +kernel⟩,
   ⟨st (linkR 70 none), 63, recA, List.replicate 69 recA, 7, 64, sesB, by decide +kernel⟩,
   ⟨st (linkR 2 (some (strA 2))), 63, recA, [recA], 7, strA 2, counterMode (strA 2).key (zeros 12) 0 recA.read, by decide +kernel⟩,
   ⟨st (laneD {}), host, 63, 32766, [(1,2),(-1,-32768)], by decide +kernel⟩⟩

/-- The hypotheses of Obligations.RecordsAndLoads can be met, clause by clause. -/
theorem witness_RecordsAndLoads_2 :
  (∃ (s : State) (c : Ctx) (i : Nat) (first : Nat) (n : Nat), Takes s c ∧ i < 64 ∧ 1 ≤ n ∧ first + n ≤ 32768 ∧ s.dev.seqReadable (512 + i)
    c.sess = true) ∧
  (∃ (s : State) (c : Ctx) (i : Nat) (first : Nat) (ws : List Nat), Takes s c ∧ i < 64 ∧ ws ≠ [] ∧ first + ws.length ≤ 256 ∧ (∀ w ∈ ws, w
    < 2 ^ 32) ∧ s.dev.seqWritable (512 + i) c.sess = true ∧ (∀ l : Fin 16, s.dev.openWins (16 * i + l.val) = []) ∧ dprogFault (dprogWith
    s.dev i first ws) = none) ∧
  (∃ (s : State) (c : Ctx) (i : Fin 64) (a : Fin 256) (v : Nat), Takes s c ∧ v < 2 ^ 32 ∧ (s.dev.offers.any fun o => o.k == 512 + i.val &&
    o.idle) = false ∧ s.dev.seqWritable (512 + i.val) c.sess = true ∧ (∀ l : Fin 16, s.dev.openWins (16 * i.val + l.val) = []) ∧
    dprogFault (dprogWith s.dev i a [v]) = none) ∧
  (∃ (s : State) (c : Ctx) (i : Fin 64) (a : Fin 256) (v : Nat) (x : Nat), Takes s c ∧ v < 2 ^ 32 ∧ s.dev.seqWritable (512 + i.val) c.sess
    = true ∧ (∀ l : Fin 16, s.dev.openWins (16 * i.val + l.val) = []) ∧ dprogFault (dprogWith s.dev i a [v]) = some x) :=
  ⟨⟨st (laneD {}), host, 63, 32766, 2, by decide +kernel⟩,
   ⟨st (laneD {}), host, 63, 254, [(DInstr.clr 3).encode, DInstr.endP.encode], by decide +kernel⟩,
   ⟨st (laneD {}), host, 63, 255, DInstr.endP.encode, by decide +kernel⟩,
   ⟨st (laneD {}), host, 63, 255, 0xF0000000, 255, by decide +kernel⟩⟩

end F09

namespace F10
def up (p : Nat) (d : Device) (x : Link := {}) : Device := { (d.plant F.lkPctlRole 1 p).plant F.lkPstatLstate 3 p with links := [(p, x)] }
def keyA : List Byte := (List.range 68).map fun i => BitVec.ofNat 8 (3 * i + 1)
def plainBlock (x : Nat) : Vc1Block := ⟨9, true, x⟩
def coded (x : Nat) : Vc1Block := ⟨9, true, x ^^^ vc1Stream keyA 9⟩
def dframe (due : Nat) (h : Nat := 1) : Nat := decisionFrame h 2 true 255 due
def rxA : Link := {rxKeys := keyA}
def xin (d : Device) : Device := (d.plant F.dfXinEn 1 0 255).plant F.dfXinPort 7 0 255
def wA (due a : Nat) : DecWord := { a := max due a, state := 2, f := true, reach := ready.cycle + 2, rx := 0 }
def fwd (d : Device) (x y : Link) : Device := { (((((((up 7 d).plant F.lkPctlRole 1 3).plant F.lkPstatLstate 3 3).plant F.dfFwdEn 1 63).plant F.dfFwdChLo 255 63).plant F.dfFwdChHi 255 63).plant F.dfFwdIoIn 0x80 63).plant F.dfFwdIoOut 0x88 63 with links := [(3, y), (7, x)] }
def rx1 : RxWord := ⟨8, 1, 7, 5, [], true, false, [], []⟩
def rframe (due : Nat) : Nat := revokeFrame 255 due

/-- The hypotheses of Obligations.DecisionWords can be met, clause by clause. -/
theorem witness_DecisionWords_1 :
  (∃ (s : State) (p : Fin 8) (v : Nat) (b : Nat) (ct : Nat) (t : List Nat), Runs s ∧ s.dev.portUp p = true ∧ s.dev.slotV p = v ∧
    (s.dev.flag F.lkPstatSkip p && s.dev.fld F.lkPstatSkiplane p == v % 8) = false ∧ (s.dev.link p).vq = b :: t ∧ bitsOf b 63 60 ≠ 3 ∧ ct
    = b ^^^ vc1Stream (s.dev.link p).txKeys v) ∧
  (∃ (s : State) (p : Fin 8) (v : Nat) (b : Nat) (ct : Nat) (t : List Nat), Runs s ∧ s.dev.portUp p = true ∧ s.dev.slotV p = v ∧
    (s.dev.flag F.lkPstatSkip p && s.dev.fld F.lkPstatSkiplane p == v % 8) = false ∧ (s.dev.link p).vq = [] ∧ (s.dev.link p).tq = b :: t ∧
    2 ≤ bitsOf b 59 58 ∧ ct = b ^^^ vc1Stream (s.dev.link p).txKeys v) ∧
  (∃ (s : State) (p : Fin 8) (v : Nat), Runs s ∧ s.dev.portUp p = true ∧ s.dev.slotV p = v ∧ (s.dev.flag F.lkPstatSkip p = true ∧
    s.dev.fld F.lkPstatSkiplane p = v % 8 ∨ (s.dev.link p).vq = [] ∧ (s.dev.link p).tq = [])) ∧
  (∃ (s : State) (p : Fin 8) (b : Vc1Block) (m : Vc1Block) (x : Int), Runs s ∧ s.dev.portUp p = true ∧ s.dev.decrypted p b = m ∧
    Vc1Block.good m = true ∧ Vc1Block.type m = 1 ∧ x = nearIndex (bitsOf m.bits 46 16) s.dev.issueIndex 31 ∧ (x < (s.dev.issueIndex : Int)
    - 1048576 ∨ (s.dev.issueIndex : Int) + 131072 < x)) ∧
  (∃ (s : State) (p : Fin 8) (b : Vc1Block) (m : Vc1Block) (c : Nat) (x : Nat) (a : Nat) (w : DecWord), Runs s ∧ s.dev.portUp p = true ∧
    s.dev.decrypted p b = m ∧ Vc1Block.good m = true ∧ Vc1Block.type m = 1 ∧ c = bitsOf m.bits 54 47 ∧ nearIndex (bitsOf m.bits 46 16)
    s.dev.issueIndex 31 = (x : Int) ∧ s.dev.issueIndex ≤ x + 1048576 ∧ x ≤ s.dev.issueIndex + 131072 ∧ a = s.dev.issueIndex + 128 ∧
    (s.dev.fwdOut c p).1 = false ∧ bitsOf m.bits 59 58 ≠ 3 ∧ s.dev.flag F.dfXinEn 0 c = true ∧ s.dev.fld F.dfXinPort 0 c = p ∧ w =
    { a := max x a, state := bitsOf m.bits 57 56, f := bitOf m.bits 55 || decide (x < a), reach := s.dev.cycle + 2, rx := s.dev.rxNext })
    ∧
  (∃ (s : State) (p : Fin 8) (b : Vc1Block) (m : Vc1Block) (c : Nat) (h : Nat) (x : Int) (out : List Nat), Runs s ∧ s.dev.portUp p = true
    ∧ s.dev.decrypted p b = m ∧ Vc1Block.good m = true ∧ Vc1Block.type m = 1 ∧ c = bitsOf m.bits 54 47 ∧ h = bitsOf m.bits 59 58 ∧ x =
    nearIndex (bitsOf m.bits 46 16) s.dev.issueIndex 31 ∧ (s.dev.issueIndex : Int) - 1048576 ≤ x ∧ x ≤ (s.dev.issueIndex : Int) + 131072 ∧
    s.dev.fwdOut c p = (true, out) ∧ h < 3 ∧ (∀ r ∈ out, s.dev.portUp r = true ∧ (s.dev.link r).vq.length < 64) ∧ (s.dev.flag F.dfXinEn 0
    c && s.dev.fld F.dfXinPort 0 c == p.val) = false) :=
  ⟨⟨st (up 7 ready {vq := [5, 6], slot := 300, kept := [(44, 1), (45, 2)], owed := [(3, 4)], txKeys := keyA}), 7, 300, 5,
      5 ^^^ vc1Stream keyA 300, [6], by decide +kernel⟩,
   ⟨st (up 7 ready {tq := [timingBlock 2 5 9, 6], slot := 300, kept := [(44, 1), (45, 2)], owed := [(3, 4)], txKeys := keyA}), 7, 300,
      timingBlock 2 5 9, timingBlock 2 5 9 ^^^ vc1Stream keyA 300, [6], by decide +kernel⟩,
   ⟨st (up 7 ready {vq := [], slot := 300, kept := [(44, 1), (45, 2)], owed := [(3, 4)]}), 7, 300, by decide +kernel⟩,
   ⟨st (up 7 ready rxA), 7, coded (dframe 5), plainBlock (dframe 5), nearIndex 5 ready.issueIndex 31, by decide +kernel⟩,
   ⟨st (xin (up 7 ready)), 7, plainBlock (dframe (ready.issueIndex + 127)), plainBlock (dframe (ready.issueIndex + 127)), 255,
      ready.issueIndex + 127, ready.issueIndex + 128, {wA (ready.issueIndex + 127) (ready.issueIndex + 128) with rx := ready.rxNext}, by decide +kernel⟩,
   ⟨st (fwd ready {} {vq := [8]}), 7, plainBlock (dframe (ready.issueIndex + 131072) 2),
      plainBlock (dframe (ready.issueIndex + 131072) 2), 255, 2, (ready.issueIndex + 131072 : Nat), [3], by decide +kernel⟩⟩

/-- The hypotheses of Obligations.DecisionWords can be met, clause by clause. -/
theorem witness_DecisionWords_2 :
  (∃ (s : State) (p : Fin 8) (b : Vc1Block) (m : Vc1Block) (c : Nat) (x : Int), Runs s ∧ s.dev.portUp p = true ∧ s.dev.decrypted p b = m ∧
    Vc1Block.good m = true ∧ Vc1Block.type m = 1 ∧ c = bitsOf m.bits 54 47 ∧ x = nearIndex (bitsOf m.bits 46 16) s.dev.issueIndex 31 ∧
    (s.dev.issueIndex : Int) - 1048576 ≤ x ∧ x ≤ (s.dev.issueIndex : Int) + 131072 ∧ (∀ r ∈ (s.dev.fwdOut c p).2, s.dev.portUp r = true) ∧
    (s.dev.flag F.dfXinEn 0 c && s.dev.fld F.dfXinPort 0 c == p.val) = false ∧ (bitsOf m.bits 59 58 = 3) = (s.dev.fwdOut c p).1) ∧
  (∃ (s : State) (p : Fin 8), Runs s ∧ s.dev.portUp p = false) :=
  ⟨⟨st (fwd ready {} {vq := [8]}), 7, plainBlock (dframe (ready.issueIndex + 131072) 3),
      plainBlock (dframe (ready.issueIndex + 131072) 3), 255, (ready.issueIndex + 131072 : Nat), by decide +kernel⟩,
⟨st (xin {ready with seqs := [(575, {cond := some {ser := 4, gate := false, lanes := [(1279, 2, none)], truth := 0, dflt := false, ta := 5}})]}),
      7, by decide +kernel⟩⟩

/-- The hypotheses of Obligations.TagsAndTaint can be met, clause by clause. -/
theorem witness_TagsAndTaint :
  (∃ (s : State) (p : Fin 8) (v : Nat) (t : Nat), Runs s ∧ s.dev.isPeer p = true ∧ s.dev.fld F.lkPstatLstate p ≠ 4 ∧ (∀ a ∈ (s.dev.link
    p).acted, a.1 % 2 ^ 32 = v → a.2.2.2 = t)) ∧
  (∃ (s : State) (p : Fin 8) (v : Nat) (t : Nat), Runs s ∧ s.dev.isPeer p = true ∧ s.dev.linkOpen p = true ∧ s.dev.suspects p = [] ∧ (∃ a
    ∈ (s.dev.link p).acted, a.1 % 2 ^ 32 = v ∧ a.2.2.2 ≠ t)) ∧
  (∃ (s : State) (p : Fin 8), Runs s ∧ s.dev.linkOpen p = true ∧ s.dev.suspects p = [] ∧ s.dev.tagLate p = true) ∧
  (∃ (s : State) (p : Fin 8), Runs s ∧ s.dev.linkOpen p = true ∧ s.dev.tagLate p = true ∧ (∃ r ∈ s.dev.rx, r.port = p.val ∧ r.suspect =
    true ∧ r.tainted = false) ∧ (∀ r ∈ s.dev.rx, r.port = p.val → r.uses = [] ∧ r.caps = [] ∧ r.fwd = []) ∧ (∀ r ∈ s.dev.rx, ∀ q ∈
    s.dev.rx, r.id = q.id → r = q) ∧ s.dev.inputs = []) ∧
  (∃ (s : State) (p : Fin 8) (b : Vc1Block) (m : Vc1Block) (c : Nat) (x : Int), Runs s ∧ s.dev.portUp p = true ∧ s.dev.decrypted p b = m ∧
    Vc1Block.good m = true ∧ Vc1Block.type m = 4 ∧ c = bitsOf m.bits 54 47 ∧ x = nearIndex (bitsOf m.bits 46 16) s.dev.issueIndex 31 ∧
    (s.dev.fwdOut c p).1 = false ∧ bitsOf m.bits 59 58 ≠ 3 ∧ (∀ r ∈ s.dev.rx, r.ch = c → x ≤ r.d → r.tainted = true)) ∧
  (∃ (s : State) (p : Fin 8) (b : Vc1Block) (m : Vc1Block) (c : Nat) (x : Int), Runs s ∧ s.dev.portUp p = true ∧ s.dev.decrypted p b = m ∧
    Vc1Block.good m = true ∧ Vc1Block.type m = 4 ∧ c = bitsOf m.bits 54 47 ∧ x = nearIndex (bitsOf m.bits 46 16) s.dev.issueIndex 31 ∧
    (s.dev.fwdOut c p).1 = false ∧ bitsOf m.bits 59 58 ≠ 3 ∧ (∃ r ∈ s.dev.rx, r.ch = c ∧ x ≤ r.d ∧ r.tainted = false) ∧ (∀ r ∈ s.dev.rx,
    r.uses = [] ∧ r.caps = []) ∧ (∀ r ∈ s.dev.rx, ∀ q ∈ s.dev.rx, r.id = q.id → r = q) ∧ s.dev.inputs = []) :=
  ⟨⟨st {up 7 ready {acted := [(2^32+5, 3, 8, 77), (6, 3, 9, 78)]} with rx := [⟨8, 1, 7, 5, [], true, false, [], []⟩, ⟨9, 1, 7, 5, [], true, false, [], []⟩]},
      7, 5, 77, by decide +kernel⟩,
   ⟨st (xin (up 7 ready {acted := [(5, 3, 0, 77)], vq := [1,2], out := [⟨0,0,true,true,[]⟩]})), 7, 5, 78, by decide +kernel⟩,
   ⟨st (xin (up 7 ready {acted := [(5, 3, 0, 77)], vq := [1,2], out := [⟨0,0,true,true,[]⟩]})), 7, by decide +kernel⟩,
   ⟨st {xin (up 7 ready {acted := [(5, 3, 8, 77)]}) with rx := [rx1, {rx1 with id := 9, port := 6, uses := [(3,4)]}]}, 7, by decide +kernel⟩,
   ⟨st {up 7 ready {acted := [(5, 3, 8, 77)], rxKeys := keyA} with rx := [rx1, {rx1 with id := 9, port := 6}]}, 7,
      coded (rframe 32000000), plainBlock (rframe 32000000), 255, 32000000, by decide +kernel⟩,
   ⟨st {up 7 ready {acted := [(5, 3, 8, 77)]} with rx := [rx1, {rx1 with id := 9, ch := 255, d := 32000000}]}, 7,
      plainBlock (rframe 32000000), plainBlock (rframe 32000000), 255, 32000000, by decide +kernel⟩⟩

end F10

namespace F11
open F10
def trD : Device := ((ready.plant F.tiCfgEdge 3 15).plant F.tiCfgTrim 0xFFF 15)
def capO : Capture := {start := 31999936, len := 2, serial := 3, refused := false, engine := none, late := 0, isOpen := true, stop := 32000000, offset := 1023, capser := 9, code := 1}
def tgD (act next : Nat) : Device :=
  let d := (((trD.plant F.tgStatusEstate 1 15).plant F.tgStatusCur 3 15).plant F.tgSCa 301 15 3).plant F.tgSTActT act 15 3 |>.plant F.tgSTNextT next 15 3
  {(d.putReg .tgCount 7 15 3).putReg .tgLimit 8 15 3 with trig := {eng := [(15, {entered := 31999000, fires := 4})]}}
def tgF (act next : Nat) : Device := {((((tgD act next).plant F.tgCtrlNfire 5 15).plant F.tgCapCapen 1 15).plant F.tgCtrlHoldmode 1 15).putReg .tgHold 3 15 with trig := {eng := [(15, {entered := 31999000, fires := 4, path := [3,4], heard := [31999970], thr := 5})]}}
def eframe (org lead : Nat) (h : Nat := 1) : Nat := eventFrame h true 255 lead org
def xe0 (d : Device) : Device := (up 7 ((d.plant F.tgXinEn 1 0 15).plant F.tgXinPort 7 0 15 |>.plant F.tgXinSev 255 0 15) {})
def xe (d : Device) : Device := (up 7 ((d.plant F.tgXinEn 1 0 15).plant F.tgXinPort 7 0 15 |>.plant F.tgXinSev 255 0 15) rxA)
def xf (d : Device) (x y : Link) : Device := { (((((((up 7 d).plant F.lkPctlRole 1 3).plant F.lkPstatLstate 3 3).plant F.tgFwdEn 1 15).plant F.tgFwdSevLo 255 15).plant F.tgFwdSevHi 255 15).plant F.tgFwdIoIn 0x80 15).plant F.tgFwdIoOut 0x88 15 with links := [(3, y), (7, x)] }

/-- The hypotheses of Obligations.TriggerInputs can be met, clause by clause. -/
theorem witness_TriggerInputs_1 :
  (∃ (s : State) (t : Fin 16), Runs s ∧ bitOf (s.dev.fld F.tiCfgEdge t) 0 = false) ∧
  (∃ (s : State) (t : Fin 16) (stamp : Nat) (x : Nat), Runs s ∧ bitOf (s.dev.fld F.tiCfgEdge t) 1 = true ∧ bitOf s.dev.trig.levels t =
    true ∧ sfind s.dev.trig.edgeAt t ≠ some s.dev.cycle ∧ sfind s.dev.trig.now.edges t = none ∧ (stamp : Int) + toSigned 12 (s.dev.fld
    F.tiCfgTrim t) = x ∧ x < s.dev.ssi + 32) ∧
  (∃ (s : State) (t : Fin 16) (stamp : Nat) (x : Nat), Runs s ∧ bitOf (s.dev.fld F.tiCfgEdge t) 0 = true ∧ sfind s.dev.trig.edgeAt t ≠
    some s.dev.cycle ∧ (stamp : Int) + toSigned 12 (s.dev.fld F.tiCfgTrim t) = x ∧ s.dev.ssi + 32 ≤ x) ∧
  (∃ (s : State) (t : Fin 16), Runs s ∧ bitOf (s.dev.fld F.tiCfgEdge t) 0 = true ∧ sfind s.dev.trig.edgeAt t = some s.dev.cycle) ∧
  (∃ (s : State) (t : Fin 16) (x : Nat), Runs s ∧ s.dev.trig.held = [(t.val, x)] ∧ x < s.dev.ssi + 32 ∧ sfind s.dev.trig.now.edges t =
    none) ∧
  (∃ (s : State) (c : Ctx) (v : Nat), Takes s c ∧ v < 2 ^ 32 ∧ validLane (bitsOf v 10 0) = true ∧ s.dev.laneAway (bitsOf v 10 0) c.sess =
    false) :=
  ⟨⟨st (ready.plant F.tiCfgEdge 2 15), 15, by decide +kernel⟩,
   ⟨st {trD with trig := {levels := 0x8001}}, 15, 32000000, 31999999, by decide +kernel⟩,
   ⟨st {trD with trig := {levels := 1}}, 15, 32000033, 32000032, by decide +kernel⟩,
   ⟨st {trD.plant F.tiCfgOver 255 15 with trig := {edgeAt := [(15, 1000000)]}}, 15, by decide +kernel⟩,
   ⟨st {trD with trig := {held := [(15, 32000031)]}}, 15, 32000031, by decide +kernel⟩,
   ⟨st {trD with trig := {hist := [(15, [3,2])]}}, host, 0xFFFFFFFF - 0x300, by decide +kernel⟩⟩

/-- The hypotheses of Obligations.TriggerInputs can be met, clause by clause. -/
theorem witness_TriggerInputs_2 :
  (∃ (s : State) (c : Ctx) (n : Fin 16) (v : Nat), Takes s c ∧ v < 2 ^ 32 ∧ bitsOf v 17 16 ≤ 1 ∧ bitsOf v 19 18 ≠ 3 ∧ (s.dev.tgArmed n =
    false ∨ BitVec.ofNat 32 v &&& 0xFFFFFFFE = s.dev.reg .tgCtrl n &&& 0xFFFFFFFE) ∧ s.dev.ecAway (bitsOf v 31 24) c.sess = false ∧ (∀ b :
    Fin 32, s.dev.ecAway (32 * bitsOf v 22 20 + b) c.sess = false) ∧ (∀ x ∈ List.range (bitsOf v 15 12 + 1), s.dev.fld F.tgSTNextT n x ≤
    bitsOf v 15 12 ∧ s.dev.fld F.tgSENextE n x ≤ bitsOf v 15 12)) ∧
  (∃ (s : State) (c : Ctx) (n : Fin 16) (v : Nat), Takes s c ∧ v < 2 ^ 32 ∧ bitsOf v 17 16 ≤ 1 ∧ bitsOf v 19 18 ≠ 3 ∧ (s.dev.tgArmed n =
    false ∨ BitVec.ofNat 32 v &&& 0xFFFFFFFE = s.dev.reg .tgCtrl n &&& 0xFFFFFFFE) ∧ s.dev.ecAway (bitsOf v 31 24) c.sess = false ∧ (∀ b :
    Fin 32, s.dev.ecAway (32 * bitsOf v 22 20 + b) c.sess = false) ∧ (∀ x ∈ List.range (bitsOf v 15 12 + 1), s.dev.fld F.tgSTNextT n x ≤
    bitsOf v 15 12 ∧ s.dev.fld F.tgSENextE n x ≤ bitsOf v 15 12)) ∧
  (∃ (s : State) (n : Fin 16) (m : Fin 4) (t : Nat), Runs s ∧ (s.dev.tg n).timers.getD m none = some (t, false) ∧ t < s.dev.ssi + 32) ∧
  (∃ (s : State) (n : Fin 16) (h : HoldOff), Runs s ∧ (s.dev.tg n).hold = some h ∧
    (match h.stop with | some x => x < s.dev.ssi + 32 | none => h.left = 0)) ∧
  (∃ (s : State) (n : Fin 16) (x : Nat) (i : Nat) (len : Nat) (rx : List Nat), Runs s ∧ (s.dev.tg n).caps = [(x, i, len, rx)] ∧ x <
    s.dev.ssi + 32 ∧ (∀ e ∈ s.dev.inputs, ∀ k ∈ e.2.caps, k.isOpen = false → k.engine = none → x < k.start) ∧ ((s.dev.input i).caps.any
    fun k => k.openAt x) = true) ∧
  (∃ (s : State) (j : Fin 16) (x : Nat) (late : Bool) (rx : List Nat), Runs s ∧ s.dev.trig.remote = [(j.val, x, late, rx)] ∧ x < s.dev.ssi
    + 32) :=
  ⟨⟨st trD, host, 15, 0x0579F000, by decide +kernel⟩,
   ⟨st (trD.putReg .tgCtrl 0x0579F001 15), host, 15, 0x0579F001, by decide +kernel⟩,
   ⟨st {trD with trig := {eng := [(15, {timers := [none, none, none, some (32000031, false)]})]}}, 15, 3, 32000031, by decide +kernel⟩,
   ⟨st {trD.putReg .tgStatus 0xFFFFFFFF 15 with trig := {eng := [(15, {hold := some ⟨5, some 32000031, 3⟩})]}}, 15, ⟨5, some 32000031, 3⟩,
      by decide +kernel⟩,
   ⟨st {trD with inputs := [(63, {caps := [capO]})], trig := {eng := [(15, {caps := [(31999999, 63, 5, [])]})]}}, 15, 31999999, 63, 5, [],
      by decide +kernel⟩,
   ⟨st {trD with trig := {remote := [(15, 32000031, true, [4])]}}, 15, 32000031, true, [4], by decide +kernel⟩⟩

/-- The hypotheses of Obligations.TriggerTransitions can be met, clause by clause. -/
theorem witness_TriggerTransitions_1 :
  (∃ (s : State) (n : Fin 16) (k : CondNow) (act : Nat) (next : Nat), Runs s ∧ s.dev.transition n = some (k, act, next) ∧ next < 16 ∧
    (s.dev.tg n).since.length = 4 ∧ bitOf act 0 = false) ∧
  (∃ (s : State) (n : Fin 16) (k : CondNow) (act : Nat) (next : Nat) (x : Nat) (rx : List Nat), Runs s ∧ s.dev.transition n = some (k,
    act, next) ∧ next < 16 ∧ (s.dev.tg n).since.length = 4 ∧ bitOf act 0 = true ∧ rx = (k.rx ++ (s.dev.tg n).path).eraseDups ∧ x = k.stamp
    + 768 + s.dev.fld F.tgCapdly n) ∧
  (∃ (s : State) (n : Fin 16) (x : Nat) (i : Nat) (len : Nat), Runs s ∧ (s.dev.tg n).caps = [(x, i, len, [])] ∧ x < s.dev.ssi + 32 ∧ i <
    64 ∧ (∀ e ∈ s.dev.inputs, ∀ k ∈ e.2.caps, k.isOpen = false → k.engine = none → x < k.start) ∧ (s.dev.input i).caps = [] ∧ (s.dev.input
    i).full = false ∧ s.dev.flag F.ipCapCtrlEn i = true ∧ s.dev.flag F.ipCapCtrlWrap i = true ∧ s.dev.fld F.ipCtrlCapdec i ≤ 3 ∧
    s.dev.unitsUsed x + capUnits (s.dev.fld F.ipCtrlCapdec i) ≤ 64 ∧ (s.dev.reg .ipCapWr i).toNat < (s.dev.reg .ipCapSize i).toNat) ∧
  (∃ (s : State) (p : Fin 8) (b : Vc1Block) (m : Vc1Block) (x : Int), Runs s ∧ s.dev.portUp p = true ∧ s.dev.decrypted p b = m ∧
    Vc1Block.good m = true ∧ Vc1Block.type m = 2 ∧ x = nearIndex (bitsOf m.bits 39 16) s.dev.ssi 24 + 32 * bitsOf m.bits 48 40 ∧ x <
    (s.dev.ssi : Int) - 1048576) ∧
  (∃ (s : State) (p : Fin 8) (b : Vc1Block) (m : Vc1Block) (x : Nat) (j : Fin 16), Runs s ∧ s.dev.portUp p = true ∧ s.dev.decrypted p b =
    m ∧ Vc1Block.good m = true ∧ Vc1Block.type m = 2 ∧ nearIndex (bitsOf m.bits 39 16) s.dev.ssi 24 + 32 * bitsOf m.bits 48 40 = (x : Int)
    ∧ s.dev.ssi + 32 ≤ x ∧ bitsOf m.bits 59 58 ≠ 3 ∧ (∀ g : Fin 16, s.dev.flag F.tgFwdEn g = false) ∧ (∀ g : Fin 16, (s.dev.flag F.tgXinEn
    0 g && s.dev.fld F.tgXinPort 0 g == p.val && s.dev.fld F.tgXinSev 0 g == bitsOf m.bits 56 49) = decide (g = j)) ∧ s.dev.trig.remote =
    []) ∧
  (∃ (s : State) (p : Fin 8) (b : Vc1Block) (m : Vc1Block) (x : Nat) (j : Fin 16), Runs s ∧ s.dev.portUp p = true ∧ s.dev.decrypted p b =
    m ∧ Vc1Block.good m = true ∧ Vc1Block.type m = 2 ∧ nearIndex (bitsOf m.bits 39 16) s.dev.ssi 24 + 32 * bitsOf m.bits 48 40 = (x : Int)
    ∧ s.dev.ssi ≤ x + 1048576 ∧ x < s.dev.ssi ∧ bitsOf m.bits 59 58 ≠ 3 ∧ (∀ g : Fin 16, s.dev.flag F.tgFwdEn g = false) ∧ (∀ g : Fin 16,
    (s.dev.flag F.tgXinEn 0 g && s.dev.fld F.tgXinPort 0 g == p.val && s.dev.fld F.tgXinSev 0 g == bitsOf m.bits 56 49) = decide (g = j)))
    :=
  ⟨⟨st (tgD 0x4A22 2), 15, ⟨31999968, false, [], true⟩, 0x4A22, 2, by decide +kernel⟩,
   ⟨st (tgD 0x3FFD 15), 15, ⟨31999968, false, [], true⟩, 0x3FFD, 15, 31999968 + 768, [], by decide +kernel⟩,
⟨st {((ready.putReg .ipCapSize 100 63).plant F.ipCapCtrlEn 1 63).plant F.ipCapCtrlWrap 1 63 with trig := {eng := [(15, {caps := [(31999999, 63, 5, [])]})]}},
      15, 31999999, 63, 5, by decide +kernel⟩,
   ⟨st (xe ready), 7, coded (eframe (30951423 % 2^24) 0), plainBlock (eframe (30951423 % 2^24) 0), 30951423, by decide +kernel⟩,
   ⟨st (xe0 ready), 7, plainBlock (eframe (32000000 % 2^24) 1), plainBlock (eframe (32000000 % 2^24) 1), 32000032, 15, by decide +kernel⟩,
   ⟨st (xe0 ready), 7, plainBlock (eframe (31999967 % 2^24) 1), plainBlock (eframe (31999967 % 2^24) 1), 31999999, 15, by decide +kernel⟩⟩

/-- The hypotheses of Obligations.TriggerTransitions can be met, clause by clause. -/
theorem witness_TriggerTransitions_2 :
  (∃ (s : State) (p : Fin 8) (b : Vc1Block) (m : Vc1Block) (x : Nat) (h : Nat) (out : List Nat), Runs s ∧ s.dev.portUp p = true ∧
    s.dev.decrypted p b = m ∧ Vc1Block.good m = true ∧ Vc1Block.type m = 2 ∧ nearIndex (bitsOf m.bits 39 16) s.dev.ssi 24 + 32 * bitsOf
    m.bits 48 40 = (x : Int) ∧ s.dev.ssi ≤ x + 1048576 ∧ h = bitsOf m.bits 59 58 ∧ out = (if h = 3 then [] else (List.range 8).filter fun
    r => r != p.val && s.dev.portUp r && (List.range 16).any fun g => s.dev.flag F.tgFwdEn g && decide (s.dev.fld F.tgFwdSevLo g ≤ bitsOf
    m.bits 56 49) && decide (bitsOf m.bits 56 49 ≤ s.dev.fld F.tgFwdSevHi g) && bitOf (s.dev.fld F.tgFwdIoIn g) p && bitOf (s.dev.fld
    F.tgFwdIoOut g) r) ∧ (∀ r ∈ out, (s.dev.link r).vq.length < 64) ∧ (∀ g : Fin 16, (s.dev.flag F.tgXinEn 0 g && s.dev.fld F.tgXinPort 0
    g == p.val && s.dev.fld F.tgXinSev 0 g == bitsOf m.bits 56 49) = false)) :=
  ⟨st (xf ready {} {vq := [8]}), 7, plainBlock (eframe (31999967 % 2^24) 1 2), plainBlock (eframe (31999967 % 2^24) 1 2), 31999999, 2,
      [3], by decide +kernel⟩

end F11

namespace F12
def b8 (n : Nat) : List Byte := (List.range n).map fun i => BitVec.ofNat 8 (i * 37 + 1)
def mrg (line : Nat) (r : Bool := false) : MergeEnt := ⟨3, line, [(0, 5)], 0, r⟩
def frz : Device := {(((ready.plant F.memStatusFrozen 1).putReg .memFrzLine (BitVec.ofNat 32 (dramLines - 1))).plant F.memFrzCauseCause 2) with dram := [(32 * dramLines - 33, 5), (32 * dramLines - 32, 6), (32 * dramLines - 1, 7)]}
def dq (wr : Bool) (req : Nat := 3) : DReq := {seq := 5, write := wr, line := dramLines - 1, req := req, id := 9, data := b8 32}
def dch (wr : Bool) (req : Nat := 3) : Device := {ready with mc := {ready.mc with q := [dq wr req], flips := [(dramLines - 1, [(0,1)])], chans := [(63, {rows := [(dBank (dramLines - 1), dRow (dramLines - 1))], wr := true}), (1, {})]}}
def fdata (d : Device) : List Byte := natBytes (d.storedWord (dramLines - 1))
def dqf (req : Nat := 3) : DReq := {dq false req with data := fdata {ready with dram := [(32*dramLines - 1, 77)]}}
def fl (req : Nat) : Device := {ready with dram := [(32*dramLines - 1, 77)], mc := {ready.mc with chans := [(63, {flight := [dqf req, dq false]})], host := [{id := 9, ctx := hostAck, opcode := 0x0A01, lines := [dramLines - 1]}]}}
def scr : Device := ((ready.plant F.memCtrlScrubEn 1).plant F.memCtrlSramScrubEn 1)

/-- The hypotheses of Obligations.MemoryCommands can be met, clause by clause. -/
theorem witness_MemoryCommands_1 :
  (∃ (s : State) (c : Ctx) (first : Nat) (n : Nat), Takes s c ∧ 1 ≤ n ∧ n ≤ 4096 ∧ first + n ≤ dramLines ∧ s.dev.linesAway c.sess first n
    = false ∧ s.dev.flag F.memStatusFrozen = false ∧ s.dev.rewriting first n = false) ∧
  (∃ (s : State) (c : Ctx) (line : Nat) (data : List Byte), Takes s c ∧ data ≠ [] ∧ data.length % 32 = 0 ∧ data.length ≤ 256 ∧ line +
    data.length / 32 ≤ dramLines ∧ s.dev.linesAway c.sess line (data.length / 32) = false ∧ s.dev.flag F.memStatusFrozen = false ∧
    s.dev.rewriting line (data.length / 32) = false ∧ s.dev.mc.q = [] ∧ s.dev.mc.wait = []) ∧
  (∃ (s : State) (c : Ctx) (line : Nat) (data : List Byte), Takes s c ∧ data.length = 32 ∧ line < dramLines ∧ s.dev.linesAway c.sess line
    1 = false ∧ s.dev.flag F.memStatusFrozen = false ∧ s.dev.rewriting line 1 = false ∧ 8 ≤ (s.dev.mc.q.filter fun r => r.write && dPc
    r.line == dPc line && dBank r.line == dBank line && r.req != 4).length ∧ s.dev.mc.wait = []) ∧
  (∃ (s : State) (c : Ctx) (addr : Nat) (data : List Byte), Takes s c ∧ data ≠ [] ∧ addr % 32 + data.length ≤ 32 ∧ data.length < 32 ∧ addr
    / 32 < dramLines ∧ s.dev.linesAway c.sess (addr / 32) 1 = false ∧ s.dev.flag F.memStatusFrozen = false ∧ s.dev.rewriting (addr / 32) 1
    = false ∧ (∀ e ∈ s.dev.mc.merge, e.line ≠ addr / 32) ∧ s.dev.mc.merge.length < 16 ∧ (∀ r ∈ s.dev.mc.wait ++ s.dev.mc.q ++
    s.dev.mc.chans.flatMap (fun x => x.2.flight), r.req ≠ 4) ∧ (∀ r ∈ s.dev.mc.wait, r.req = 3 → r.id ≠ s.dev.mc.nextId)) ∧
  (∃ (s : State) (c : Ctx) (first : Nat) (n : Nat) (cls : Nat), Takes s c ∧ 1 ≤ n ∧ first + n ≤ 48 ∧ cls ≤ 2 ∧ s.dev.flag
    F.memStatusFrozen = false ∧ s.dev.mc.setclass = none ∧ s.dev.granulesUsed (2 ^ 25 * first) (2 ^ 25 * n) = false ∧ (∀ e ∈
    s.dev.mc.merge, e.line < 2 ^ 25 * first ∨ 2 ^ 25 * (first + n) ≤ e.line)) ∧
  (∃ (s : State) (c : Ctx) (j : ClassJob), Runs s ∧ s.dev.flag F.memStatusFrozen = false ∧ s.dev.mc.setclass = some j ∧ j.ctx = some c ∧
    j.cls < 4 ∧ j.first + j.count ≤ 48 ∧ s.dev.eng.running = none) :=
  ⟨⟨st {ready with mc := {ready.mc with nextId := 9, merge := [mrg (dramLines - 1)]}}, hostAck, dramLines - 3, 3, by decide +kernel⟩,
   ⟨st {ready with mc := {ready.mc with nextId := 9, merge := [mrg (dramLines - 1)]}}, hostAck, dramLines - 3, b8 96, by decide +kernel⟩,
⟨st {ready with mc := {ready.mc with nextId := 9, merge := [mrg (dramLines - 1)], q := (List.range 8).map fun i => {seq := i, write := true, line := dramLines - 1, req := 3, id := 4, data := b8 32}}},
      hostAck, dramLines - 1, b8 32, by decide +kernel⟩,
   ⟨st {ready with mc := {ready.mc with nextId := 9, merge := [mrg 4]}}, hostAck, 32 * dramLines - 2, b8 2, by decide +kernel⟩,
   ⟨st ready, hostAck, 47, 1, 2, by decide +kernel⟩,
⟨st {ready.plant F.memStatusSetclassBusy 1 with dram := [(2^30*47-1, 5), (2^30*47, 6), (2^30*48-1, 7)], mc := {ready.mc with flips := [(2^25*47, [(0,1)])], setclass := some ⟨some hostAck, 47, 1, 2, 2^25*47 + 1, []⟩}},
      hostAck, ⟨some hostAck, 47, 1, 2, 2^25*47 + 1, []⟩, by decide +kernel⟩⟩

/-- The hypotheses of Obligations.MemoryCommands can be met, clause by clause. -/
theorem witness_MemoryCommands_2 :
  (∃ (s : State) (c : Ctx), Takes s c ∧ s.dev.flag F.memStatusFrozen = true ∧ s.dev.mc.wait = [] ∧ s.dev.mc.hostw = [] ∧ (∀ x ∈
    s.dev.inputs, x.2.held = [])) ∧
  (∃ (s : State) (c : Ctx), Takes s c ∧ s.dev.flag F.memStatusFrozen = true ∧ s.dev.mc.wait = [] ∧ s.dev.mc.hostw = [] ∧ (∀ x ∈
    s.dev.inputs, x.2.held = []) ∧ s.dev.fld F.memFrzCauseCause < 3) ∧
  (∃ (s : State) (c : Ctx) (line : Nat), Takes s c ∧ line < dramLines ∧ s.dev.linesAway c.sess line 1 = false ∧ s.dev.rewriting line 1 =
    false) ∧
  (∃ (s : State) (c : Ctx) (r : Repair), Takes s c ∧ r.kind ≤ 1 ∧ r.stack ≤ 1 ∧ r.ch ≤ 15 ∧ r.pc ≤ 1 ∧ r.bg ≤ 15 ∧ r.bank ≤ 3 ∧ (r.kind =
    0 → r.row < 12288 ∧ ∀ e ∈ s.dev.repairs, e.take 6 ≠ [0, r.stack, r.ch, r.pc, r.bg, r.bank]) ∧ s.dev.fld F.memRepairFree ≠ 0 ∧
    s.dev.flag F.thStatusFuseOk = true) ∧
  (∃ (s : State) (c : Ctx) (first : Nat) (n : Nat), Takes s c ∧ 1 ≤ n ∧ first + n ≤ 48 ∧ s.dev.flag F.memStatusFrozen = false ∧
    s.dev.rewriting (2 ^ 25 * first) (2 ^ 25 * n) = false) ∧
  (∃ (s : State) (c : Ctx) (first : Nat) (n : Nat) (cls : Nat) (data : List Byte), Takes s c ∧ s.dev.flag F.memStatusFrozen = true ∧ 1 ≤ n
    ∧ first + n ≤ 48 ∧ cls ≤ 2 ∧ s.dev.linesAway c.sess first n = false ∧ data ≠ [] ∧ data.length ≤ 32 ∧ s.dev.linesAway c.sess first 1 =
    false) :=
  ⟨⟨st frz, hostAck, by decide +kernel⟩,
   ⟨st frz, hostAck, by decide +kernel⟩,
   ⟨st frz, hostAck, dramLines - 1, by decide +kernel⟩,
   ⟨st ((ready.plant F.thStatusFuseOk 1).plant F.memRepairFree 256), hostAck, ⟨0, 1, 15, 1, 15, 3, 12287⟩, by decide +kernel⟩,
   ⟨st ready, hostAck, 47, 1, by decide +kernel⟩,
   ⟨st frz, hostAck, 1, 47, 2, b8 32, by decide +kernel⟩⟩

/-- The hypotheses of Obligations.DramController can be met, clause by clause. -/
theorem witness_DramController_1 :
  (∃ (s : State) (r : DReq), Runs s ∧ s.dev.flag F.memStatusFrozen = false ∧ s.dev.mc.q = [r] ∧ s.dev.mc.wait = [] ∧ (∀ x ∈
    s.dev.mc.chans, x.2.forced = false ∧ x.2.debt = 0 ∧ x.2.skip ≠ some (s.dev.cycle, s.dev.mc.slots)) ∧ s.dev.mc.hostw = [] ∧ (∀ j,
    s.dev.mc.setclass = some j → j.stop ≤ j.fed) ∧ r.write = true ∧ r.req ≠ 6 ∧ sfind (s.dev.chan (dPc r.line)).rows (dBank r.line) = some
    (dRow r.line)) ∧
  (∃ (s : State) (r : DReq), Runs s ∧ s.dev.flag F.memStatusFrozen = false ∧ s.dev.mc.q = [r] ∧ s.dev.mc.wait = [] ∧ (∀ x ∈
    s.dev.mc.chans, x.2.forced = false ∧ x.2.debt = 0 ∧ x.2.skip ≠ some (s.dev.cycle, s.dev.mc.slots)) ∧ s.dev.mc.hostw = [] ∧ (∀ j,
    s.dev.mc.setclass = some j → j.stop ≤ j.fed) ∧ r.write = false ∧ sfind (s.dev.chan (dPc r.line)).rows (dBank r.line) = some (dRow
    r.line)) ∧
  (∃ (s : State) (r : DReq), Runs s ∧ s.dev.flag F.memStatusFrozen = false ∧ s.dev.mc.q = [r] ∧ s.dev.mc.wait = [] ∧ (∀ x ∈
    s.dev.mc.chans, x.2.forced = false ∧ x.2.debt = 0 ∧ x.2.skip ≠ some (s.dev.cycle, s.dev.mc.slots)) ∧ s.dev.mc.hostw = [] ∧ (∀ j,
    s.dev.mc.setclass = some j → j.stop ≤ j.fed) ∧ sfind (s.dev.chan (dPc r.line)).rows (dBank r.line) = none) ∧
  (∃ (s : State) (r : DReq) (row : Nat), Runs s ∧ s.dev.flag F.memStatusFrozen = false ∧ s.dev.mc.q = [r] ∧ s.dev.mc.wait = [] ∧ (∀ x ∈
    s.dev.mc.chans, x.2.forced = false ∧ x.2.debt = 0 ∧ x.2.skip ≠ some (s.dev.cycle, s.dev.mc.slots)) ∧ s.dev.mc.hostw = [] ∧ (∀ j,
    s.dev.mc.setclass = some j → j.stop ≤ j.fed) ∧ sfind (s.dev.chan (dPc r.line)).rows (dBank r.line) = some row ∧ row ≠ dRow r.line) ∧
  (∃ (s : State) (p : Fin 64) (r : DReq) (rest : List DReq) (h : HostOp) (w : Decoded), Runs s ∧ (s.dev.chan p).flight = r :: rest ∧ w =
    decodeLine r.cls (r.data.map BitVec.toNat) ∧ w.bad = false ∧ w.fixed = false ∧ r.req = 3 ∧ s.dev.mc.hostw = [] ∧ s.dev.mc.host = [h] ∧
    h.id = r.id ∧ h.lines = [r.line] ∧ h.got = [] ∧ h.bind = none ∧ s.dev.eng.running = none) ∧
  (∃ (s : State) (p : Fin 64) (r : DReq) (rest : List DReq) (errs : List (Nat × Nat)) (w : Decoded), Runs s ∧ (s.dev.chan p).flight = r ::
    rest ∧ w = decodeLine r.cls (withErrors (r.data.map BitVec.toNat) errs) ∧ w.bad = true ∧ r.cls < 2 ∧ r.req = 4 ∧ r.write = false ∧
    s.dev.flag F.memStatusFrozen = false ∧ s.dev.mc.hostw = []) :=
  ⟨⟨st (dch true), dq true, by decide +kernel⟩,
   ⟨st (dch false), dq false, by decide +kernel⟩,
   ⟨st {dch false with mc := {(dch false).mc with chans := []}}, dq false, by decide +kernel⟩,
   ⟨st {dch true with mc := {(dch true).mc with chans := [(63, {rows := [(dBank (dramLines - 1), 5)]})]}}, dq true, 5, by decide +kernel⟩,
   ⟨st (fl 3), 63, dqf, [dq false], {id := 9, ctx := hostAck, opcode := 0x0A01, lines := [dramLines - 1]},
      decodeLine 0 ((fl 3).storedWord (dramLines - 1)), by decide +kernel⟩,
   ⟨st (fl 4), 63, dqf 4, [dq false], [(0, 7), (5, 9)], decodeLine 0 (withErrors ((fl 4).storedWord (dramLines - 1)) [(0, 7), (5, 9)]),
      by decide +kernel⟩⟩

/-- The hypotheses of Obligations.DramController can be met, clause by clause. -/
theorem witness_DramController_2 :
  (∃ (s : State) (st : Fin 2) (ch : Fin 16), Runs s ∧ s.dev.flag F.memStatusFrozen = false ∧ (s.dev.chan (st.val + 2 * ch.val)).last =
    none ∧ (s.dev.chan (st.val + 2 * ch.val + 32)).last = none) ∧
  (∃ (s : State) (p : Fin 64) (r : DReq) (rest : List DReq), Runs s ∧ (s.dev.chan p).flight = r :: rest ∧ s.dev.flag F.memStatusFrozen =
    false ∧ r.req = 4 ∧ r.write = false) ∧
  (∃ (s : State) (e : MergeEnt), Runs s ∧ s.dev.flag F.memStatusFrozen = false ∧ s.dev.mc.merge = [e] ∧ e.reading = false ∧
    s.dev.mergeLate e = true) ∧
  (∃ (s : State) (p : Fin 64), Runs s ∧ (s.dev.chan p).refAt ≤ s.dev.cycle ∧ (s.dev.chan p).debt < 8) ∧
  (∃ (s : State) (p : Fin 64), Runs s ∧ (s.dev.chan p).refAt ≤ s.dev.cycle ∧ 8 ≤ (s.dev.chan p).debt) ∧
  (∃ (s : State) (st : Fin 2) (t : Nat), Runs s ∧ 358150 < t ∧ s.dev.flag F.drRefstatHot 0 st = false) :=
  ⟨⟨st (fl 4), 1, 14, by decide +kernel⟩,
   ⟨st (fl 4), 63, dqf 4, [dq false], by decide +kernel⟩,
   ⟨st {ready with mc := {ready.mc with merge := [mrg (dramLines - 1)]}}, mrg (dramLines - 1), by decide +kernel⟩,
   ⟨st {ready with mc := {ready.mc with chans := [(63, {debt := 7, refAt := 1000000})]}}, 63, by decide +kernel⟩,
   ⟨st {ready with mc := {ready.mc with chans := [(63, {debt := 8, refAt := 1000000})]}}, 63, by decide +kernel⟩,
   ⟨st ready, 1, 358151, by decide +kernel⟩⟩

/-- The hypotheses of Obligations.DramController can be met, clause by clause. -/
theorem witness_DramController_3 :
  (∃ (s : State) (st : Fin 2) (t : Nat), Runs s ∧ t ≤ 358150 ∧ s.dev.flag F.drRefstatHot 0 st = true) :=
  ⟨st (ready.plant F.drRefstatHot 1 0 1), 1, 358150, by decide +kernel⟩

/-- The hypotheses of Obligations.Scrub can be met, clause by clause. -/
theorem witness_Scrub_1 :
  (∃ (s : State) (l : Nat) (n : Nat), Runs s ∧ s.dev.flag F.memStatusFrozen = false ∧ s.dev.flag F.memCtrlScrubEn = true ∧ s.dev.mc.ranges
    = [] ∧ s.dev.scrubNext (s.dev.reg .memScrubLine).toNat dramLines = some l ∧ s.dev.scrubSlot l = true ∧ s.dev.scrubNext (l + 1)
    dramLines = some n ∧ s.dev.leadNow = 0) ∧
  (∃ (s : State), Runs s ∧ s.dev.flag F.memCtrlScrubEn = false ∧ s.dev.mc.ranges = []) ∧
  (∃ (s : State), Runs s ∧ s.dev.flag F.memCtrlSramScrubEn = false) ∧
  (∃ (s : State) (region : Nat) (inst : Nat) (word : Nat), Runs s ∧ s.dev.flag F.memCtrlSramScrubEn = true ∧ (region, word) ≠ (11, 73727)
    ∧ s.dev.sramErrsAt region inst word = []) ∧
  (∃ (s : State) (inst : Nat), Runs s ∧ s.dev.flag F.memCtrlSramScrubEn = true ∧ s.dev.sramErrsAt 11 inst 73727 = []) ∧
  (∃ (s : State) (region : Nat) (inst : Nat) (word : Nat) (errs : List (Nat × Nat)) (w : Decoded), Runs s ∧ s.dev.flag
    F.memCtrlSramScrubEn = true ∧ (region, word) ≠ (11, 73727) ∧ sfind s.dev.sramErrs (s.dev.sramPlace region inst word) = none ∧ w =
    errDecode (sramClass region) (errNormal errs) ∧ w.bad = false ∧ w.fixed = true ∧ (∀ x ∈ (errDecode (sramClass region) errs).data, x =
    0) ∧ s.dev.mc.corrS ≠ some s.dev.cycle) :=
  ⟨⟨st (scr.putReg .memScrubLine (BitVec.ofNat 32 (dramLines - 2))), dramLines - 2, dramLines - 1, by decide +kernel⟩,
   ⟨st (ready.plant F.memCtrlScrubEn 0), by decide +kernel⟩,
   ⟨st (ready.plant F.memCtrlSramScrubEn 0), by decide +kernel⟩,
   ⟨st scr, 11, 0, 73726, by decide +kernel⟩,
   ⟨st scr, 0, by decide +kernel⟩,
   ⟨st {scr with sramErrs := [(3, [(1,1)])]}, 8, 3, 5, [(0, 4)], errDecode 1 (errNormal [(0, 4)]), by decide +kernel⟩⟩

/-- The hypotheses of Obligations.Scrub can be met, clause by clause. -/
theorem witness_Scrub_2 :
  (∃ (s : State) (region : Nat) (inst : Nat) (word : Nat) (errs : List (Nat × Nat)), Runs s ∧ s.dev.flag F.memCtrlSramScrubEn = true ∧ 9 ≤
    region ∧ region ≤ 11 ∧ (region, word) ≠ (11, 73727) ∧ sfind s.dev.sramErrs (s.dev.sramPlace region inst word) = none ∧ (errDecode 0
    (errNormal errs)).bad = true) :=
  ⟨st {scr with sramErrs := [(3, [(1,1)])]}, 9, 63, 5, [(0, 7), (5, 9)], by decide +kernel⟩

end F12

namespace F13
def lane (n v : Nat) (d : Device := ready) (x : SLane := {}) : Device := { d.plant F.lnStatLstate v n with slanes := [(n, x)] }
def placed (v m : Nat) (l : Nat := 3) : Device := ((((lane 71 5).plant F.lnPstatPstate v 7).plant F.lnPstatPlaced m 7).plant F.lkPstatLstate l 7).putReg .lnPmap 0x86543210 7
def albl (ok : Bool) (seq : Nat := 5) (at_ : Nat := 100) (l : Nat := 7) : AlignBlock := ⟨sealControl (0x78 + l * 2 ^ 8 + 3 * 2 ^ 12 + 12 * 2 ^ 16 + seq * 2 ^ 32) + b2n (!ok) * 2 ^ 63, at_⟩
def pt (v : Nat) (n : Nat) : Device := Fin.foldl n (fun d k => (d.plant F.lnStatLstate 5 (63 + k.val)).plant F.lnStatLlane k (63 + k.val)) (((ready.plant F.lnPctlEn 1 7).plant F.lnPstatPstate v 7))
def sp (d : Device) (x : SPort) : Device := { d with sports := [(7, x)] }
def al8 (d : Device) (n : Nat) : Device := { d with slanes := (List.range n).map fun k => (63 + k, { al := some (albl true 5 95 k) }) }

/-- The hypotheses of Obligations.LaneStates can be met, clause by clause. -/
theorem witness_LaneStates_1 :
  (∃ (s : State) (c : Ctx) (p : Fin 8) (v : Nat), Takes s c ∧ v < 2 ^ 32 ∧ s.dev.flag F.lnPctlEn p = false ∧ s.dev.pstate p = 0 ∧
    s.dev.lstate p = 0 ∧ (∀ k : Fin 9, s.dev.laneState (9 * p.val + k.val) = 0)) ∧
  (∃ (s : State) (c : Ctx) (p : Fin 8) (v : Nat), Takes s c ∧ v < 2 ^ 32 ∧ s.dev.flag F.lnPctlEn p = true) ∧
  (∃ (s : State) (n : Fin 72), Runs s ∧ s.dev.laneState n = 1 ∧ s.dev.flag F.lnPctlEqs (n.val / 9) = true ∧ (s.dev.slane n).searched =
    false) ∧
  (∃ (s : State) (n : Fin 72), Runs s ∧ s.dev.laneState n = 1 ∧ (s.dev.flag F.lnPctlEqs (n.val / 9) = false ∨ (s.dev.slane n).searched =
    true)) ∧
  (∃ (s : State) (n : Fin 72), Runs s ∧ s.dev.laneState n ≠ 0 ∧ s.dev.laneState n ≠ 5) ∧
  (∃ (s : State) (n : Fin 72), Runs s ∧ s.dev.laneState n = 5 ∧ s.dev.carried (n.val / 9) (n.val % 9) = none) :=
  ⟨⟨st ready, host, 7, 3, by decide +kernel⟩,
   ⟨st ((ready.plant F.lnPctlEn 1 7).plant F.lnPstatPstate 1 7), hostAck, 7, 0, by decide +kernel⟩,
   ⟨st ((lane 71 1).plant F.lnPctlEqs 1 7), 71, by decide +kernel⟩,
   ⟨st (lane 71 1), 71, by decide +kernel⟩,
   ⟨st (lane 71 4), 71, by decide +kernel⟩,
   ⟨st (lane 71 5), 71, by decide +kernel⟩⟩

/-- The hypotheses of Obligations.LaneStates can be met, clause by clause. -/
theorem witness_LaneStates_2 :
  (∃ (s : State) (n : Fin 72) (j : Nat), Runs s ∧ s.dev.laneState n = 5 ∧ s.dev.carried (n.val / 9) (n.val % 9) = some j) ∧
  (∃ (s : State) (n : Fin 72), Runs s ∧ s.dev.laneState n = 3 ∧ s.dev.flag F.thStartLaneclk = false) ∧
  (∃ (s : State) (n : Fin 72), Runs s ∧ (s.dev.laneState n = 2 ∨ s.dev.laneState n = 4)) ∧
  (∃ (s : State) (n : Fin 72), Runs s ∧ s.dev.laneState n = 5) ∧
  (∃ (s : State) (n : Fin 72) (m : Nat), Runs s ∧ s.dev.laneState n = 2 ∧ (s.dev.slane n).eqAt ≤ s.dev.cycle ∧ s.dev.fld F.lnCtlCtle n <
    15 ∧ m < 256 ∧ (s.dev.fld F.lnCtlCtle n = 0 ∨ (s.dev.slane n).best < m)) ∧
  (∃ (s : State) (n : Fin 72) (m : Nat), Runs s ∧ s.dev.laneState n = 2 ∧ (s.dev.slane n).eqAt ≤ s.dev.cycle ∧ s.dev.fld F.lnCtlCtle n <
    15 ∧ s.dev.fld F.lnCtlCtle n ≠ 0 ∧ m < 256 ∧ m ≤ (s.dev.slane n).best) :=
  ⟨⟨st (placed 3 0xFF), 71, 7, by decide +kernel⟩,
   ⟨st (lane 0 3), 0, by decide +kernel⟩,
   ⟨st (lane 71 4), 71, by decide +kernel⟩,
   ⟨st (placed 4 0x8F), 71, by decide +kernel⟩,
   ⟨st ((lane 71 2 ready {best := 9}).plant F.lnCtlCtle 14 71), 71, 10, by decide +kernel⟩,
   ⟨st ((lane 71 2 ready {best := 9}).plant F.lnCtlCtle 14 71), 71, 9, by decide +kernel⟩⟩

/-- The hypotheses of Obligations.LaneStates can be met, clause by clause. -/
theorem witness_LaneStates_3 :
  (∃ (s : State) (n : Fin 72) (m : Nat), Runs s ∧ s.dev.laneState n = 2 ∧ (s.dev.slane n).eqAt ≤ s.dev.cycle ∧ s.dev.fld F.lnCtlCtle n =
    15 ∧ m ≤ (s.dev.slane n).best ∧ (s.dev.slane n).best < 256 ∧ (s.dev.slane n).bestAt < 16) ∧
  (∃ (s : State) (n : Fin 72) (m : Nat), Runs s ∧ s.dev.laneState n = 2 ∧ (s.dev.slane n).eqAt ≤ s.dev.cycle ∧ s.dev.fld F.lnCtlCtle n =
    15 ∧ m < 256 ∧ (s.dev.slane n).best < m) ∧
  (∃ (s : State) (n : Fin 72), Runs s ∧ (s.dev.fld F.lnCtlLoop n = 1 ∨ s.dev.fld F.lnCtlLoop n = 2 ∨ s.dev.laneState n = 0)) ∧
  (∃ (s : State) (n : Fin 72) (hdr : Nat) (body : Nat), Runs s ∧ s.dev.fld F.lnCtlLoop n ≠ 1 ∧ s.dev.fld F.lnCtlLoop n ≠ 2 ∧
    let b := if s.dev.flag F.lnCtlRxinv n then invertBlock (hdr, body) else (hdr, body); s.dev.laneState n ≠ 0 ∧ s.dev.laneState n ≠ 4 ∧
    s.dev.laneState n ≠ 5) ∧
  (∃ (s : State) (n : Fin 72) (hdr : Nat) (body : Nat), Runs s ∧ s.dev.fld F.lnCtlLoop n ≠ 1 ∧ s.dev.fld F.lnCtlLoop n ≠ 2 ∧
    s.dev.laneState n = 4 ∧ let b := if s.dev.flag F.lnCtlRxinv n then invertBlock (hdr, body) else (hdr, body); b.1 ≠ 1 ∧ b.1 ≠ 2) ∧
  (∃ (s : State) (n : Fin 72) (hdr : Nat) (body : Nat), Runs s ∧ s.dev.fld F.lnCtlLoop n ≠ 1 ∧ s.dev.fld F.lnCtlLoop n ≠ 2 ∧
    s.dev.laneState n = 4 ∧ let b := if s.dev.flag F.lnCtlRxinv n then invertBlock (hdr, body) else (hdr, body); (b.1 = 1 ∨ b.1 = 2) ∧
    (s.dev.slane n).hunt < 95) :=
  ⟨⟨st ((lane 71 2 ready {best := 255, bestAt := 4}).plant F.lnCtlCtle 15 71), 71, 255, by decide +kernel⟩,
   ⟨st ((lane 71 2 ready {best := 254, bestAt := 4}).plant F.lnCtlCtle 15 71), 71, 255, by decide +kernel⟩,
   ⟨st ((lane 71 5 ready {best := 254, bestAt := 4}).plant F.lnCtlLoop 2 71), 71, by decide +kernel⟩,
   ⟨st ((lane 71 3 ready {best := 254, bestAt := 4}).plant F.lnCtlLoop 3 71), 71, 1, 5, by decide +kernel⟩,
   ⟨st (lane 71 4 ready {hunt := 94}), 71, 0, 77, by decide +kernel⟩,
   ⟨st (lane 71 4 ready {hunt := 94}), 71, 2, 0, by decide +kernel⟩⟩

/-- The hypotheses of Obligations.LaneStates can be met, clause by clause. -/
theorem witness_LaneStates_4 :
  (∃ (s : State) (n : Fin 72) (hdr : Nat) (body : Nat), Runs s ∧ s.dev.fld F.lnCtlLoop n ≠ 1 ∧ s.dev.fld F.lnCtlLoop n ≠ 2 ∧
    s.dev.laneState n = 4 ∧ let b := if s.dev.flag F.lnCtlRxinv n then invertBlock (hdr, body) else (hdr, body); (b.1 = 1 ∨ b.1 = 2) ∧ 95
    ≤ (s.dev.slane n).hunt) ∧
  (∃ (s : State) (n : Fin 72) (hdr : Nat) (body : Nat), Runs s ∧ s.dev.fld F.lnCtlLoop n ≠ 1 ∧ s.dev.fld F.lnCtlLoop n ≠ 2 ∧
    s.dev.laneState n = 5 ∧ let b := if s.dev.flag F.lnCtlRxinv n then invertBlock (hdr, body) else (hdr, body);
    let ok := b.1 == 1 || b.1 == 2; let plain := descramble (s.dev.slane n).dscr b.2; (s.dev.slane n).bad + b2n (!ok) < 24) ∧
  (∃ (s : State) (n : Fin 72) (hdr : Nat) (body : Nat), Runs s ∧ s.dev.fld F.lnCtlLoop n ≠ 1 ∧ s.dev.fld F.lnCtlLoop n ≠ 2 ∧
    s.dev.laneState n = 5 ∧ let b := if s.dev.flag F.lnCtlRxinv n then invertBlock (hdr, body) else (hdr, body); b.1 ≠ 1 ∧ b.1 ≠ 2 ∧ 23 ≤
    (s.dev.slane n).bad) ∧
  (∃ (s : State) (c : Ctx) (n : Fin 72) (v : Nat), Takes s c ∧ v < 2 ^ 13 ∧ bitsOf v 11 10 < 2 ∧ (s.dev.pstate (n.val / 9) = 3 ∨
    s.dev.pstate (n.val / 9) = 4 → s.dev.carried (n.val / 9) (n.val % 9) = none)) ∧
  (∃ (s : State) (c : Ctx) (v : Nat), Takes s c ∧ v < 2 ^ 32 ∧ 2 ≤ bitsOf v 11 10) ∧
  (∃ (s : State) (c : Ctx) (n : Fin 72) (v : Nat) (j : Nat), Takes s c ∧ v < 2 ^ 32 ∧ bitsOf v 11 10 < 2 ∧ (s.dev.pstate (n.val / 9) = 3 ∨
    s.dev.pstate (n.val / 9) = 4) ∧ s.dev.carried (n.val / 9) (n.val % 9) = some j) :=
  ⟨⟨st (lane 71 4 ready {hunt := 95}), 71, 1, 0, by decide +kernel⟩,
   ⟨st (lane 71 5 ready {bad := 22, win := 254}), 71, 3, 0, by decide +kernel⟩,
   ⟨st (lane 71 5 ready {bad := 23, win := 254}), 71, 0, 0, by decide +kernel⟩,
   ⟨st (lane 71 5 ready {bad := 23, win := 254}), host, 71, 0x1405, by decide +kernel⟩,
   ⟨st (lane 71 5 ready {bad := 23, win := 254}), host, 0x1805, by decide +kernel⟩,
   ⟨st (placed 4 0x8F), host, 71, 5, 7, by decide +kernel⟩⟩

/-- The hypotheses of Obligations.Alignment can be met, clause by clause. -/
theorem witness_Alignment_1 :
  (∃ (s : State) (n : Fin 72), Runs s ∧ (s.dev.laneState n ≠ 5 ∨ s.dev.fld F.lnCtlLoop n = 3)) ∧
  (∃ (s : State) (n : Fin 72) (b : AlignBlock), Runs s ∧ s.dev.laneState n = 5 ∧ s.dev.fld F.lnCtlLoop n ≠ 3 ∧ alignGood b = false) ∧
  (∃ (s : State) (n : Fin 72) (b : AlignBlock), Runs s ∧ s.dev.laneState n = 5 ∧ s.dev.fld F.lnCtlLoop n ≠ 3 ∧ alignGood b = true ∧
    (s.dev.sport (n.val / 9)).judge = none ∧ (∀ x ∈ (s.dev.sport (n.val / 9)).last, x.1 ≠ alignSeq b)) ∧
  (∃ (s : State) (n : Fin 72) (b : AlignBlock) (first : Nat) (x : Nat) (k : Fin 9), Runs s ∧ s.dev.laneState n = 5 ∧ s.dev.fld F.lnCtlLoop
    n ≠ 3 ∧ alignGood b = true ∧ (s.dev.sport (n.val / 9)).judge = some (alignSeq b, first, x) ∧ b.at_ ≤ first + 31 ∧ 9 * (n.val / 9) +
    k.val ≠ n.val ∧ k.val ∈ s.dev.liveLanes (n.val / 9) ∧ (∀ a ∈ (s.dev.slane (9 * (n.val / 9) + k.val)).al, alignSeq a ≠ alignSeq b)) ∧
  (∃ (s : State) (n : Fin 72) (b : AlignBlock) (first : Nat), Runs s ∧ s.dev.laneState n = 5 ∧ s.dev.fld F.lnCtlLoop n ≠ 3 ∧ alignGood b =
    true ∧ (s.dev.sport (n.val / 9)).judge = none ∧ (s.dev.sport (n.val / 9)).last = some (alignSeq b, first) ∧ (s.dev.sport (n.val /
    9)).skewed ≠ some (alignSeq b) ∧ first + 31 < b.at_) ∧
  (∃ (s : State) (n : Fin 72) (b : AlignBlock) (first : Nat) (x : Nat), Runs s ∧ s.dev.laneState n = 5 ∧ s.dev.fld F.lnCtlLoop n ≠ 3 ∧
    alignGood b = true ∧ (s.dev.sport (n.val / 9)).judge = some (alignSeq b, first, x) ∧ b.at_ ≤ first + 31 ∧ (∀ k : Fin 9, k.val ∈
    s.dev.liveLanes (n.val / 9) → 9 * (n.val / 9) + k.val = n.val ∨ ∃ a, (s.dev.slane (9 * (n.val / 9) + k.val)).al = some a ∧ alignSeq a
    = alignSeq b)) :=
  ⟨⟨st (lane 71 4), 71, by decide +kernel⟩,
   ⟨st (lane 71 5), 71, albl false, by decide +kernel⟩,
   ⟨st (lane 71 5), 71, albl true, by decide +kernel⟩,
   ⟨st (sp (pt 1 9) {judge := some (5, 90, 3)}), 71, albl true, 90, 3, 4, by decide +kernel⟩,
   ⟨st (sp (pt 1 9) {last := some (5, 60), skewed := some 4}), 71, albl true, 60, by decide +kernel⟩,
   ⟨st (sp (al8 (pt 2 9) 8) {judge := some (5, 90, 3)}), 71, albl true 5 100 15, 90, 3, by decide +kernel⟩⟩

/-- The hypotheses of Obligations.Alignment can be met, clause by clause. -/
theorem witness_Alignment_2 :
  (∃ (d : Device) (p : Fin 8) (k : Fin 9) (t : Nat), (d.sport p).time = 16384 * t ∧ d.fld F.lnCtlLoop (9 * p.val + k.val) ≠ 3 ∧ (∀ j ∈
    (d.link p).onSpare, j < 8)) ∧
  (∃ (r : Nat) (b : Nat), r < 2 ^ 58 ∧ b < 2 ^ 64) ∧
  (∃ (s : State) (p : Fin 8), Runs s ∧ s.dev.alignDue p = false) ∧
  (∃ (s : State) (p : Fin 8), Runs s ∧ s.dev.alignDue p = true ∧ s.dev.flag F.lkPstatSkip p = false ∧ s.dev.pstate p ≠ 1 ∧ s.dev.pstate p
    ≠ 2) ∧
  (∃ (s : State) (p : Fin 8) (j : Nat), Runs s ∧ s.dev.alignDue p = true ∧ s.dev.flag F.lkPstatSkip p = true ∧ s.dev.fld F.lkPstatSkiplane
    p = j ∧ (s.dev.link p).onSpare = none ∧ s.dev.pstate p ≠ 1 ∧ s.dev.pstate p ≠ 2) ∧
  (∃ (s : State) (p : Fin 8), Runs s ∧ s.dev.alignDue p = true ∧ s.dev.flag F.lkPstatSkip p = false ∧ s.dev.pstate p = 1 ∧ 7 ≤
    ((s.dev.liveLanes p).filter fun k => s.dev.fld F.lnStatLlane (9 * p.val + k) != 15).length ∧ s.dev.lstate p = 0) :=
  ⟨⟨{ready with sports := [(7, {time := 16384 * 3})], links := [(7, {onSpare := some 7})]}, 7, 8, 3, by decide +kernel⟩,
   ⟨2 ^ 58 - 1, 2 ^ 64 - 1, by decide +kernel⟩,
   ⟨st ready, 7, by decide +kernel⟩,
   ⟨st (pt 3 0), 7, by decide +kernel⟩,
   ⟨st (((pt 3 0).plant F.lkPstatSkip 1 7).plant F.lkPstatSkiplane 6 7), 7, 6, by decide +kernel⟩,
   ⟨st (pt 1 7), 7, by decide +kernel⟩⟩

/-- The hypotheses of Obligations.Alignment can be met, clause by clause. -/
theorem witness_Alignment_3 :
  (∃ (s : State) (p : Fin 8), Runs s ∧ s.dev.alignDue p = true ∧ s.dev.flag F.lkPstatSkip p = false ∧ s.dev.pstate p = 2 ∧
    ((s.dev.liveLanes p).filter fun k => s.dev.fld F.lnStatLlane (9 * p.val + k) != 15).length < 7 ∧ s.dev.lstate p = 0) ∧
  (∃ (s : State) (c : Ctx) (p : Fin 8) (v : Nat), Takes s c ∧ v < 2 ^ 32 ∧ (bitOf v 1 = false ∨ s.dev.lstate p ≠ 4) ∧ (s.dev.flag
    F.lnPctlEn p = false ∨ bitOf v 0 = s.dev.flag F.lkPctlRole p)) ∧
  (∃ (s : State) (c : Ctx) (p : Fin 8) (v : Nat), Takes s c ∧ v < 2 ^ 32 ∧ bitOf v 0 ≠ s.dev.flag F.lkPctlRole p ∧ s.dev.flag F.lnPctlEn p
    = true) ∧
  (∃ (s : State) (c : Ctx) (v : Nat), Takes s c ∧ v < 2 ^ 32 ∧ (∀ p : Fin 8, s.dev.flag F.lnPctlEn p = false)) ∧
  (∃ (s : State) (c : Ctx) (v : Nat) (p : Fin 8), Takes s c ∧ v < 2 ^ 32 ∧ s.dev.flag F.lnPctlEn p = true) :=
  ⟨⟨st (pt 2 6), 7, by decide +kernel⟩,
   ⟨st ready, host, 7, 1, by decide +kernel⟩,
   ⟨st (ready.plant F.lnPctlEn 1 7), host, 7, 1, by decide +kernel⟩,
   ⟨st ready, host, 0x7FFF, by decide +kernel⟩,
   ⟨st (ready.plant F.lnPctlEn 1 7), host, 0, 7, by decide +kernel⟩⟩

end F13

namespace F14
open F10
def init (p : Nat) (x : Link := {}) : Device := { (ready.plant F.lkPstatLstate 1 p).plant F.lnPctlEn 1 p with links := [(p, x)], sports := [(p, {from_ := 999000, time := 1600, next := 12805})] }
def sx (e : Nat) (d : Device) : Device := { d with sess := [(0, { (d.session 0) with isOpen := true, via := 7, epoch := e, rx := [1,2,3] }), (3, { (d.session 3) with isOpen := true, via := 7, epoch := 9 }), (4, { (d.session 4) with isOpen := true, via := 6, epoch := 9 })], bulkSeq := [(7, 5), (6, 8)] }
def pbuf (d : Device) : Device := (d.plant F.lkPeerbufBuf0 255 7).plant F.lkPeerbufBuf3 1 7
def att (x : Link := {}) : Device := (up 7 ready x).plant F.lkPstatLstate 2 7
def hpay (dev : Nat := 0) : List Byte := leBytes 2 dev ++ zeros 2 ++ publicKey 5 ++ (List.range 32).map (BitVec.ofNat 8) ++ zeros 48 ++ publicKey 9
def fin (tag : Bool) : Finish := ⟨zeros 96, if tag then finishTag keyA (attestHeader 0x7F02 96) (zeros 96) else zeros 16⟩
def lf : LFrame := ⟨5, 0, true, true, [1]⟩
def on (d : Device) : Device := { d.plant F.lnPctlEn 1 7 with sports := [(7, {from_ := 999000, time := 1600, next := 12805})] }
def tf (l : List (Nat × Nat)) : LFrame := ⟨4095, 1, true, true, tagPayload l⟩
def rp0 : RawPacket := ⟨7,0,[],[],[],true⟩
def fr (n : Nat) (good : Bool) (vc : Nat := 0) (d : List Byte := zeros 32) : Sys2Proof.Frame := let f : LFrame := ⟨n, vc, false, false, d⟩; ⟨if good then f.head else f.head ^^^ 2 ^ 40, f.blocks.map fun b => (true, b), false⟩
def rf (n : Nat) : RxFail := ⟨ready.sampleCount - 64000, ready.sampleCount - 16000, 7, [0, n, 0, n, 0, 0, 0, 0]⟩

/-- The hypotheses of Obligations.LinkStates can be met, clause by clause. -/
theorem witness_LinkStates_1 :
  (∃ (s : State) (p : Fin 8), Runs s ∧ s.dev.linitDue p = false) ∧
  (∃ (s : State) (p : Fin 8), Runs s ∧ s.dev.linitDue p = true ∧ ((s.dev.link p).got && !(s.dev.link p).sentAcked && (s.dev.link
    p).farAcked) = false) ∧
  (∃ (s : State) (p : Fin 8), Runs s ∧ s.dev.linitDue p = true ∧ (s.dev.link p).got = true ∧ (s.dev.link p).sentAcked = false ∧
    (s.dev.link p).farAcked = true ∧ s.dev.isPeer p = false ∧ (s.dev.link p).farKind = 0 ∧ s.dev.fld F.lkPeerbufBuf0 p ≠ 0 ∧ s.dev.fld
    F.lkPeerbufBuf3 p ≠ 0 ∧ (∀ n : Fin 8, (s.dev.session n).isOpen = true → (s.dev.session n).via = p → (s.dev.session n).epoch < 65535))
    ∧
  (∃ (s : State) (p : Fin 8), Runs s ∧ s.dev.linitDue p = true ∧ (s.dev.link p).got = true ∧ (s.dev.link p).sentAcked = false ∧
    (s.dev.link p).farAcked = true ∧ s.dev.isPeer p = true ∧ (s.dev.link p).farKind = 2 ∧ s.dev.fld F.lkPeerbufBuf0 p ≠ 0 ∧ s.dev.fld
    F.lkPeerbufBuf3 p ≠ 0) ∧
  (∃ (s : State) (p : Fin 8), Runs s ∧ s.dev.linitDue p = true ∧ (s.dev.link p).got = true ∧ (s.dev.link p).sentAcked = false ∧
    (s.dev.link p).farAcked = true ∧ ((s.dev.link p).farKind ≠ (if s.dev.isPeer p then 2 else 0) ∨ s.dev.fld F.lkPeerbufBuf0 p = 0 ∨
    s.dev.fld F.lkPeerbufBuf3 p = 0)) ∧
  (∃ (s : State) (p : Fin 8) (b : LinitBlock), Runs s ∧ s.dev.lstate p = 1 ∧ (((s.dev.link p).farAcked || b.acked) && (s.dev.link
    p).sentAcked) = false) :=
  ⟨⟨st ready, 7, by decide +kernel⟩,
   ⟨st (init 7), 7, by decide +kernel⟩,
   ⟨st (sx 65534 (pbuf (init 7 {got := true, farAcked := true}))), 7, by decide +kernel⟩,
   ⟨st (sx 65534 ((pbuf (init 7 {got := true, farAcked := true, farKind := 2})).plant F.lkPctlRole 1 7)), 7, by decide +kernel⟩,
   ⟨st (sx 65534 (pbuf (init 7 {got := true, farAcked := true, farKind := 1}))), 7, by decide +kernel⟩,
   ⟨st (init 7 {sentAcked := true}), 7, ⟨2, false, 1, 300, 255⟩, by decide +kernel⟩⟩

/-- The hypotheses of Obligations.LinkStates can be met, clause by clause. -/
theorem witness_LinkStates_2 :
  (∃ (s : State) (p : Fin 8) (b : LinitBlock), Runs s ∧ s.dev.lstate p = 1 ∧ ((s.dev.link p).farAcked || b.acked) = true ∧ (s.dev.link
    p).sentAcked = true ∧ s.dev.isPeer p = false ∧ b.kind = 0 ∧ b.buf0 % 256 ≠ 0 ∧ b.buf3 % 256 ≠ 0 ∧ (∀ n : Fin 8, (s.dev.session
    n).isOpen = true → (s.dev.session n).via = p → (s.dev.session n).epoch < 65535)) ∧
  (∃ (s : State) (p : Fin 8), Runs s ∧ s.dev.linkOpen p = true) ∧
  (∃ (s : State) (p : Fin 8) (h : Hello), Runs s ∧ s.dev.lstate p = 2 ∧ (s.dev.link p).hello = none ∧ h.certOk = true ∧ h.leafOk = true ∧
    sliceB h.payload 132 48 = (List.range 12).flatMap (fun w => leBytes 4 (s.dev.reg .secOwnerdig 0 w).toNat) ∧ fieldB h.payload 0 2 =
    s.dev.fld F.lnPeerDevid p ∧ onCurve (pointOf (sliceB h.payload 4 96)) = true) ∧
  (∃ (s : State) (p : Fin 8) (h : Hello), Runs s ∧ s.dev.lstate p = 2 ∧ (s.dev.link p).hello = none ∧ h.certOk = true ∧ h.leafOk = true ∧
    sliceB h.payload 132 48 = (List.range 12).flatMap (fun w => leBytes 4 (s.dev.reg .secOwnerdig 0 w).toNat) ∧ fieldB h.payload 0 2 =
    s.dev.fld F.lnPeerDevid p ∧ onCurve (pointOf (sliceB h.payload 4 96)) = false) ∧
  (∃ (s : State) (p : Fin 8) (h : Hello), Runs s ∧ s.dev.lstate p = 2 ∧ (s.dev.link p).hello = none ∧ (h.certOk = false ∨ h.leafOk = false
    ∨ fieldB h.payload 0 2 ≠ s.dev.fld F.lnPeerDevid p ∨ sliceB h.payload 132 48 ≠ (List.range 12).flatMap fun w => leBytes 4 (s.dev.reg
    .secOwnerdig 0 w).toNat)) ∧
  (∃ (s : State) (p : Fin 8), Runs s ∧ (s.dev.lstate p ≠ 2 ∨ (s.dev.link p).hello ≠ none)) :=
  ⟨⟨st (sx 65534 (init 7 {sentAcked := true})), 7, ⟨0, true, 1, 300, 255⟩, by decide +kernel⟩,
   ⟨st (up 7 ready), 7, by decide +kernel⟩,
   ⟨st (att {eph := 77, nonce := zeros 32, mine := zeros 40}), 7, ⟨hpay, true, true⟩, by decide +kernel⟩,
   ⟨st (att {eph := 77, nonce := zeros 32, mine := zeros 40}), 7, ⟨zeros 300, true, true⟩, by decide +kernel⟩,
   ⟨st (att), 7, ⟨hpay 1, true, true⟩, by decide +kernel⟩,
   ⟨st (up 7 ready), 7, by decide +kernel⟩⟩

/-- The hypotheses of Obligations.LinkStates can be met, clause by clause. -/
theorem witness_LinkStates_3 :
  (∃ (s : State) (p : Fin 8) (f : Finish), Runs s ∧ s.dev.lstate p = 2 ∧ (s.dev.link p).hello = some true ∧ finishTag (s.dev.link
    p).rxKeys (attestHeader 0x7F02 96) f.payload = f.tag ∧ (∀ n : Fin 8, (s.dev.session n).isOpen = true → (s.dev.session n).via = p →
    (s.dev.session n).epoch < 65535)) ∧
  (∃ (s : State) (p : Fin 8) (f : Finish) (sigOk : Bool), Runs s ∧ s.dev.lstate p = 2 ∧ ((s.dev.link p).hello ≠ some true ∨ sigOk = false
    ∧ finishTag (s.dev.link p).rxKeys (attestHeader 0x7F02 96) f.payload = f.tag)) ∧
  (∃ (s : State) (p : Fin 8) (f : Finish), Runs s ∧ s.dev.lstate p = 2 ∧ (s.dev.link p).hello = some true ∧ finishTag (s.dev.link
    p).rxKeys (attestHeader 0x7F02 96) f.payload ≠ f.tag ∧ s.dev.suspects p = []) ∧
  (∃ (s : State) (p : Fin 8), Runs s ∧ s.dev.lstate p ≠ 2) ∧
  (∃ (s : State) (p : Fin 8), Runs s ∧ s.dev.lstate p = 2 ∧ (s.dev.link p).attestAt + 50000000 ≤ s.dev.cycle) ∧
  (∃ (s : State) (p : Fin 8), Runs s ∧ (s.dev.lstate p ≠ 2 ∨ s.dev.cycle < (s.dev.link p).attestAt + 50000000)) :=
  ⟨⟨st (sx 65534 (att {hello := some true, rxKeys := keyA})), 7, fin true, by decide +kernel⟩,
   ⟨st (att {hello := some true, rxKeys := keyA}), 7, fin true, false, by decide +kernel⟩,
   ⟨st (att {hello := some true, rxKeys := keyA}), 7, fin false, by decide +kernel⟩,
   ⟨st ready, 7, by decide +kernel⟩,
   ⟨st {att with cycle := 50000000}, 7, by decide +kernel⟩,
   ⟨st {att with cycle := 49999999}, 7, by decide +kernel⟩⟩

/-- The hypotheses of Obligations.LinkStates can be met, clause by clause. -/
theorem witness_LinkStates_4 :
  (∃ (s : State) (p : Fin 8), Runs s ∧ s.dev.linkOpen p = true) ∧
  (∃ (s : State) (p : Fin 8), Runs s ∧ s.dev.lstate p = 1) ∧
  (∃ (s : State) (p : Fin 8), Runs s ∧ s.dev.linkOpen p = true ∧ (s.dev.link p).heard + 4000 ≤ s.dev.cycle) ∧
  (∃ (s : State) (p : Fin 8), Runs s ∧ s.dev.lstate p = 1 ∧ (s.dev.link p).heard + 4000 ≤ s.dev.cycle) ∧
  (∃ (s : State) (p : Fin 8), Runs s ∧ s.dev.cycle < (s.dev.link p).heard + 4000) ∧
  (∃ (s : State) (c : Ctx) (p : Fin 8) (v : Nat), Takes s c ∧ v < 2 ^ 32 ∧ bitOf v 0 = s.dev.flag F.lkPctlRole p ∧ s.dev.lstate p = 4 ∧
    s.dev.physOk p = false) :=
  ⟨⟨st (up 7 ready {vq := [1], out := [⟨0, 0, true, true, []⟩]}), 7, by decide +kernel⟩,
   ⟨st (init 7), 7, by decide +kernel⟩,
   ⟨st (up 7 ready {vq := [1], heard := 1000000 - 4000, out := [⟨0, 0, true, true, []⟩]}), 7, by decide +kernel⟩,
   ⟨st (init 7 {heard := 1000000 - 4000}), 7, by decide +kernel⟩,
   ⟨st (up 7 ready {heard := 1000000 - 3999}), 7, by decide +kernel⟩,
   ⟨st (ready.plant F.lkPstatLstate 4 7), host, 7, 0, by decide +kernel⟩⟩

/-- The hypotheses of Obligations.LinkStates can be met, clause by clause. -/
theorem witness_LinkStates_5 :
  (∃ (s : State) (c : Ctx) (p : Fin 8) (v : Nat), Takes s c ∧ v < 2 ^ 32 ∧ bitOf v 0 = s.dev.flag F.lkPctlRole p ∧ s.dev.lstate p = 4 ∧
    s.dev.physOk p = true) ∧
  (∃ (s : State) (c : Ctx) (p : Fin 8) (v : Nat), Takes s c ∧ v < 2 ^ 32 ∧ bitOf v 0 = s.dev.flag F.lkPctlRole p ∧ s.dev.lstate p ≠ 4) ∧
  (∃ (s : State) (c : Ctx) (p : Nat), Takes s c ∧ 8 ≤ p) ∧
  (∃ (s : State) (c : Ctx) (p : Nat), Takes s c ∧ p < 8) :=
  ⟨⟨st ((ready.plant F.lkPstatLstate 4 7).plant F.lnPstatPstate 4 7), host, 7, 2, by decide +kernel⟩,
   ⟨st (init 7), host, 7, 2, by decide +kernel⟩,
   ⟨st ready, host, 8, by decide +kernel⟩,
   ⟨st (up 7 ready), hostAck, 7, by decide +kernel⟩⟩

/-- The hypotheses of Obligations.FramesAndRetries can be met, clause by clause. -/
theorem witness_FramesAndRetries_1 :
  (∃ (d : Device) (p : Fin 8), d.flag F.lnPctlEn p = true ∧ d.lstate p ≠ 4) ∧
  (∃ (f : LFrame), f.vc < 4 ∧ f.fseq < 4096 ∧ f.data.length = 32) ∧
  (∃ (s : State) (p : Fin 8), Runs s ∧ s.dev.linkOpen p = false) ∧
  (∃ (s : State) (p : Fin 8) (f : LFrame) (t : List LFrame), Runs s ∧ s.dev.linkOpen p = true ∧ (s.dev.isPeer p = true ∨ (∀ r ∈
    s.dev.eng.out, r.via ≠ p) ∧ s.dev.noticesOn p = []) ∧ (s.dev.link p).resend = f :: t ∧ s.dev.sramErrsAt 8 p (f.fseq % 2048) = []) ∧
  (∃ (s : State) (p : Fin 8) (a : Nat × Nat) (t : List (Nat × Nat)) (f : LFrame), Runs s ∧ s.dev.linkOpen p = true ∧ (s.dev.isPeer p =
    true ∨ (∀ r ∈ s.dev.eng.out, r.via ≠ p) ∧ s.dev.noticesOn p = []) ∧ (s.dev.link p).resend = [] ∧ (s.dev.link p).replay.length < 2048 ∧
    (s.dev.link p).owed = a :: t ∧ f = { fseq := (s.dev.link p).fseq, vc := 1, first := true, tag := true, data := tagPayload (a :: t) })
    ∧
  (∃ (s : State) (p : Fin 8) (f : LFrame) (rest : List LFrame) (vc : Nat), Runs s ∧ s.dev.linkOpen p = true ∧ (s.dev.isPeer p = true ∨ (∀
    r ∈ s.dev.eng.out, r.via ≠ p) ∧ s.dev.noticesOn p = []) ∧ (s.dev.link p).resend = [] ∧ (s.dev.link p).replay.length < 2048 ∧
    (s.dev.link p).owed = [] ∧ (s.dev.link p).ready = [vc] ∧ takeVc vc (s.dev.link p).out = some (f, rest)) :=
  ⟨⟨on ready, 7, by decide +kernel⟩,
   ⟨{lf with fseq := 4095, data := zeros 32}, by decide +kernel⟩,
   ⟨st ready, 7, by decide +kernel⟩,
   ⟨st (on (up 7 ready {resend := [lf, lf]})), 7, lf, [lf], by decide +kernel⟩,
   ⟨st (on (up 7 ready {fseq := 4095, owed := [(1,1),(2,2),(3,3)], out := [lf]})), 7, (1,1), [(2,2),(3,3)], tf [(1,1),(2,2)], by decide +kernel⟩,
   ⟨st (on (up 7 ready {fseq := 4095, cred := [1,0,0], out := [lf]})), 7, lf, [], 0, by decide +kernel⟩⟩

/-- The hypotheses of Obligations.FramesAndRetries can be met, clause by clause. -/
theorem witness_FramesAndRetries_2 :
  (∃ (s : State) (p : Fin 8), Runs s ∧ s.dev.linkOpen p = true ∧ (s.dev.isPeer p = true ∨ (∀ r ∈ s.dev.eng.out, r.via ≠ p) ∧
    s.dev.noticesOn p = []) ∧ (s.dev.link p).resend = [] ∧ (s.dev.link p).replay.length < 2048 ∧ (s.dev.link p).owed = [] ∧ 2 ≤
    (s.dev.link p).ready.length) ∧
  (∃ (s : State) (p : Fin 8), Runs s ∧ s.dev.linkOpen p = true ∧ (s.dev.isPeer p = true ∨ (∀ r ∈ s.dev.eng.out, r.via ≠ p) ∧
    s.dev.noticesOn p = []) ∧ (s.dev.link p).resend = [] ∧ (2048 ≤ (s.dev.link p).replay.length ∨ (s.dev.link p).owed = [] ∧ (s.dev.link
    p).ready = [])) ∧
  (∃ (s : State) (p : Fin 8) (f : Sys2Proof.Frame), Runs s ∧ s.dev.linkOpen p = true ∧ frameGood f = true ∧ frameSeq f = (s.dev.link
    p).expect ∧ frameVc f ≠ 1 ∧ (s.dev.isPeer p = true → frameVc f = 0) ∧ frameLast f = false ∧ (s.dev.isPeer p = true ∨ frameVc f = 2 ∨
    s.dev.queueRoom = true ∧ (s.dev.link p).waitp = [])) ∧
  (∃ (s : State) (p : Fin 8) (f : Sys2Proof.Frame), Runs s ∧ s.dev.linkOpen p = true ∧ frameGood f = true ∧ frameSeq f = (s.dev.link
    p).expect ∧ frameVc f ≠ 1 ∧ frameVc f ≠ 2 ∧ s.dev.isPeer p = false ∧ frameLast f = false ∧ (s.dev.queueRoom = false ∨ (s.dev.link
    p).waitp ≠ [])) ∧
  (∃ (s : State) (p : Fin 8) (f : Sys2Proof.Frame), Runs s ∧ s.dev.linkOpen p = true ∧ frameGood f = true ∧ frameSeq f = (s.dev.link
    p).expect ∧ frameVc f = 1 ∧ (s.dev.isPeer p = false ∨ frameTags f = [])) ∧
  (∃ (s : State) (p : Fin 8) (f : Sys2Proof.Frame), Runs s ∧ s.dev.linkOpen p = true ∧ frameGood f = true ∧ frameSeq f = (s.dev.link
    p).expect ∧ frameVc f ≠ 0 ∧ frameVc f ≠ 1 ∧ s.dev.isPeer p = true) :=
  ⟨⟨st (on ((up 7 ready {fseq := 4095, cred := [1,1,3], out := [{lf with vc := 2}, {lf with vc := 3}]}).plant F.lkPctlRole 0 7)), 7, by decide +kernel⟩,
   ⟨st (on ((up 7 ready {fseq := 4095, cred := [1,0,0], out := [{lf with vc := 2}, {lf with vc := 3}]}).plant F.lkPctlRole 0 7)), 7, by decide +kernel⟩,
   ⟨st ((up 7 ready {expect := 4095, part := [(3, [[1]])]}).plant F.lkPctlRole 0 7), 7, fr 4095 true 3, by decide +kernel⟩,
   ⟨st ((up 7 ready {expect := 4095, waitp := [rp0], part := [(3, [[1]])]}).plant F.lkPctlRole 0 7), 7, fr 4095 true 3, by decide +kernel⟩,
   ⟨st ((up 7 ready {expect := 4095, part := [(3, [[1]])]}).plant F.lkPctlRole 0 7), 7, fr 4095 true 1, by decide +kernel⟩,
   ⟨st ((up 7 ready {expect := 4095, part := [(3, [[1]])]})), 7, fr 4095 true 3, by decide +kernel⟩⟩

/-- The hypotheses of Obligations.FramesAndRetries can be met, clause by clause. -/
theorem witness_FramesAndRetries_3 :
  (∃ (s : State) (p : Fin 8) (f : Sys2Proof.Frame), Runs s ∧ s.dev.linkOpen p = true ∧ (frameGood f = false ∨ frameSeq f ≠ (s.dev.link
    p).expect) ∧ (s.dev.link p).fail = none) ∧
  (∃ (s : State) (p : Fin 8) (f : Sys2Proof.Frame) (e : RxFail), Runs s ∧ s.dev.linkOpen p = true ∧ (frameGood f = true ∧ frameSeq f ≠
    (s.dev.link p).expect ∨ frameGood f = false ∧ s.dev.sampleCount < e.last + s.dev.fld F.lkRtwait p) ∧ (s.dev.link p).fail = some e) ∧
  (∃ (s : State) (p : Fin 8) (f : Sys2Proof.Frame) (e : RxFail), Runs s ∧ s.dev.linkOpen p = true ∧ frameGood f = false ∧ (s.dev.link
    p).fail = some e ∧ e.last + s.dev.fld F.lkRtwait p ≤ s.dev.sampleCount ∧ e.tries < 8) ∧
  (∃ (s : State) (p : Fin 8), Runs s ∧ s.dev.lstate p ≠ 0 ∧ s.dev.lstate p ≠ 4) ∧
  (∃ (s : State) (p : Fin 8), Runs s ∧ (s.dev.lstate p = 0 ∨ s.dev.lstate p = 4)) ∧
  (∃ (s : State) (p : Fin 8), Runs s ∧ s.dev.linkOpen p = true) :=
  ⟨⟨st (on ((up 7 ready {expect := 4095, part := [(0, [[1]])]}).plant F.lkPctlRole 0 7)), 7, fr 4094 true, by decide +kernel⟩,
   ⟨st ((up 7 ready {expect := 4095, fail := some (rf 1)})), 7, fr 94 true, rf 1, by decide +kernel⟩,
   ⟨st (on (up 7 ready {expect := 4095, fail := some (rf 1)})), 7, fr 94 false, rf 1, by decide +kernel⟩,
   ⟨st (on (up 7 ready {expect := 4095, back := [513, 2, 3]})), 7, by decide +kernel⟩,
   ⟨st ready, 7, by decide +kernel⟩,
   ⟨st (up 7 ready {seen := [511, 2, 3], cred := [2,2,2], replay := [lf, {lf with fseq := 6}]}), 7, by decide +kernel⟩⟩

/-- The hypotheses of Obligations.FramesAndRetries can be met, clause by clause. -/
theorem witness_FramesAndRetries_4 :
  (∃ (s : State) (p : Fin 8), Runs s ∧ s.dev.lstate p = 1) ∧
  (∃ (s : State) (p : Fin 8) (n : Nat), Runs s ∧ s.dev.linkOpen p = true ∧ ((s.dev.link p).replay.dropWhile fun f => f.fseq != n) ≠ []) ∧
  (∃ (s : State) (p : Fin 8) (n : Nat), Runs s ∧ (s.dev.linkOpen p = false ∨ ((s.dev.link p).replay.dropWhile fun f => f.fseq != n) = []))
    ∧
  (∃ (s : State) (p : Fin 8) (e : RxFail), Runs s ∧ s.dev.linkOpen p = true ∧ (s.dev.link p).fail = some e ∧ e.tries < 8 ∧ e.last + 16000
    ≤ s.dev.sampleCount) ∧
  (∃ (s : State) (p : Fin 8), Runs s ∧ s.dev.retryDue p = false) ∧
  (∃ (s : State) (p : Fin 8) (e : RxFail) (j : Nat), Runs s ∧ s.dev.linkOpen p = true ∧ (s.dev.link p).fail = some e ∧ e.first + 64000 ≤
    s.dev.sampleCount ∧ worstLane e.errs = some j) :=
  ⟨⟨st (init 7), 7, by decide +kernel⟩,
   ⟨st (up 7 ready {replay := [lf, {lf with fseq := 6}]}), 7, 6, by decide +kernel⟩,
   ⟨st (up 7 ready {replay := [lf, {lf with fseq := 6}]}), 7, 7, by decide +kernel⟩,
   ⟨st (on (up 7 ready {fail := some (rf 1)})), 7, rf 1, by decide +kernel⟩,
   ⟨st (on (up 7 ready {fail := none})), 7, by decide +kernel⟩,
   ⟨st (on (up 7 ready {fail := some (rf 1)})), 7, rf 1, 1, by decide +kernel⟩⟩

/-- The hypotheses of Obligations.FramesAndRetries can be met, clause by clause. -/
theorem witness_FramesAndRetries_5 :
  (∃ (s : State) (p : Fin 8) (e : RxFail), Runs s ∧ s.dev.linkOpen p = true ∧ (s.dev.link p).fail = some e ∧ e.first + 64000 ≤
    s.dev.sampleCount ∧ worstLane e.errs = none) ∧
  (∃ (s : State) (p : Fin 8), Runs s ∧ s.dev.giveupDue p = false) ∧
  (∃ (s : State) (p : Fin 8) (v : Nat) (k : Nat × Nat), Runs s ∧ s.dev.portUp p = true ∧ (s.dev.link p).kept.find? (fun k => k.1 % 4096 ==
    v && decide (s.dev.slotV p ≤ k.1 + 256)) = some k) ∧
  (∃ (s : State) (p : Fin 8) (v : Nat), Runs s ∧ s.dev.portUp p = true ∧ 256 ≤ (s.dev.slotV p + 4096 - 1 - v) % 4096 ∧ (s.dev.link
    p).kept.find? (fun k => k.1 % 4096 == v && decide (s.dev.slotV p ≤ k.1 + 256)) = none) ∧
  (∃ (s : State) (p : Fin 8) (v : Nat), Runs s ∧ (s.dev.portUp p = false ∨ (s.dev.slotV p + 4096 - 1 - v) % 4096 < 256 ∧ (s.dev.link
    p).kept.find? (fun k => k.1 % 4096 == v && decide (s.dev.slotV p ≤ k.1 + 256)) = none)) ∧
  (∃ (s : State) (p : Fin 8) (lane : Nat), Runs s ∧ (s.dev.lstate p = 1 ∨ s.dev.linkOpen p = true) ∧ lane < 8 ∧ s.dev.flag F.lkPstatSkip p
    = false) :=
  ⟨⟨st (on (up 7 ready {fail := some (rf 0)})), 7, rf 0, by decide +kernel⟩,
   ⟨st (on (up 7 ready {fail := none})), 7, by decide +kernel⟩,
   ⟨st ((up 7 ready {kept := [(4096 + 5, 9)], vq := [8], slot := 4300})), 7, 5, (4101, 9), by decide +kernel⟩,
   ⟨st ((up 7 ready {kept := [(4096 + 5, 9)], vq := [8], slot := 4700})), 7, 5, by decide +kernel⟩,
   ⟨st ((up 7 ready {kept := [(4096 + 5, 9)], vq := [8], slot := 4300})), 7, 6, by decide +kernel⟩,
   ⟨st ((up 7 ready {replay := [lf]})), 7, 7, by decide +kernel⟩⟩

/-- The hypotheses of Obligations.FramesAndRetries can be met, clause by clause. -/
theorem witness_FramesAndRetries_6 :
  (∃ (s : State) (p : Fin 8), Runs s ∧ (s.dev.lstate p = 0 ∨ s.dev.lstate p = 4 ∨ s.dev.flag F.lkPstatSkip p = true)) ∧
  (∃ (s : State) (p : Fin 8) (j : Nat) (x : Nat) (o : Option Nat), Runs s ∧ (s.dev.lstate p = 1 ∨ s.dev.linkOpen p = true) ∧ (s.dev.link
    p).sparing = some (j, o, x) ∧ x ≤ s.dev.cycle) ∧
  (∃ (s : State) (p : Fin 8), Runs s ∧ s.dev.spareDue p = false) :=
  ⟨⟨st ready, 7, by decide +kernel⟩,
   ⟨st (on (up 7 ready {sparing := some (7, some 8, 1000000)})), 7, 7, 1000000, some 8, by decide +kernel⟩,
   ⟨st (on (up 7 ready {sparing := some (7, some 8, 1000001)})), 7, by decide +kernel⟩⟩

end F14

namespace F15
open F07
def keyS : List Byte := (List.range 72).map fun i => BitVec.ofNat 8 (5 * i + 3)
def ses0 : Session := {isOpen := true, via := 7, epoch := 3, rx := [24, 0, 4], keys := keyS}
def ses (d : Device := ready) (x : Session := ses0) : Device := { d with sess := [(5, x)] }
def hup (d : Device := ses) : Device := d.plant F.lkPstatLstate 3 7
def raw (op seq : Nat) (vc : Nat := 0) (fl : Nat := 0) (payload : List Byte := []) (count : Nat := 24) (dest : Nat := 0x3FFF) (len : Option Nat := none) (at_ : Nat := 0) (via : Nat := 7) (bad : Bool := false) (x : Session := ses0) : RawPacket :=
  let h := leBytes 2 op ++ leBytes 2 dest ++ leBytes 1 (5 + fl) ++ zeros 3 ++ leBytes 4 seq ++ leBytes 4 (len.getD payload.length) ++ leBytes 8 at_ ++ zeros 8
  let b := counterMode (x.key 0) (x.iv 0 vc count) 0 (sliceB payload 0 (32 * ((payload.length + 31) / 32)))
  { via := via, vc := vc, header := h, body := b, tag := if bad then zeros 16 else gcmTag (x.key 0) (x.iv 0 vc count) h b, sigOk := true }
def op (d : Device) (r : RawPacket) : Packet := d.openPacket r
def pk : Packet := ⟨7, 0, 257, 16383, 5, false, false, false, true, 1, 0, 0, 2, (some 24), true, (zeros 0)⟩
def fullQ (d : Device) : Device := { d with eng := { d.eng with queue := List.replicate 64 pk } }
def sspi : Device := ses ready {ses0 with via := 8}
def rw8 : RawPacket := ⟨8, 0, (([1, 1, 255, 63, 5, 0, 0, 0, 1, 0, 0, 0, 0, 0, 0, 0, 0, 0, 0, 0, 0, 0, 0, 0, 0, 0, 0, 0, 0, 0, 0, 0] : List Nat).map (BitVec.ofNat 8)), (zeros 0), (([120, 179, 182, 45, 5, 51, 0, 0, 200, 101, 111, 201, 153, 63, 200, 93] : List Nat).map (BitVec.ofNat 8)), true⟩
def rp : Reply := { via := 8, opcode := 0x102, sess := 5, flags := 1, devid := 0, status := 0, seq := 7, length := 33, steps := 1, at_ := 5, detail := 0, data := List.replicate 33 9 }
def eng (f : Engine → Engine) (d : Device := ses) : Device := { d with eng := f d.eng }
def tpk : Packet := {pk with opcode := 0x202, timed := true, execAt := 32010000, length := 8, payload := leBytes 4 (RegName.addr .tbEpochLo) ++ leBytes 4 77}
def tlaid : Laid := (layout 0x202 (packetCtx tpk) true tpk.payload).getD { fits := false, cmd := .identify (packetCtx tpk), resv := [] }
def rt (cmd : Instr) (op : Nat) (n : Nat) : Routine := { cmd := cmd, ctx := ⟨5, 7, 9, false, none⟩, opcode := op, steps := n, accepted := 5 }
def wl (b : Nat) : Instr := .regWriteList ⟨5, 7, 9, false, none⟩ [(RegName.addr .tbEpochLo, 0xFFFFFFFF), (b, 3)]
def wr (b n : Nat) : Routine := rt (wl b) 0x0204 n
def ur : Routine := rt (.stop ⟨5, 7, 9, false, none⟩ 0 0 0) 0x0F01 0
def pstop : Packet := {pk with opcode := 0x0F02, urgent := true, ack := true}
def rs5 : Routine := rt (.runStatus ⟨5, 7, 9, false, none⟩) 0x0504 0
def eb : Device := (atInstr 575 (.block 2 true true true false 0 511)).plant F.csEntry 10 575
def te : Timed := ⟨4, .muteAll host, ⟨3, 0, 90, false, none⟩, 0x202, 32002000, false, 32000000⟩
def ldg : Device := { ready.plant F.mcStatusLoading 1 with eng := { ready.eng with stageLen := 300, stage := [(296, 9), (299, 8)] } }
def body : List Byte := zeros 24
def img : List Byte := leBytes 4 0x4D434C51 ++ leBytes 4 77 ++ leBytes 4 5 ++ leBytes 2 1 ++ leBytes 2 1 ++ sha384 body ++ zeros 192 ++ body
def stg (i : List Byte) : Device := { ready.plant F.thStatusPlateOk 1 with eng := { ready.eng with stageLen := 280, stage := i.zipIdx.map fun x => (x.2, x.1) } }

def lit0 : RawPacket :=
  ⟨7, 0, (bytes [1, 1, 255, 63, 5, 0, 0, 0, 1, 0, 0, 0, 0, 0, 0, 0, 0, 0, 0, 0, 0, 0, 0, 0, 0, 0, 0, 0, 0, 0, 0, 0]), (zeros 0), (bytes
    [120, 179, 182, 45, 5, 51, 0, 0, 200, 101, 111, 201, 153, 63, 200, 93]), true⟩

def lit1 : Packet :=
  ⟨7, 0, 257, 16383, 5, false, false, false, true, 1, 0, 0, 2, (some 24), true, (zeros 0)⟩

def lit2 : RawPacket :=
  ⟨7, 0, (bytes [2, 15, 255, 63, 13, 0, 0, 0, 1, 0, 0, 0, 0, 0, 0, 0, 0, 0, 0, 0, 0, 0, 0, 0, 0, 0, 0, 0, 0, 0, 0, 0]), (zeros 0),
    (bytes [103, 18, 246, 111, 15, 141, 4, 116, 29, 119, 221, 161, 109, 157, 204, 254]), true⟩

def lit3 : Packet :=
  ⟨7, 0, 3842, 16383, 5, true, false, false, true, 1, 0, 0, 2, (some 24), true, (zeros 0)⟩

def lit4 : RawPacket :=
  ⟨7, 3, (bytes [2, 15, 255, 63, 13, 0, 0, 0, 1, 0, 0, 0, 0, 0, 0, 0, 0, 0, 0, 0, 0, 0, 0, 0, 0, 0, 0, 0, 0, 0, 0, 0]), (zeros 0),
    (bytes [228, 196, 241, 243, 197, 36, 213, 23, 133, 165, 6, 231, 81, 46, 240, 213]), true⟩

def lit5 : Packet :=
  ⟨7, 3, 3842, 16383, 5, true, false, false, true, 1, 0, 0, 2, none, true, (zeros 0)⟩

def lit6 : RawPacket :=
  ⟨7, 2, (bytes [1, 1, 255, 63, 5, 0, 0, 0, 1, 0, 0, 0, 0, 0, 0, 0, 0, 0, 0, 0, 0, 0, 0, 0, 0, 0, 0, 0, 0, 0, 0, 0]), (zeros 0), (bytes
    [28, 102, 235, 106, 41, 217, 138, 32, 130, 166, 18, 160, 120, 147, 230, 238]), true⟩

def lit7 : RawPacket :=
  ⟨7, 0, (bytes [1, 1, 255, 63, 5, 0, 0, 0, 1, 0, 0, 0, 0, 0, 0, 0, 0, 0, 0, 0, 0, 0, 0, 0, 0, 0, 0, 0, 0, 0, 0, 0]), (zeros 0), (bytes
    [65, 210, 147, 243, 187, 32, 222, 16, 55, 143, 148, 225, 135, 59, 21, 223]), true⟩

def lit8 : Packet :=
  ⟨7, 0, 257, 16383, 5, false, false, false, true, 1, 0, 0, 2, none, true, (zeros 0)⟩

def lit9 : RawPacket :=
  ⟨7, 3, (bytes [1, 1, 255, 63, 5, 0, 0, 0, 1, 0, 0, 0, 0, 0, 0, 0, 0, 0, 0, 0, 0, 0, 0, 0, 0, 0, 0, 0, 0, 0, 0, 0]), (zeros 0), (zeros
    16), true⟩

def lit10 : Packet :=
  ⟨7, 3, 257, 16383, 5, false, false, false, true, 1, 0, 0, 2, none, true, (zeros 0)⟩

def lit11 : RawPacket :=
  ⟨7, 0, (bytes [1, 1, 255, 63, 5, 0, 0, 0, 1, 0, 0, 0, 1, 0, 0, 0, 0, 0, 0, 0, 0, 0, 0, 0, 0, 0, 0, 0, 0, 0, 0, 0]), (bytes [168, 115,
    255, 251, 78, 231, 87, 39, 72, 31, 128, 175, 216, 100, 10, 27, 76, 204, 67, 5, 80, 54, 132, 132, 84, 110, 53, 72, 38, 237, 181,
    110]), (bytes [246, 6, 225, 233, 145, 44, 15, 255, 39, 20, 90, 149, 22, 90, 215, 133]), true⟩

def lit12 : Packet :=
  ⟨7, 0, 257, 16383, 5, false, false, false, true, 1, 1, 0, 3, (some 24), true, (bytes [1])⟩

def lit13 : RawPacket :=
  ⟨7, 0, (bytes [119, 119, 255, 63, 5, 0, 0, 0, 1, 0, 0, 0, 0, 0, 0, 0, 0, 0, 0, 0, 0, 0, 0, 0, 0, 0, 0, 0, 0, 0, 0, 0]), (zeros 0),
    (bytes [99, 33, 115, 175, 20, 35, 224, 192, 66, 110, 239, 73, 91, 220, 187, 162]), true⟩

def lit14 : Packet :=
  ⟨7, 0, 30583, 16383, 5, false, false, false, true, 1, 0, 0, 2, (some 24), true, (zeros 0)⟩

/-- The hypotheses of Obligations.PacketsArriving can be met, clause by clause. -/
theorem witness_PacketsArriving_1 :
  (∃ (s : State) (r : RawPacket) (p : Packet) (n : Nat), s.dev.live = true ∧ r.via < 8 ∧ s.dev.isPeer r.via = false ∧ s.dev.lstate r.via =
    3 ∧ s.dev.openPacket r = p ∧ (r.vc = 0 ∨ r.vc = 3) ∧ p.opcode ≠ 0x0C01 ∧ s.dev.queueRoom = true ∧ (s.dev.link r.via).waitp = [] ∧
    p.tag = some n ∧ packetTooLong p = false ∧ (s.dev.session p.sess).judge p.seq = .fresh ∧ lateChecks p s.dev = none ∧ p.urgent = false)
    ∧
  (∃ (s : State) (r : RawPacket) (p : Packet) (n : Nat), s.dev.live = true ∧ r.via < 8 ∧ s.dev.isPeer r.via = false ∧ s.dev.lstate r.via =
    3 ∧ s.dev.openPacket r = p ∧ r.vc = 0 ∧ p.opcode ≠ 0x0C01 ∧ p.tag = some n ∧ packetTooLong p = false ∧ (s.dev.session p.sess).judge
    p.seq = .fresh ∧ lateChecks p s.dev = none ∧ p.urgent = true ∧ s.dev.eng.urgq.length < 4) ∧
  (∃ (s : State) (r : RawPacket) (p : Packet), s.dev.live = true ∧ r.via < 8 ∧ s.dev.isPeer r.via = false ∧ s.dev.lstate r.via = 3 ∧
    s.dev.openPacket r = p ∧ (r.vc = 0 ∨ r.vc = 3) ∧ (p.urgent = false ∨ r.vc = 3) ∧ (s.dev.queueRoom = false ∨ (s.dev.link r.via).waitp ≠
    [])) :=
  ⟨⟨st (hup), lit0, lit1, 24, by decide +kernel⟩,
   ⟨st (fullQ hup), lit2, lit3, 24, by decide +kernel⟩,
   ⟨st (fullQ hup), lit4, lit5, by decide +kernel⟩⟩

/-- The hypotheses of Obligations.PacketsArriving can be met, clause by clause. -/
theorem witness_PacketsArriving_2 :
  (∃ (s : State) (r : RawPacket), Runs s ∧ r.via ≠ 8 ∧ (8 ≤ r.via ∨ s.dev.isPeer r.via = true ∨ s.dev.lstate r.via ≠ 3 ∨ r.vc ≠ 0 ∧ r.vc ≠
    3)) ∧
  (∃ (s : State) (r : RawPacket) (p : Packet), s.dev.live = true ∧ r.via < 8 ∧ s.dev.isPeer r.via = false ∧ s.dev.lstate r.via = 3 ∧
    s.dev.openPacket r = p ∧ r.vc = 0 ∧ p.opcode ≠ 0x0C01 ∧ s.dev.queueRoom = true ∧ (s.dev.link r.via).waitp = [] ∧ p.tag = none ∧
    (s.dev.session p.sess).isOpen = true) ∧
  (∃ (s : State) (r : RawPacket) (p : Packet), s.dev.live = true ∧ r.via < 8 ∧ s.dev.isPeer r.via = false ∧ s.dev.lstate r.via = 3 ∧
    s.dev.openPacket r = p ∧ r.vc = 0 ∧ p.opcode ≠ 0x0C01 ∧ s.dev.queueRoom = true ∧ (s.dev.link r.via).waitp = [] ∧ p.tag = none ∧
    (s.dev.session p.sess).isOpen = false) :=
  ⟨⟨st hup, lit6, by decide +kernel⟩,
   ⟨st (hup), lit7, lit8, by decide +kernel⟩,
   ⟨st (hup (ses ready {ses0 with isOpen := false})), lit0, lit8, by decide +kernel⟩⟩

/-- The hypotheses of Obligations.PacketsArriving can be met, clause by clause. -/
theorem witness_PacketsArriving_3 :
  (∃ (s : State) (r : RawPacket) (p : Packet), s.dev.live = true ∧ r.via < 8 ∧ s.dev.isPeer r.via = false ∧ s.dev.lstate r.via = 3 ∧
    s.dev.openPacket r = p ∧ r.vc = 3 ∧ p.opcode ≠ 0x0C01 ∧ s.dev.queueRoom = true ∧ (s.dev.link r.via).waitp = [] ∧ p.tag = none ∧
    (s.dev.session p.sess).isOpen = true) ∧
  (∃ (s : State) (r : RawPacket) (p : Packet) (n : Nat), s.dev.live = true ∧ r.via < 8 ∧ s.dev.isPeer r.via = false ∧ s.dev.lstate r.via =
    3 ∧ s.dev.openPacket r = p ∧ (r.vc = 0 ∨ r.vc = 3) ∧ p.opcode ≠ 0x0C01 ∧ s.dev.queueRoom = true ∧ (s.dev.link r.via).waitp = [] ∧
    p.tag = some n ∧ packetTooLong p = true) ∧
  (∃ (s : State) (r : RawPacket) (p : Packet) (n : Nat) (status : Nat) (flags : Nat) (steps : Nat) (x : Nat) (detail : Nat) (len : Nat)
    (op : Nat) (data : List Byte), s.dev.live = true ∧ r.via < 8 ∧ s.dev.isPeer r.via = false ∧ s.dev.lstate r.via = 3 ∧ s.dev.openPacket
    r = p ∧ (r.vc = 0 ∨ r.vc = 3) ∧ p.opcode ≠ 0x0C01 ∧ s.dev.queueRoom = true ∧ (s.dev.link r.via).waitp = [] ∧ p.tag = some n ∧
    packetTooLong p = false ∧ (s.dev.session p.sess).judge p.seq = .again (.recorded status flags steps x detail data len op)) :=
  ⟨⟨st (hup), lit9, lit10, by decide +kernel⟩,
   ⟨st (hup), lit11, lit12, 24, by decide +kernel⟩,
   ⟨st (hup (ses ready {ses0 with h := 1, marks := [(1, .recorded 0 1 1 55 0 [4] 1 0x102)]})), lit0, lit1, 24, 0, 1, 1, 55, 0, 1, 0x102,
      [4], by decide +kernel⟩⟩

/-- The hypotheses of Obligations.PacketsArriving can be met, clause by clause. -/
theorem witness_PacketsArriving_4 :
  (∃ (s : State) (r : RawPacket) (p : Packet) (n : Nat), s.dev.live = true ∧ r.via < 8 ∧ s.dev.isPeer r.via = false ∧ s.dev.lstate r.via =
    3 ∧ s.dev.openPacket r = p ∧ (r.vc = 0 ∨ r.vc = 3) ∧ p.opcode ≠ 0x0C01 ∧ s.dev.queueRoom = true ∧ (s.dev.link r.via).waitp = [] ∧
    p.tag = some n ∧ packetTooLong p = false ∧ (s.dev.session p.sess).judge p.seq = .again .executing) ∧
  (∃ (s : State) (r : RawPacket) (p : Packet) (n : Nat), s.dev.live = true ∧ r.via < 8 ∧ s.dev.isPeer r.via = false ∧ s.dev.lstate r.via =
    3 ∧ s.dev.openPacket r = p ∧ (r.vc = 0 ∨ r.vc = 3) ∧ p.opcode ≠ 0x0C01 ∧ s.dev.queueRoom = true ∧ (s.dev.link r.via).waitp = [] ∧
    p.tag = some n ∧ packetTooLong p = false ∧ seqDist p.seq (s.dev.session p.sess).h ≤ -4096) ∧
  (∃ (s : State) (r : RawPacket) (p : Packet) (n : Nat) (status : Nat) (detail : Nat), s.dev.live = true ∧ r.via < 8 ∧ s.dev.isPeer r.via
    = false ∧ s.dev.lstate r.via = 3 ∧ s.dev.openPacket r = p ∧ (r.vc = 0 ∨ r.vc = 3) ∧ p.opcode ≠ 0x0C01 ∧ s.dev.queueRoom = true ∧
    (s.dev.link r.via).waitp = [] ∧ p.tag = some n ∧ packetTooLong p = false ∧ (s.dev.session p.sess).judge p.seq = .fresh ∧ lateChecks p
    s.dev = some (status, detail)) :=
  ⟨⟨st (hup (ses ready {ses0 with h := 1, marks := [(1, .executing)]})), lit0, lit1, 24, by decide +kernel⟩,
   ⟨st (hup (ses ready {ses0 with h := 4097})), lit0, lit1, 24, by decide +kernel⟩,
   ⟨st (hup), lit13, lit14, 24, stBadOpcode, 0, by decide +kernel⟩⟩

/-- The hypotheses of Obligations.PacketsArriving can be met, clause by clause. -/
theorem witness_PacketsArriving_5 :
  (∃ (d : Device) (p : Packet), p.dest ≠ d.fld F.lkDevidDevid ∧ p.dest ≠ 0x3FFF) ∧
  (∃ (d : Device) (p : Packet), (p.dest = d.fld F.lkDevidDevid ∨ p.dest = 0x3FFF) ∧ opRow p.opcode = none) ∧
  (∃ (d : Device) (p : Packet), (p.dest = d.fld F.lkDevidDevid ∨ p.dest = 0x3FFF) ∧ opRow p.opcode ≠ none ∧ (p.resvOk = false ∨ p.timed =
    false ∧ p.execAt ≠ 0 ∨ p.timed = true ∧ (mayTime p.opcode = false ∨ p.urgent = true) ∨ p.urgent = true ∧ (p.opcode / 256 ≠ 0x0F ∨ p.vc
    ≠ 0 ∧ p.via ≠ 8))) :=
  ⟨⟨hup, {pk with dest := 5}, by decide +kernel⟩,
   ⟨hup, {pk with opcode := 0x7777}, by decide +kernel⟩,
   ⟨hup, {pk with resvOk := false}, by decide +kernel⟩⟩

/-- The hypotheses of Obligations.PacketsArriving can be met, clause by clause. -/
theorem witness_PacketsArriving_6 :
  (∃ (d : Device) (p : Packet), (p.dest = d.fld F.lkDevidDevid ∨ p.dest = 0x3FFF) ∧ opRow p.opcode ≠ none ∧ p.resvOk = true ∧ p.timed =
    true ∧ mayTime p.opcode = true ∧ p.urgent = false) ∧
  (∃ (s : State) (r : RawPacket) (p : Packet) (n : Nat), s.dev.live = true ∧ r.via < 8 ∧ s.dev.isPeer r.via = false ∧ s.dev.lstate r.via =
    3 ∧ s.dev.openPacket r = p ∧ r.vc = 0 ∧ p.opcode ≠ 0x0C01 ∧ p.tag = some n ∧ packetTooLong p = false ∧ (s.dev.session p.sess).judge
    p.seq = .fresh ∧ lateChecks p s.dev = none ∧ p.urgent = true ∧ 4 ≤ s.dev.eng.urgq.length) :=
  ⟨⟨hup, {pk with timed := true, opcode := 0x202, execAt := 32000000 + 2 ^ 40 + 1}, by decide +kernel⟩,
   ⟨st ({hup with eng := {hup.eng with urgq := List.replicate 4 (pk, 1)}}), lit2, lit3, 24, by decide +kernel⟩⟩

def lit15 : RawPacket :=
  ⟨2, 3, (bytes [1, 1, 255, 63, 5, 0, 0, 0, 1, 0, 0, 0, 0, 0, 0, 0, 0, 0, 0, 0, 0, 0, 0, 0, 0, 0, 0, 0, 0, 0, 0, 0]), (zeros 0), (bytes
    [120, 179, 182, 45, 5, 51, 0, 0, 200, 101, 111, 201, 153, 63, 200, 93]), true⟩

def lit16 : Packet :=
  ⟨8, 0, 257, 16383, 5, false, false, false, true, 1, 0, 0, 2, (some 24), true, (zeros 0)⟩

def lit17 : Packet :=
  ⟨8, 0, 257, 16383, 5, false, false, false, true, 1, 0, 0, 2, none, true, (zeros 0)⟩

def lit18 : RawPacket :=
  ⟨8, 0, (bytes [1, 1, 255, 63, 5, 0, 0, 0, 1, 0, 0, 0, 0, 0, 0, 0, 0, 0, 0, 0, 0, 0, 0, 0, 0, 0, 0, 0, 0, 0, 0, 0]), (zeros 0), (bytes
    [120, 179, 182, 45, 5, 51, 0, 0, 200, 101, 111, 201, 153, 63, 200, 93]), true⟩

/-- The hypotheses of Obligations.MgmtSpi can be met, clause by clause. -/
theorem witness_MgmtSpi_1 :
  (∃ (s : State) (r : RawPacket) (p : Packet) (n : Nat), s.dev.live = true ∧ s.dev.eng.put = none ∧ s.dev.queueRoom = true ∧
    s.dev.openPacket { r with via := 8, vc := 0 } = p ∧ p.opcode ≠ 0x0C01 ∧ p.tag = some n ∧ packetTooLong p = false ∧ (s.dev.session
    p.sess).judge p.seq = .fresh ∧ lateChecks p s.dev = none ∧ p.urgent = false) ∧
  (∃ (s : State) (r : RawPacket) (p : Packet), s.dev.live = true ∧ s.dev.eng.put = none ∧ (s.dev.queueRoom = true ∨ isUrgent r = true) ∧
    s.dev.openPacket { r with via := 8, vc := 0 } = p ∧ p.opcode ≠ 0x0C01 ∧ p.tag = none ∧ (s.dev.session p.sess).isOpen = false) ∧
  (∃ (s : State) (r : RawPacket), s.dev.live = true ∧ s.dev.eng.put = none ∧ s.dev.queueRoom = false ∧ isUrgent r = false) ∧
  (∃ (s : State) (q : RawPacket), s.dev.live = true ∧ s.dev.eng.put = some q) ∧
  (∃ (s : State) (r : Reply) (rest : List Reply), Runs s ∧ popSpi s.dev.eng.out = some (r, rest)) ∧
  (∃ (s : State) (n : Nat) (r : Reply) (rest : List Reply), Runs s ∧ (∀ x ∈ s.dev.eng.out, x.via ≠ 8) ∧ s.dev.noticesOn 8 = [n] ∧ n < 8 ∧
    (s.dev.session n).notices = r :: rest ∧ r.sess = n) :=
  ⟨⟨st sspi, lit15, lit16, 24, by decide +kernel⟩,
   ⟨st (ses ready {ses0 with via := 8, isOpen := false}), lit15, lit17, by decide +kernel⟩,
   ⟨st (fullQ sspi), lit18, by decide +kernel⟩,
   ⟨st {sspi with eng := {sspi.eng with put := some rw8}}, lit18, by decide +kernel⟩,
   ⟨st {sspi with eng := {sspi.eng with out := [{rp with via := 3}, rp, rp]}}, rp, [{rp with via := 3}, rp], by decide +kernel⟩,
   ⟨st ((ses ready {ses0 with via := 8, notices := [rp, rp]}).plant F.ceNotlost 3 5), 5, rp, [rp], by decide +kernel⟩⟩

/-- The hypotheses of Obligations.MgmtSpi can be met, clause by clause. -/
theorem witness_MgmtSpi_2 :
  (∃ (s : State), Runs s ∧ (∀ x ∈ s.dev.eng.out, x.via ≠ 8) ∧ s.dev.noticesOn 8 = []) :=
  ⟨st sspi, by decide +kernel⟩

/-- The hypotheses of Obligations.Routines can be met, clause by clause. -/
theorem witness_Routines_1 :
  (∃ (s : State) (p : Packet) (rest : List Packet) (l : Laid), s.dev.live = true ∧ s.dev.eng.running = none ∧ s.dev.eng.urgent = none ∧
    s.dev.eng.urgq = [] ∧ s.dev.workBad = none ∧ s.dev.eng.queue = p :: rest ∧ (p.via ≠ 8 ∨ s.dev.spiFull = false) ∧ layout p.opcode
    (packetCtx p) p.sigOk p.payload = some l ∧ l.fits = true ∧ p.timed = false ∧ s.dev.eng.put = none ∧ (∀ q : Fin 8, (s.dev.link q).waitp
    = [] ∧ (s.dev.link q).owe = [0, 0, 0] ∧ (s.dev.link q).back.length = 3)) ∧
  (∃ (s : State) (p : Packet) (rest : List Packet) (l : Laid), s.dev.live = true ∧ s.dev.eng.running = none ∧ s.dev.eng.urgent = none ∧
    s.dev.eng.urgq = [] ∧ s.dev.workBad = none ∧ s.dev.eng.queue = p :: rest ∧ (p.via ≠ 8 ∨ s.dev.spiFull = false) ∧ layout p.opcode
    (packetCtx p) p.sigOk p.payload = some l ∧ l.fits = true ∧ p.timed = true ∧ l.resvFault p.payload = none ∧ s.dev.eng.timed.length < 64
    ∧ p.execAt ≤ s.dev.ssi + 2 ^ 40 ∧ s.dev.fld F.tbStatusRegState ≠ 1 ∧ (commandOf l.cmd).map (fun x => (x.2.2 (({ s.dev with eng :=
    { s.dev.eng with queue := rest } } : Device).accept (packetCtx p) p.opcode)).status) = some stOk ∧ s.dev.eng.put = none ∧ (∀ q : Fin
    8, (s.dev.link q).waitp = [] ∧ (s.dev.link q).owe = [0, 0, 0] ∧ (s.dev.link q).back.length = 3)) ∧
  (∃ (s : State), s.dev.live = true ∧ (s.dev.eng.running ≠ none ∨ s.dev.eng.urgent ≠ none ∨ s.dev.eng.urgq ≠ [] ∨ s.dev.eng.queue = [] ∧
    s.dev.workBad = none)) ∧
  (∃ (s : State) (r : Routine) (c : Ctx) (v : Nat) (w : Nat), s.dev.live = true ∧ s.dev.eng.urgent = none ∧ s.dev.eng.running = some r ∧
    r.paused = none ∧ r.waiting = false ∧ r.cmd = .regWriteList c [(RegName.addr .tbEpochLo, v), (RegName.addr .tbEpochHi, w)] ∧ r.steps =
    0 ∧ r.opcode = 0x0204 ∧ v < 2 ^ 32 ∧ sget 0 s.dev.hwNow (RegName.addr .tbEpochLo) = 0) ∧
  (∃ (s : State) (r : Routine) (c : Ctx) (v : Nat) (w : Nat), s.dev.live = true ∧ s.dev.eng.urgent = none ∧ s.dev.eng.running = some r ∧
    r.paused = none ∧ r.waiting = false ∧ r.cmd = .regWriteList c [(RegName.addr .tbEpochLo, v), (RegName.addr .tbEpochHi, w)] ∧ r.steps =
    1 ∧ r.opcode = 0x0204 ∧ w < 2 ^ 32 ∧ sget 0 s.dev.hwNow (RegName.addr .tbEpochHi) = 0) ∧
  (∃ (s : State) (r : Routine) (c : Ctx) (v : Nat) (x : Nat) (w : Nat), s.dev.live = true ∧ s.dev.eng.urgent = none ∧ s.dev.eng.running =
    some r ∧ r.paused = none ∧ r.waiting = false ∧ r.cmd = .regWriteList c [(RegName.addr .tbEpochLo, v), (x, w)] ∧ findReg x = none ∧
    r.steps = 1 ∧ r.opcode = 0x0204 ∧ r.preempted = none) :=
  ⟨⟨st (eng fun e => {e with queue := [{pk with ack := true}, pk]}), {pk with ack := true}, [pk],
      { fits := true, cmd := .identify (packetCtx {pk with ack := true}), resv := [] }, by decide +kernel⟩,
   ⟨st (eng fun e => {e with queue := [tpk, pk]}), tpk, [pk], tlaid, by decide +kernel⟩,
   ⟨st (eng fun e => {e with urgq := [(pk, 1)], queue := [pk]}), by decide +kernel⟩,
   ⟨st (eng fun e => {e with running := some (wr (RegName.addr .tbEpochHi) 0)}), wr (RegName.addr .tbEpochHi) 0, ⟨5, 7, 9, false, none⟩,
      0xFFFFFFFF, 3, by decide +kernel⟩,
   ⟨st (eng fun e => {e with running := some (wr (RegName.addr .tbEpochHi) 1)}), wr (RegName.addr .tbEpochHi) 1, ⟨5, 7, 9, false, none⟩,
      0xFFFFFFFF, 3, by decide +kernel⟩,
   ⟨st (eng fun e => {e with running := some (wr 3 1)}), wr 3 1, ⟨5, 7, 9, false, none⟩, 0xFFFFFFFF, 3, 3, by decide +kernel⟩⟩

/-- The hypotheses of Obligations.Routines can be met, clause by clause. -/
theorem witness_Routines_2 :
  (∃ (s : State) (r : Routine) (c : Ctx), s.dev.live = true ∧ s.dev.eng.urgent = some r ∧ r.cmd = .stop c 0 0 0 ∧ r.opcode = 0x0F01 ∧
    r.resv = none ∧ r.preempted = none) ∧
  (∃ (s : State) (r : Routine), s.dev.live = true ∧ s.dev.eng.urgent = none ∧ s.dev.eng.running = some r ∧ r.paused = none ∧ maxCycles
    r.opcode r.cmd + r.away ≤ s.dev.cycle - r.accepted ∧ r.preempted = none ∧ s.dev.mc.host = [] ∧ (r.opcode = 0x0A02 → s.dev.mc.hostw =
    []) ∧ (r.opcode = 0x0A03 → s.dev.mc.setclass = none) ∧ r.opcode ≠ 0x0C01) ∧
  (∃ (s : State), s.dev.lateRoutine = none) ∧
  (∃ (s : State) (p : Packet) (x : Nat) (rest : List (Packet × Nat)) (l : Laid) (r : Routine), s.dev.live = true ∧ s.dev.eng.urgent = none
    ∧ s.dev.eng.urgq = (p, x) :: rest ∧ layout p.opcode (packetCtx p) p.sigOk p.payload = some l ∧ l.fits = true ∧ s.dev.eng.running =
    some r ∧ r.paused = none ∧ r.opcode / 256 ≠ 5) ∧
  (∃ (s : State) (p : Packet) (x : Nat) (rest : List (Packet × Nat)) (l : Laid), s.dev.live = true ∧ s.dev.eng.urgent = none ∧
    s.dev.eng.urgq = (p, x) :: rest ∧ layout p.opcode (packetCtx p) p.sigOk p.payload = some l ∧ l.fits = true ∧ (s.dev.eng.running = none
    ∨ ∃ r, s.dev.eng.running = some r ∧ r.paused ≠ none)) ∧
  (∃ (s : State) (p : Packet) (x : Nat) (rest : List (Packet × Nat)) (l : Laid) (r : Routine), s.dev.live = true ∧ s.dev.eng.urgent = none
    ∧ s.dev.eng.urgq = (p, x) :: rest ∧ layout p.opcode (packetCtx p) p.sigOk p.payload = some l ∧ l.fits = true ∧ s.dev.eng.running =
    some r ∧ r.paused = none ∧ r.opcode / 256 = 5 ∧ s.dev.mc.host = []) :=
  ⟨⟨st (eng fun e => {e with running := some (wr 3 1), urgent := some ur}), ur, ⟨5, 7, 9, false, none⟩, by decide +kernel⟩,
   ⟨st (eng (fun e => {e with running := some (wr 3 1)}) {ses with cycle := 500 * 40 + 5}), wr 3 1, by decide +kernel⟩,
   ⟨st ready, by decide +kernel⟩,
   ⟨st (eng fun e => {e with running := some (wr 3 1), urgq := [(pstop, 44)]}), pstop, 44, [],
      { fits := true, cmd := .muteAll (packetCtx pstop), resv := [] }, wr 3 1, by decide +kernel⟩,
   ⟨st (eng fun e => {e with running := some {wr 3 1 with paused := some 3}, urgq := [(pstop, 44)]}), pstop, 44, [],
      { fits := true, cmd := .muteAll (packetCtx pstop), resv := [] }, by decide +kernel⟩,
   ⟨st (eng fun e => {e with running := some rs5, urgq := [(pstop, 44)]}), pstop, 44, [],
      { fits := true, cmd := .muteAll (packetCtx pstop), resv := [] }, rs5, by decide +kernel⟩⟩

/-- The hypotheses of Obligations.Routines can be met, clause by clause. -/
theorem witness_Routines_3 :
  (∃ (s : State), s.dev.live = true ∧ (s.dev.eng.urgent ≠ none ∨ s.dev.eng.urgq = [])) ∧
  (∃ (s : State) (r : Routine) (t : Nat), s.dev.live = true ∧ s.dev.eng.urgent = none ∧ s.dev.eng.urgq = [] ∧ s.dev.eng.running = some r ∧
    r.paused = some t) :=
  ⟨⟨st (eng fun e => {e with urgent := some rs5, urgq := [(pstop, 44)]}), by decide +kernel⟩,
   ⟨st (eng fun e => {e with running := some {wr 3 1 with paused := some 44}}), {wr 3 1 with paused := some 44}, 44, by decide +kernel⟩⟩

/-- The hypotheses of Obligations.ProgramsAndRuns can be met, clause by clause. -/
theorem witness_ProgramsAndRuns_1 :
  (∃ (s : State) (c : Ctx) (kind : Nat) (n : Nat) (first : Nat) (ins : List Nat), Takes s c ∧ kind < 2 ∧ n < (if kind = 0 then 64 else 8)
    ∧ ins ≠ [] ∧ first + ins.length ≤ 32768 ∧ s.dev.storeWritable kind n c.sess = true ∧ s.dev.spanBusy (storeNo kind n) first ins.length
    = false ∧ loadFault kind (storeNo kind n) first c.sess s.dev (writeProg (storeNo kind n) first ins s.dev) ins 0 = none ∧ (kind = 0 →
    loadInfeasible (storeNo kind n) first ins.length (writeProg (storeNo kind n) first ins s.dev) = none)) ∧
  (∃ (s : State) (c : Ctx) (kind : Nat) (n : Nat) (first : Nat) (w : Nat), Takes s c ∧ kind < 2 ∧ n < (if kind = 0 then 64 else 8) ∧ first
    < 32768 ∧ s.dev.storeWritable kind n c.sess = true ∧ s.dev.spanBusy (storeNo kind n) first 1 = false ∧ SeqInstr.decode w = none) ∧
  (∃ (s : State) (c : Ctx) (kind : Nat) (n : Nat) (first : Nat) (count : Nat), Takes s c ∧ kind < 2 ∧ n < (if kind = 0 then 64 else 8) ∧ 0
    < count ∧ first + count ≤ 32768) ∧
  (∃ (s : State) (c : Ctx) (es : List RunEntry), Takes s c ∧ es ≠ [] ∧ es.length ≤ 64 ∧ s.dev.offers = [] ∧ s.dev.fld F.tbStatusRegState ≠
    1 ∧ (∀ e ∈ es, e.seq < 576 ∧ s.dev.seqWritable e.seq c.sess = true ∧ s.dev.seqActive e.seq = false ∧ s.dev.entryOk e.seq 32768
    (s.dev.entryOf e) = true)) ∧
  (∃ (s : State) (c : Ctx) (k : Fin 576) (tgt : Nat) (b : Blk), Takes s c ∧ s.dev.isBlockAt (storeOf k) tgt = true ∧ s.dev.seqWritable k
    c.sess = true ∧ s.dev.seqState k = 2 ∧ (s.dev.seq k).pres = none ∧ (s.dev.seq k).represent = none ∧ (s.dev.seq k).blk = some b) ∧
  (∃ (s : State) (c : Ctx), Takes s c) :=
  ⟨⟨st {ready with prog := [(32768 * 63 + 32765, 7)], ev := {ready.ev with cut := [5]}}, hostAck, 0, 63, 32766,
      [SeqInstr.nop.encode, SeqInstr.strobe.encode], by decide +kernel⟩,
   ⟨st ready, host, 1, 7, 32767, 0xFF00000000000000, by decide +kernel⟩,
   ⟨st {ready with prog := [(32768 * 71 + 32767, 7)]}, host, 1, 7, 32766, 2, by decide +kernel⟩,
   ⟨st eb, hostAck, [⟨575, 5, true⟩], by decide +kernel⟩,
   ⟨st ((atInstr 575 (.block 2 true true true false 0 511) 32001000 {blk := some blk1}).plant F.csStatusState 2 575), hostAck, 575, 10,
      blk1, by decide +kernel⟩,
   ⟨st (ready.plant F.csStatusState 2 575), host, by decide +kernel⟩⟩

/-- The hypotheses of Obligations.ProgramsAndRuns can be met, clause by clause. -/
theorem witness_ProgramsAndRuns_2 :
  (∃ (s : State) (c : Ctx) (k : Fin 512), Takes s c ∧ s.dev.seqWritable k c.sess = true ∧ s.dev.offers = [] ∧ (s.dev.seq k).pres = none ∧
    (s.dev.seq k).represent = none ∧ (s.dev.seq k).altOf = none ∧ (s.dev.seq k).blk = none ∧ (s.dev.seq k).ending = [] ∧ (s.dev.seq
    k).final = none) ∧
  (∃ (s : State) (c : Ctx) (k : Fin 512), Takes s c ∧ s.dev.seqWritable k c.sess = false) ∧
  (∃ (s : State) (c : Ctx) (e : Timed), Takes s c ∧ s.dev.eng.timed = [e] ∧ e.ctx.sess = c.sess ∧ s.dev.eng.running = none ∧ s.dev.offers
    = []) :=
  ⟨⟨st {atInstr 511 .nop with ports := [(511, {voices := [{voice := 1, stream := false, seg := 0, start := 32001736, len := 4, reach := 0, gain := 1}]})]},
      hostAck, 511, by decide +kernel⟩,
   ⟨st (ready.putReg .secOwn 0x101 0 511), host, 511, by decide +kernel⟩,
⟨st ({atInstr 511 .nop 32001000 {blk := some blk1} with eng := {ready.eng with timed := [te]}, ports := [(511, {voices := [{voice := 1, stream := false, seg := 0, start := 32001736, len := 4, reach := 0, gain := 1}]})]}.putReg .secOwn 0x101 0 510),
      hostAck, te, by decide +kernel⟩⟩

/-- The hypotheses of Obligations.IdentityAndMicrocode can be met, clause by clause. -/
theorem witness_IdentityAndMicrocode_1 :
  (∃ (s : State) (c : Ctx), Takes s c) ∧
  (∃ (s : State) (c : Ctx) (data : List Byte), Takes s c ∧ data.length ≤ 1024) ∧
  (∃ (s : State) (c : Ctx), Takes s c) ∧
  (∃ (s : State) (c : Ctx), Takes s c) ∧
  (∃ (s : State) (c : Ctx) (len : Nat), Takes s c ∧ 256 ≤ len ∧ len ≤ 131072) ∧
  (∃ (s : State) (c : Ctx) (len : Nat), Takes s c ∧ (len < 256 ∨ 131072 < len)) :=
  ⟨⟨st ready, hostAck, by decide +kernel⟩,
   ⟨st ready, hostAck, List.replicate 1024 7, by decide +kernel⟩,
   ⟨st ready, hostAck, by decide +kernel⟩,
   ⟨st ready, hostAck, by decide +kernel⟩,
   ⟨st ready, hostAck, 131072, by decide +kernel⟩,
   ⟨st ready, hostAck, 255, by decide +kernel⟩⟩

/-- The hypotheses of Obligations.IdentityAndMicrocode can be met, clause by clause. -/
theorem witness_IdentityAndMicrocode_2 :
  (∃ (s : State) (c : Ctx) (ofs : Nat) (data : List Byte), Takes s c ∧ data ≠ [] ∧ data.length ≤ 4096 ∧ s.dev.flag F.mcStatusLoading =
    true ∧ ofs + data.length ≤ s.dev.eng.stageLen) ∧
  (∃ (s : State) (c : Ctx) (data : List Byte), Takes s c ∧ data ≠ [] ∧ data.length ≤ 4096 ∧ s.dev.flag F.mcStatusLoading = false) ∧
  (∃ (s : State) (c : Ctx) (sigOk : Bool), Takes s c ∧ imageFault s.dev.eng.image sigOk (s.dev.reg .mcMinsec).toNat = none ∧ s.dev.flag
    F.thStatusPlateOk = true) ∧
  (∃ (s : State) (c : Ctx) (sigOk : Bool) (x : Nat), Takes s c ∧ imageFault s.dev.eng.image sigOk (s.dev.reg .mcMinsec).toNat = some x) ∧
  (∃ (s : State) (c : Ctx) (sigOk : Bool), Takes s c ∧ imageFault s.dev.eng.image sigOk (s.dev.reg .mcMinsec).toNat = none ∧ s.dev.flag
    F.thStatusPlateOk = false) :=
  ⟨⟨st ldg, hostAck, 297, [1, 2, 3], by decide +kernel⟩,
   ⟨st ready, hostAck, [1, 2, 3], by decide +kernel⟩,
   ⟨st ((stg img).putReg .mcMinsec 5), hostAck, true, by decide +kernel⟩,
   ⟨st ((stg img).putReg .mcMinsec 5), hostAck, false, 64, by decide +kernel⟩,
   ⟨st (((stg img).putReg .mcMinsec 5).plant F.thStatusPlateOk 0), hostAck, true, by decide +kernel⟩⟩

end F15

namespace F16
def se (d : Device := ready) (n : Nat := 3) : Device := { d.plant F.secStatusDrbgOk 1 with sess := [(n, { isOpen := true, via := 8, epoch := 3 }), (6, { isOpen := true, via := 8 })] }
def oq : OpenReq := ⟨5, false, 7, true, false, [], []⟩
def opn : Device := (se.putReg .secOpenctr 7)
def c5 : Ctx := ⟨5, 7, 9, true, none⟩
def te5 (n : Nat) : Timed := ⟨4, .muteAll host, ⟨n, 0, 90, false, none⟩, 0x202, 32002000, false, 32000000⟩
def tm (d : Device) : Device := { d with eng := { d.eng with timed := [te5 5, te5 6, te5 5] } }
def oq9 : OpenReq := { oq with hostKey := publicKey 9, hostNonce := zeros 32 }
def sk : Device := { se with sess := [(5, {isOpen := true, via := 7, rx := [9, 0, 4], keys := (List.range 72).map fun i => BitVec.ofNat 8 (5 * i + 3)})] }
def rk : RawPacket := let x := sk.session 5; let h := leBytes 2 0x102 ++ zeros 2 ++ leBytes 1 5 ++ zeros 7 ++ leBytes 4 20 ++ zeros 16; let b := counterMode (x.key 0) (x.iv 0 3 4) 0 ((List.range 32).map (BitVec.ofNat 8)); ⟨7, 3, h, b, gcmTag (x.key 0) (x.iv 0 3 4) h b, true⟩
def cr : Device := { se.putReg .secColrd 4095 with colFill := 3, colring := [(0, [2]), (1, [3]), (4095, [1])] }

/-- The hypotheses of Obligations.SessionsAndOwner can be met, clause by clause. -/
theorem witness_SessionsAndOwner_1 :
  (∃ (s : State) (c : Ctx) (r : OpenReq), Takes s c ∧ r.s < 8 ∧ r.s = c.sess ∧ r.openCtr = (s.dev.reg .secOpenctr).toNat ∧ (s.dev.flag
    F.secStatusOwned = true → r.sigOk = true) ∧ (s.dev.flag F.secStatusOwned = false → r.sigZero = true) ∧ s.dev.flag F.secStatusDrbgOk =
    true ∧ (s.dev.session r.s).isOpen = false ∧ onCurve (pointOf r.hostKey) = true) ∧
  (∃ (s : State) (c : Ctx) (r : OpenReq), Takes s c ∧ r.s < 8 ∧ r.s = c.sess ∧ r.openCtr = (s.dev.reg .secOpenctr).toNat ∧ (s.dev.flag
    F.secStatusOwned = true → r.sigOk = true) ∧ (s.dev.flag F.secStatusOwned = false → r.sigZero = true) ∧ s.dev.flag F.secStatusDrbgOk =
    true ∧ ((s.dev.session r.s).isOpen = true → r.takeover = true)) ∧
  (∃ (d : Device) (r : RawPacket) (n : Nat) (c : Nat) (len : Nat) (b : List Byte), fieldB r.header 4 1 % 8 = n ∧ fieldB r.header 0 2 ≠
    0x0C01 ∧ fieldB r.header 12 4 = len ∧ len ≤ b.length ∧ len ≤ 1048576 ∧ (d.session n).isOpen = true ∧ (d.session n).via = r.via ∧
    (d.session n).rx.getD (vcSlot r.vc) 0 = c ∧ r.body = counterMode ((d.session n).key 0) ((d.session n).iv 0 r.vc c) 0 b ∧ r.tag =
    gcmTag ((d.session n).key 0) ((d.session n).iv 0 r.vc c) r.header r.body) ∧
  (∃ (s : State) (c : Ctx) (r : OpenReq), Takes s c ∧ (8 ≤ r.s ∨ r.s ≠ c.sess)) ∧
  (∃ (s : State) (c : Ctx) (r : OpenReq), Takes s c ∧ r.s < 8 ∧ r.s = c.sess ∧ r.openCtr = (s.dev.reg .secOpenctr).toNat ∧ s.dev.flag
    F.secStatusOwned = false ∧ r.sigZero = false) ∧
  (∃ (s : State) (c : Ctx) (r : OpenReq), Takes s c ∧ r.s < 8 ∧ r.s = c.sess ∧ r.openCtr ≠ (s.dev.reg .secOpenctr).toNat) :=
  ⟨⟨st (tm opn), c5, oq9, by decide +kernel⟩,
   ⟨st (tm ((se ready 5).putReg .secOpenctr 7)), c5, {oq9 with takeover := true}, by decide +kernel⟩,
   ⟨sk, rk, 5, 4, 20, (List.range 32).map (BitVec.ofNat 8), by decide +kernel⟩,
   ⟨st opn, c5, {oq with s := 4}, by decide +kernel⟩,
   ⟨st opn, c5, {oq with sigZero := false}, by decide +kernel⟩,
   ⟨st opn, c5, {oq with openCtr := 8}, by decide +kernel⟩⟩

/-- The hypotheses of Obligations.SessionsAndOwner can be met, clause by clause. -/
theorem witness_SessionsAndOwner_2 :
  (∃ (s : State) (c : Ctx) (r : OpenReq), Takes s c ∧ r.s < 8 ∧ r.s = c.sess ∧ r.openCtr = (s.dev.reg .secOpenctr).toNat ∧ s.dev.flag
    F.secStatusOwned = true ∧ r.sigOk = false) ∧
  (∃ (s : State) (c : Ctx) (r : OpenReq), Takes s c ∧ r.s < 8 ∧ r.s = c.sess ∧ r.openCtr = (s.dev.reg .secOpenctr).toNat ∧ (s.dev.flag
    F.secStatusOwned = true → r.sigOk = true) ∧ (s.dev.flag F.secStatusOwned = false → r.sigZero = true) ∧ (s.dev.flag F.secStatusDrbgOk =
    false ∨ (s.dev.session r.s).isOpen = true ∧ r.takeover = false)) ∧
  (∃ (s : State) (c : Ctx), Takes s c ∧ (s.dev.session c.sess).isOpen = true) ∧
  (∃ (s : State) (c : Ctx) (n : Nat), Takes s c ∧ n ≠ c.sess) ∧
  (∃ (s : State) (c : Ctx), Takes s c ∧ s.dev.flag F.secStatusOwned = false ∧ s.dev.fld F.thStartOwnspent ≠ 3 ∧ s.dev.flag
    F.secStatusDrbgOk = true ∧ s.dev.flag F.thStatusFuseOk = true) ∧
  (∃ (s : State) (c : Ctx), Takes s c ∧ s.dev.flag F.secStatusOwned = false ∧ (s.dev.fld F.thStartOwnspent = 3 ∨ s.dev.flag
    F.secStatusDrbgOk = false)) :=
  ⟨⟨st (opn.plant F.secStatusOwned 1), c5, {oq with sigOk := false}, by decide +kernel⟩,
   ⟨st ((se ready 5).putReg .secOpenctr 7), c5, oq, by decide +kernel⟩,
   ⟨st (tm (se ready 5)), c5, by decide +kernel⟩,
   ⟨st (se ready 5), c5, 4, by decide +kernel⟩,
   ⟨st (tm (se.plant F.thStatusFuseOk 1)), host, by decide +kernel⟩,
   ⟨st (se.plant F.thStartOwnspent 3), host, by decide +kernel⟩⟩

/-- The hypotheses of Obligations.SessionsAndOwner can be met, clause by clause. -/
theorem witness_SessionsAndOwner_3 :
  (∃ (s : State) (c : Ctx), Takes s c ∧ s.dev.flag F.secStatusOwned = false ∧ s.dev.fld F.thStartOwnspent ≠ 3 ∧ s.dev.flag
    F.secStatusDrbgOk = true ∧ s.dev.flag F.thStatusFuseOk = false) ∧
  (∃ (s : State) (c : Ctx), Takes s c ∧ s.dev.flag F.secStatusOwned = true) ∧
  (∃ (s : State) (c : Ctx), Takes s c ∧ s.dev.flag F.secStatusOwned = false) :=
  ⟨⟨st (se), host, by decide +kernel⟩,
   ⟨st (se.plant F.secStatusOwned 1), host, by decide +kernel⟩,
   ⟨st se, host, by decide +kernel⟩⟩

/-- The hypotheses of Obligations.Ownership can be met, clause by clause. -/
theorem witness_Ownership :
  (∃ (s : State) (c : Ctx) (kind : Nat) (attr : Nat) (first : Nat) (count : Nat), Takes s c ∧ c.sess < 8 ∧ kind < 4 ∧ attr < 2 ∧ (kind,
    attr) ≠ (0, 1) ∧ 0 < count ∧ first + count ≤ [256, 512, 64, 16].getD kind 0 ∧ (∀ i ∈ List.range count, ((s.dev.ownerOf kind (first +
    i)).1 = c.sess ∨ s.dev.ownerOf kind (first + i) = (15, false)) ∧ s.dev.ownBusy kind (first + i) = false)) ∧
  (∃ (s : State) (c : Ctx) (n : Fin 256), Takes s c ∧ c.sess < 8 ∧ s.dev.ownerOf 0 n ≠ (c.sess, true) ∧ ((s.dev.ownerOf 0 n).1 = c.sess ∨
    s.dev.ownerOf 0 n = (15, false))) ∧
  (∃ (s : State) (c : Ctx) (kind : Nat) (attr : Nat) (first : Nat) (count : Nat), Takes s c ∧ kind < 4 ∧ attr < 2 ∧ 0 < count ∧ first +
    count ≤ [256, 512, 64, 16].getD kind 0 ∧ (∀ i ∈ List.range count, (s.dev.ownerOf kind (first + i)).1 = c.sess ∧ s.dev.ownBusy kind
    (first + i) = false)) ∧
  (∃ (s : State) (c : Ctx) (kind : Nat) (attr : Nat) (first : Nat), Takes s c ∧ kind < 4 ∧ attr < 2 ∧ first < [256, 512, 64, 16].getD kind
    0 ∧ (s.dev.ownerOf kind first).1 ≠ c.sess ∧ s.dev.ownerOf kind first ≠ (15, false)) ∧
  (∃ (s : State) (c : Ctx) (kind : Nat) (attr : Nat) (first : Nat), Takes s c ∧ kind < 4 ∧ attr < 2 ∧ first < [256, 512, 64, 16].getD kind
    0 ∧ (s.dev.ownerOf kind first).1 = c.sess ∧ s.dev.ownBusy kind first = true) ∧
  (∃ (s : State) (c : Ctx) (kind : Nat) (attr : Nat) (first : Nat), Takes s c ∧ kind < 4 ∧ attr < 2 ∧ first < [256, 512, 64, 16].getD kind
    0 ∧ (s.dev.ownerOf kind first).1 ≠ c.sess) :=
  ⟨⟨st se, host, 1, 1, 500, 12, by decide +kernel⟩,
   ⟨st (se.plant F.tgSCa 255 15 15), host, 255, by decide +kernel⟩,
   ⟨st (se.putReg .secOwn 0x103 0 575), host, 2, 1, 63, 1, by decide +kernel⟩,
   ⟨st (se.putReg .secOwn 0x102 0 575), host, 2, 1, 63, by decide +kernel⟩,
   ⟨st ((se.putReg .secOwn 0x103 0 575).plant F.csStatusState 2 575), host, 2, 1, 63, by decide +kernel⟩,
   ⟨st (se.putReg .budOwn 0xF 15), host, 3, 1, 15, by decide +kernel⟩⟩

/-- The hypotheses of Obligations.Attestation can be met, clause by clause. -/
theorem witness_Attestation_1 :
  (∃ (s : State) (c : Ctx) (n : Nat), Takes s c ∧ n < 3) ∧
  (∃ (s : State) (c : Ctx) (n : Nat), Takes s c ∧ 3 ≤ n) ∧
  (∃ (s : State) (c : Ctx) (nonce : List Byte), Takes s c ∧ nonce.length = 48 ∧ s.dev.flag F.secStatusDrbgOk = true) ∧
  (∃ (s : State) (c : Ctx) (nonce : List Byte), Takes s c ∧ nonce.length = 48 ∧ s.dev.flag F.secStatusDrbgOk = false) ∧
  (∃ (s : State) (c : Ctx) (nonce : List Byte), Takes s c ∧ nonce.length ≠ 48) ∧
  (∃ (s : State) (c : Ctx) (n : Nat), Takes s c ∧ (n = 0 ∨ 64 < n)) :=
  ⟨⟨st se, host, 2, by decide +kernel⟩,
   ⟨st se, host, 3, by decide +kernel⟩,
   ⟨st se, host, zeros 48, by decide +kernel⟩,
   ⟨st ready, host, zeros 48, by decide +kernel⟩,
   ⟨st se, host, zeros 47, by decide +kernel⟩,
   ⟨st se, host, 65, by decide +kernel⟩⟩

/-- The hypotheses of Obligations.Attestation can be met, clause by clause. -/
theorem witness_Attestation_2 :
  (∃ (s : State) (c : Ctx) (n : Nat), Takes s c ∧ 0 < n ∧ n ≤ 64) ∧
  (∃ (s : State) (c : Ctx) (n : Nat), Takes s c ∧ 0 < n ∧ n ≤ 64) ∧
  (∃ (s : State) (b : List Byte) (rest : List (List Byte)), Runs s ∧ s.dev.colq = b :: rest ∧ s.dev.colFill < 4096) ∧
  (∃ (s : State), Runs s ∧ (s.dev.colq = [] ∨ 4096 ≤ s.dev.colFill)) ∧
  (∃ (s : State) (l : Fin 1024), Runs s ∧ ((s.dev.lane l).colWait = none ∨ 64 ≤ s.dev.colq.length ∨ 4096 ≤ s.dev.colFill)) ∧
  (∃ (s : State) (l : Fin 1024) (kind : Nat) (serial : Nat), Runs s ∧ (s.dev.lane l).colWait = some (kind, serial) ∧ s.dev.colq.length <
    64 ∧ s.dev.colFill < 4096) :=
  ⟨⟨st cr, host, 2, by decide +kernel⟩,
   ⟨st cr, host, 4, by decide +kernel⟩,
   ⟨st {cr.putReg .secColwr 4095 with colq := [[5], [6]]}, [5], [[6]], by decide +kernel⟩,
   ⟨st {cr.putReg .secColwr 4095 with colq := [[5], [6]], colFill := 4096}, by decide +kernel⟩,
   ⟨st cr, 1023, by decide +kernel⟩,
   ⟨st {se with lanes := [(1023, {colWait := some (1, 5), chained := 4, colStop := 8})]}, 1023, 1, 5, by decide +kernel⟩⟩

end F16

namespace F17
open F07
def stg17 (m : Nat) (d : Device := ready) : Device := { d with phase := .starting m }
def img17 : List Byte := leBytes 4 0x4D434C51 ++ leBytes 4 77 ++ leBytes 4 5 ++ leBytes 2 1 ++ leBytes 2 1 ++ sha384 (zeros 24) ++ zeros 192 ++ zeros 24
def nomImg (t : Nat) : List Byte := setImage 3 1 t 1 0 (ready.cal.refv) ready.cal.refvU (ready.calCoef 3)
def plated : Device := {ready with plate := [(0, []), (1, []), (2, []), (3, nomImg 300000), (7, nomImg 320000)], seals := [(3, [1]), (7, [1])]}

/-- The hypotheses of Obligations.StartupStages can be met, clause by clause. -/
theorem witness_StartupStages_1 :
  (∃ (ns : Nat), 1000 ≤ ns) ∧
  (∃ (ns : Nat), ns < 1000) ∧
  (∃ (s : State), s.dev.phase ≠ .inReset) ∧
  (∃ (s : State), s.dev.stageOpen 1 [] = false) ∧
  (∃ (s : State), s.dev.stageOpen 2 [1] = false) ∧
  (∃ (s : State), s.dev.stageOpen 2 [1] = false) :=
  ⟨⟨1000, by decide +kernel⟩,
   ⟨999, by decide +kernel⟩,
   ⟨st ready, by decide +kernel⟩,
   ⟨st ready, by decide +kernel⟩,
   ⟨st (stg17 0), by decide +kernel⟩,
   ⟨st (stg17 6), by decide +kernel⟩⟩

/-- The hypotheses of Obligations.StartupStages can be met, clause by clause. -/
theorem witness_StartupStages_2 :
  (∃ (s : State), s.dev.stageOpen 4 [3] = false) ∧
  (∃ (s : State), s.dev.stageOpen 5 [1] = false) ∧
  (∃ (s : State), s.dev.stageOpen 6 [4] = false) ∧
  (∃ (s : State), s.dev.stageOpen 8 [5, 6] = false) ∧
  (∃ (s : State), s.dev.phase = .inReset) ∧
  (∃ (s : State) (m : Nat), s.dev.phase = .starting m ∧ bitOf m 1 = false) :=
  ⟨⟨st (stg17 6), by decide +kernel⟩,
   ⟨st (stg17 0), by decide +kernel⟩,
   ⟨st (stg17 0), by decide +kernel⟩,
   ⟨st (stg17 32), by decide +kernel⟩,
   ⟨st {ready with phase := .inReset}, by decide +kernel⟩,
   ⟨st (stg17 0), 0, by decide +kernel⟩⟩

/-- The hypotheses of Obligations.StartupStages can be met, clause by clause. -/
theorem witness_StartupStages_3 :
  (∃ (s : State) (m : Nat), s.dev.phase = .starting m ∧ bitOf m 1 = false) ∧
  (∃ (s : State) (m : Nat), s.dev.phase = .starting m ∧ bitOf m 2 = false ∧ bitOf m 1 = true) ∧
  (∃ (s : State) (m : Nat), s.dev.phase = .starting m ∧ bitOf m 2 = false ∧ bitOf m 1 = true) ∧
  (∃ (s : State) (m : Nat), s.dev.phase = .starting m ∧ bitOf m 2 = false ∧ bitOf m 1 = true) ∧
  (∃ (s : State) (m : Nat), s.dev.phase = .starting m ∧ bitOf m 4 = false ∧ bitOf m 3 = true) ∧
  (∃ (s : State) (m : Nat), s.dev.phase = .starting m ∧ bitOf m 4 = false ∧ bitOf m 3 = true) :=
  ⟨⟨st (stg17 0), 0, by decide +kernel⟩,
   ⟨st (stg17 2), 2, by decide +kernel⟩,
   ⟨st (stg17 2), 2, by decide +kernel⟩,
   ⟨st (stg17 2), 2, by decide +kernel⟩,
   ⟨st (stg17 14 {atInstr 5 .nop with dram := [(1, 3)], repairs := [[1]]}), 14, by decide +kernel⟩,
   ⟨st (stg17 14), 14, by decide +kernel⟩⟩

/-- The hypotheses of Obligations.StartupStages can be met, clause by clause. -/
theorem witness_StartupStages_4 :
  (∃ (s : State) (m : Nat), s.dev.phase = .starting m ∧ bitOf m 4 = false ∧ bitOf m 3 = true) ∧
  (∃ (s : State) (m : Nat), s.dev.phase = .starting m ∧ bitOf m 5 = false ∧ bitOf m 1 = true) ∧
  (∃ (s : State) (m : Nat), s.dev.phase = .starting m ∧ bitOf m 5 = false ∧ bitOf m 1 = true) ∧
  (∃ (s : State) (m : Nat), s.dev.phase = .starting m ∧ bitOf m 6 = false ∧ bitOf m 4 = true) ∧
  (∃ (s : State) (m : Nat), s.dev.phase = .starting m ∧ bitOf m 6 = false ∧ bitOf m 4 = true) ∧
  (∃ (s : State) (m : Nat) (sigOk : Bool), s.dev.phase = .starting m ∧ bitOf m 8 = false ∧ bitOf m 5 = true ∧ bitOf m 6 = true ∧
    (s.dev.reg .mcPending = 0 ∨ sigOk = false)) :=
  ⟨⟨st (stg17 14), 14, by decide +kernel⟩,
   ⟨st (stg17 2), 2, by decide +kernel⟩,
   ⟨st (stg17 2), 2, by decide +kernel⟩,
   ⟨st (stg17 16), 16, by decide +kernel⟩,
   ⟨st (stg17 16), 16, by decide +kernel⟩,
   ⟨st (stg17 96 (ready.putReg .mcPending 5)), 96, false, by decide +kernel⟩⟩

/-- The hypotheses of Obligations.StartupStages can be met, clause by clause. -/
theorem witness_StartupStages_5 :
  (∃ (s : State) (m : Nat), s.dev.phase = .starting m ∧ bitOf m 8 = false ∧ bitOf m 5 = true ∧ bitOf m 6 = true ∧ s.dev.reg .mcPending ≠ 0
    ∧ s.dev.eng.committed ≠ [] ∧ sliceB s.dev.eng.committed 16 48 = sha384 (s.dev.eng.committed.drop 256)) ∧
  (∃ (s : State) (m : Nat), s.dev.phase = .starting m ∧ bitOf m 8 = false ∧ bitOf m 5 = true ∧ bitOf m 6 = true ∧ s.dev.reg .mcPending =
    0) :=
  ⟨⟨st (stg17 96 {ready.putReg .mcPending 77 with eng := {ready.eng with committed := img17}}), 96, by decide +kernel⟩,
   ⟨st (stg17 96 (ready.putReg .mcPending 0)), 96, by decide +kernel⟩⟩

/-- The hypotheses of Obligations.SensorsAndRelease can be met, clause by clause. -/
theorem witness_SensorsAndRelease_1 :
  (∃ (s : State) (m : Nat) (t : Nat), s.dev.phase = .starting m ∧ bitOf m 3 = false ∧ bitOf m 2 = true ∧ 200000 ≤ t ∧ t ≤ 420000 ∧ (∀ n :
    Fin 48, s.dev.broken n = false) ∧ (∀ n : Fin 8, s.dev.flag F.thDietBlind 0 n = false)) ∧
  (∃ (s : State) (m : Nat), s.dev.phase = .starting m ∧ bitOf m 3 = false ∧ bitOf m 2 = true) ∧
  (∃ (s : State), s.dev.stageOpen 3 [2] = false) ∧
  (∃ (s : State), s.dev.stageOpen 7 [5, 6] = false) ∧
  (∃ (s : State), s.dev.stageOpen 9 [7, 8] = false) ∧
  (∃ (s : State) (m : Nat) (a : Nat) (b : Nat) (x : List Byte) (y : List Byte) (pass : List Nat), s.dev.phase = .starting m ∧ bitOf m 7 =
    false ∧ bitOf m 5 = true ∧ bitOf m 6 = true ∧ a < b ∧ b < 8 ∧ s.dev.plateOf a = some x ∧ s.dev.plateOf b = some y ∧ a ∈ pass ∧ b ∈
    pass ∧ (∀ n : Fin 8, n.val ≠ a → n.val ≠ b → s.dev.plateOf n = none)) :=
  ⟨⟨st (stg17 4), 4, 303150, by decide +kernel⟩,
   ⟨st (stg17 4), 4, by decide +kernel⟩,
   ⟨st (stg17 0), by decide +kernel⟩,
   ⟨st (stg17 0), by decide +kernel⟩,
   ⟨st (stg17 0), by decide +kernel⟩,
   ⟨st (stg17 96 {ready with plate := [(0, []), (1, []), (2, []), (3, [1]), (7, [2])], seals := [(3, [1]), (7, [1])]}), 96, 3, 7, [1],
      [2], [3, 7], by decide +kernel⟩⟩

/-- The hypotheses of Obligations.SensorsAndRelease can be met, clause by clause. -/
theorem witness_SensorsAndRelease_2 :
  (∃ (s : State) (m : Nat) (x : List Byte), s.dev.phase = .starting m ∧ bitOf m 7 = false ∧ bitOf m 5 = true ∧ bitOf m 6 = true ∧
    s.dev.plateOf 7 = some x) ∧
  (∃ (s : State) (m : Nat) (us : Nat), s.dev.phase = .starting m ∧ bitOf m 9 = false ∧ bitOf m 7 = true ∧ bitOf m 8 = true ∧ us < 2 ^ 32)
    ∧
  (∃ (s : State) (t : Nat), Runs s ∧ 200000 ≤ t ∧ t < 366150 ∧ (∀ n : Fin 48, s.dev.broken n = false) ∧ (∀ n : Fin 8, s.dev.flag
    F.thDietBlind 0 n = false) ∧ (∀ n : Fin 8, s.dev.reg .thCvofs 0 n = 0) ∧ (∀ x : Fin 9, sfind s.dev.cal.tLast x = some t) ∧ s.dev.flag
    F.budStatusHot = false) :=
  ⟨⟨st (stg17 96 {ready with plate := [(7, [0])], seals := [(7, [1])]}), 96, [0], by decide +kernel⟩,
⟨st (stg17 384 ((ready.putReg .thTj 0 |>.plant F.thTjTj 303150 |>.putReg .thTs 7 0 47 |>.putReg .thDiet 7 0 7 |>.putReg .thCvofs 7 0 7 |>.putReg .calTpoint 300000 0 7 |>.putReg .calTpoint 320000 0 1 |>.putReg .secOwnerdig 7 0 11).putReg .ceAlertEn 7)),
      384, 80000, by decide +kernel⟩,
   ⟨st {ready with cal := {ready.cal with tLast := (List.range 9).map fun n => (n, 366149)}}, 366149, by decide +kernel⟩⟩

end F17

namespace F90
def ph (p : Phase) (d : Device := ready) : Device := { d with phase := p }

/-- The hypotheses of Obligations.UnmappedAddresses can be met, clause by clause. -/
theorem witness_UnmappedAddresses :
  (∃ (s : State) (c : Ctx) (a : Nat), Takes s c ∧ (a % 4 ≠ 0 ∨ blockAt a = [] ∨ ∀ r ∈ blockAt a, matchSegs r.desc a r.desc.segs 0 = none))
    ∧
  (∃ (s : State) (c : Ctx) (a : Nat), Takes s c ∧ (a % 4 ≠ 0 ∨ blockAt a = [] ∨ ∀ r ∈ blockAt a, matchSegs r.desc a r.desc.segs 0 = none))
    :=
  ⟨⟨st ready, hostAck, 5, by decide +kernel⟩,
   ⟨st ready, hostAck, 0xA0000, by decide +kernel⟩⟩

/-- The hypotheses of Obligations.JumpTargets can be met, clause by clause. -/
theorem witness_JumpTargets :
  (∃ (s : State) (c : Ctx) (k : Fin 576) (tgt : Nat), Takes s c ∧ s.dev.isBlockAt (storeOf k) tgt = false) ∧
  (∃ (s : State) (c : Ctx) (k : Fin 576) (v : Nat), Takes s c ∧ v < 2 ^ 15 ∧ s.dev.isBlockAt (storeOf k) v = false ∧ s.dev.mayWriteReg
    c.sess k (RegName.addr .csJtgt k) = true) :=
  ⟨⟨st ready, hostAck, 575, 32767, by decide +kernel⟩,
   ⟨st ready, hostAck, 575, 32767, by decide +kernel⟩⟩

end F90

namespace F90

/-- The hypotheses of Obligations.SampleCount can be met, clause by clause. -/
theorem witness_SampleCount :
  (∃ ns : Nat, 1000 ≤ ns) ∧
  (∃ s : State, s.pending = [] ∧ (s.dev.phase = .inReset ∨ ∃ m, s.dev.phase = .starting m ∧ bitOf m 2 = false)) ∧
  (∃ (s : State) (m : Nat), s.dev.phase = .starting m ∧ bitOf m 2 = false ∧ bitOf m 1 = true) ∧
  (∃ s : State, s.pending = [] ∧ (s.dev.phase = .running ∨ (∃ m, s.dev.phase = .starting m ∧ bitOf m 2 = true) ∨
      ∃ c m, s.dev.phase = .stopped c m ∧ bitOf m 2 = true)) ∧
  (∃ (i : Instr) (s t : State), Runs s ∧ (∀ ns, i ≠ .resetAssert ns) ∧ exec i s = .next t) ∧
  (∃ d e : Device, d.sampleCount = e.sampleCount ∧ d.rateAdj = e.rateAdj ∧ d.tb.offset = e.tb.offset ∧ d ≠ e) ∧
  (∃ s t : State, exec .registrationApply s = .next t) :=
  ⟨⟨1000, by decide⟩, ⟨st (ph (.starting 3)), rfl, .inr ⟨3, rfl, by decide⟩⟩, ⟨st (ph (.starting 3)), 3, rfl, by decide, by decide⟩,
   ⟨st (ph (.stopped 6 6)), rfl, .inr (.inr ⟨6, 6, rfl, by decide⟩)⟩, ⟨.memWrite hostAck 64 [1, 2], st ready, _, by decide +kernel, nofun, rfl⟩,
   ⟨ready, ph .inReset, rfl, rfl, rfl, by decide +kernel⟩, ⟨st ready, _, rfl⟩⟩

/-- A register at the last index of an array meets the hypothesis of Obligations.AddressMap. -/
theorem witness_AddressMap : findReg (RegName.addr .csJtgt 575) = some (.csJtgt, 575, 0, 0) := by decide +kernel

/-- The hypotheses of Obligations.QueueKept and Obligations.MemoryForm can be met with a write of memory in front. -/
theorem witness_QueueKept : ∃ s t : State, s.queueWf = true ∧ s.pending ≠ [] ∧ step s = .next t :=
  ⟨⟨[.memWrite hostAck 64 [1, 2]], ready⟩, _, by decide +kernel, nofun, rfl⟩
theorem witness_MemoryForm : ∃ s t : State, s.dev.memWf = true ∧ s.pending ≠ [] ∧ step s = .next t :=
  ⟨⟨[.memWrite hostAck 64 [1, 2]], { ready with dram := [(0, 7), (1, 9)] }⟩, _, by decide +kernel, nofun, rfl⟩

/-- The hypotheses of Obligations.AsleepAndHalted can be met, clause by clause. -/
theorem witness_AsleepAndHalted :
  (∃ (i : Instr) (s : State), s.dev.phase ≠ .running ∧ i.ofStart = false) ∧
  (∃ (i : Instr) (s : State), s.dev.eng.halted = true ∧ i.isCommand = true) ∧
  (∃ (i : Instr) (s t : State) (code m : Nat), s.dev.phase = .stopped code m ∧ (∀ ns, i ≠ .resetAssert ns) ∧ exec i s = .next t) ∧
  (∃ (s : State) (code m : Nat), s.pending = [] ∧ s.dev.phase = .stopped code m) ∧
  (∃ (s : State) (code m : Nat), s.dev.phase = .stopped code m ∧ s.dev.eng.halted = true) :=
  ⟨⟨.memWrite hostAck 64 [1, 2], st (ph .inReset), by decide +kernel, rfl⟩,
   ⟨.memWrite hostAck 64 [1, 2], st { ready with eng := { ready.eng with halted := true } }, rfl, rfl⟩,
   ⟨.release 4, st (ph (.stopped 5 6)), _, 5, 6, rfl, nofun, rfl⟩, ⟨st (ph (.stopped 9 7)), 9, 7, rfl, rfl⟩,
   ⟨st { ph (.stopped 9 7) with eng := { ready.eng with halted := true } }, 9, 7, rfl, rfl⟩⟩

/-- The hypotheses of Obligations.InstructionEncodings can be met, clause by clause. -/
theorem witness_InstructionEncodings :
  (∃ i : SeqInstr, i.wf = true) ∧ (∃ (w : Nat) (i : SeqInstr), SeqInstr.decode w = some i) ∧
  (∃ i : DInstr, i.wf = true) ∧ (∃ (w : Nat) (i : DInstr), w < 2 ^ 32 ∧ DInstr.decode w = some i) :=
  ⟨⟨.capt true 4294967295, by decide⟩, ⟨0x2E000A00B7FFF000, .cplay true 0 10 11 32767, by decide⟩, ⟨.rep 16 65536, by decide⟩,
   ⟨0x1F80FFFF, .rep 16 65536, by decide, by decide⟩⟩

end F90

/-- Words of pulse instructions written out from the tables of R91 and R201, and a reserved bit and a reserved opcode of each. -/
theorem test_decode_cplay : SeqInstr.decode 0x2E000A00B7FFF000 = some (.cplay true 0 10 11 32767) := by decide
theorem test_decode_armd : SeqInstr.decode 0x2014D00000000000 = some (.armdLane 83 2 false) := by decide
theorem test_decode_reserved : SeqInstr.decode 0x2E000A00B7FFF001 = none ∧ SeqInstr.decode 0xFC00000000000000 = none := by decide
theorem test_decode_demod_add : DInstr.decode 0x33C00005 = some (.add 1 3 true 5) := by decide
theorem test_decode_demod_reserved : DInstr.decode 0x33C00015 = none ∧ DInstr.decode 0x40000000 = none := by decide

/-- The reset state's memories and queue are in their form. -/
theorem test_reset_memWf : State.reset.dev.memWf = true ∧ State.reset.queueWf = true := by decide +kernel

/-- No word spells a command, for the table gives none bits. -/
theorem test_no_table_word : decodeTableWord 32 7 = none := rfl

/-- Well-formed operands, whose fields the tests below spoil one at a time: each check of Instr.wf refuses its ill-formed term. -/
def raw : RawPacket := ⟨8, 0, List.replicate 32 1, List.replicate 64 2, List.replicate 16 3, true⟩
def head : SegHead := ⟨64, 1, 0, 64⟩
def openReq : OpenReq := ⟨1, false, 5, true, false, List.replicate 96 1, List.replicate 32 2⟩
def frame : Frame := ⟨0x580, [(true, 7), (true, 8), (false, 9), (true, 2 ^ 63)], true⟩

theorem test_wf_accepts : [Instr.regWrite host 0x10 5, .commandPacket raw, .segLoad host 63 4095 0 head [1], .sessionOpen host openReq,
    .frameRx 7 frame, .sramScrub 0 63 32767 [(0, 0), (35, 255)], .helloRx 0 ⟨[], false, true⟩, .linkBlockRx 0 ⟨4095, 511, 511, 511⟩,
    .adcOvr 0 [-2048, 2047]].all Instr.wf = true := by decide +kernel

theorem test_wf_context : [{ host with sess := 8 }, { host with via := 9 }, { host with seq := 2 ^ 32 }, { host with timed := some (2 ^ 64) }].all
    (fun c => !(Instr.identify c).wf) = true := by decide +kernel

theorem test_wf_registers : [Instr.regWrite host (2 ^ 32) 0, .regWrite host 0 (2 ^ 32), .tbOffsetStage host 1 (2 ^ 32), .regRead host (2 ^ 32),
    .regReadMulti host 0 (2 ^ 32), .regReadMulti host (2 ^ 32) 1, .regWriteList host (List.replicate 257 (0, 0)), .regWriteList host [(2 ^ 32, 0)],
    .regWriteList host [(0, 2 ^ 32)], .dtWrite host 3 (2 ^ 32)].all (fun i => !i.wf) = true := by decide +kernel

theorem test_wf_waves : [Instr.segLoad host 256 0 0 head [], .segLoad host 0 65536 0 head [], .segLoad host 0 0 (2 ^ 32) head [],
    .segLoad host 0 0 0 ⟨2 ^ 32, 1, 0, 64⟩ [], .libStore host (2 ^ 32) head [], .libStore host 1 ⟨64, 2 ^ 32, 0, 64⟩ [],
    .libStore host 1 ⟨64, 1, 256, 64⟩ [], .libStore host 1 ⟨64, 1, 0, 2 ^ 32⟩ [], .segBind host 256 0 0 0, .segBind host 0 0 0 (2 ^ 32),
    .segFetch host 256 0, .segFree host 0 65536, .outputEnable host (2 ^ 64),
    .refillPacket { raw with tag := [1] }].all (fun i => !i.wf) = true := by decide +kernel

theorem test_wf_readout : [Instr.kernLoad host 256 0 [], .kernLoad host 0 0 [(32768, 0)], .kernLoad host 0 0 [(0, -32769)],
    .dprogLoad host 256 0 [], .dprogLoad host 0 256 [], .dprogLoad host 0 0 [2 ^ 32], .dprogLoad host 0 0 (List.replicate 257 0),
    .kernRead host 0 0 (2 ^ 32), .benchRingRead host 65536, .adcOvr 0 [-2049], .adcOvr 0 [2048],
    .adcOvr 0 (List.replicate 33 0), .decimatedSample 0 [2048], .captureEnd 0 [2048] [], .captureEnd 0 [] [(36, 0)]].all (fun i => !i.wf) = true := by decide +kernel

theorem test_wf_calibration : [Instr.curveLoad host (List.replicate 4129 0), .curveRead host 256, .calTpoint host 0 (2 ^ 32), .calRun host 65536 0 1,
    .calXfer host 0 (2 ^ 64) 0, .calXfer host 0 0 (2 ^ 64), .calDue 13, .startupCalibration [8], .sensorRead [none],
    .startupSensors [[none]], .stackTempReport 0 (2 ^ 32)].all (fun i => !i.wf) = true := by decide +kernel

theorem test_wf_memory : [Instr.memRead host (2 ^ 32) 1, .memRead host 0 (2 ^ 32), .memWrite host (2 ^ 64) [], .memSetclass host 0 0 256,
    .memDiag host (2 ^ 32), .memRepairAdd host ⟨256, 0, 0, 0, 0, 0, 0⟩, .memRepairAdd host ⟨0, 0, 0, 0, 0, 0, 2 ^ 32⟩,
    .memScrubNow host 256 1, .sramScrub 12 0 0 [], .sramScrub 0 64 0 [], .sramScrub 0 0 32768 [],
    .sramScrub 1 0 0 [(36, 0)], .sramScrub 1 0 0 [(0, 256)]].all (fun i => !i.wf) = true := by decide +kernel

theorem test_wf_commands : [Instr.echo host (List.replicate 1025 0), .progLoad host 256 0 0 [], .progLoad host 0 0 0 [2 ^ 64],
    .progRead host 0 0 65536 1, .runStart host (2 ^ 64) [], .runStart host 0 (List.replicate 65 ⟨0, 0, false⟩),
    .runStart host 0 [⟨1024, 0, false⟩], .runStart host 0 [⟨0, 32768, false⟩], .runJump host 65536 0, .budBlockinfo host 0 65536,
    .budAttnWrite host 0 [1], .budAttnWrite host 65536 (List.replicate 16 0), .budAttnWrite host 0 (List.replicate 16 (2 ^ 32)),
    .stop host (2 ^ 512) 0 0, .stop host 0 (2 ^ 64) 0, .stop host 0 0 65536, .mcLoadBegin host (2 ^ 32), .mcLoadData host (2 ^ 32) [],
    .sessionOpen host { openReq with s := 256 }, .sessionOpen host { openReq with hostKey := [] },
    .sessionOpen host { openReq with hostNonce := [1] }, .ownerEnroll host [1] true, .resSeal host 0 0 0 65536,
    .attest host [1]].all (fun i => !i.wf) = true := by decide +kernel

theorem test_wf_links : [Instr.timingBlockRx 0 ⟨1, true, 2 ^ 64⟩ 0, .alignBlockRx 0 ⟨2 ^ 64 + 0x78, 0⟩, .alignBlockRx 0 ⟨0x79, 0⟩,
    .laneBlockRx 0 4 0, .laneBlockRx 0 0 (2 ^ 64), .linitRx 0 ⟨4, false, 0, 0, 0⟩, .linitRx 0 ⟨0, false, 256, 0, 0⟩, .finishRx 0 ⟨[], []⟩ true,
    .frameRx 0 { frame with head := 0x581 }, .frameRx 0 { frame with head := 2 ^ 64 + 0x80 },
    .frameRx 0 { frame with blocks := List.replicate 5 (true, 0) }, .frameRx 0 { frame with blocks := [(true, 2 ^ 64)] },
    .vc1TagFrameRx 0 ⟨[(2 ^ 32, 0)]⟩, .vc1TagFrameRx 0 ⟨[(0, 2 ^ 96)]⟩, .vc1TagFrameRx 0 ⟨[(0, 0), (0, 0), (0, 0)]⟩,
    .linkBlockRx 0 ⟨4096, 0, 0, 0⟩, .linkBlockRx 0 ⟨0, 0, 512, 0⟩, .retryRx 0 4096, .retry1Rx 0 4096, .spareRx 0 16].all
    (fun i => !i.wf) = true := by decide +kernel

theorem test_wf_packets : [Instr.commandPacket { raw with via := 9 }, .commandPacket { raw with vc := 4 }, .spiPut { raw with header := [1] },
    .commandPacket { raw with body := [1] }, .spiPut { raw with tag := [] }].all (fun i => !i.wf) = true := by decide +kernel

end Sys2Proof.Tests
end

section
/-! PROOFS. The state after reset: it lists no register and no record, so each register reads its reset value (R8) and each record
its default. -/

namespace Sys2Proof.Proofs

open Sys2Proof Sys2Proof.Machine

/-! ### What the reset state reads -/

@[simp] theorem reg_reset (r : RegName) (i j k : Nat) : State.reset.dev.reg r i j k = regReset r i j := rfl

@[simp] theorem session_reset (n : Nat) : State.reset.dev.session n = {} := rfl

theorem healthy_reset : State.reset.dev.healthy = true := by decide

/-- R36: before the first registration W = 0. -/
theorem ssi_reset : State.reset.dev.ssi = State.reset.dev.sampleCount := by decide

/-! ### Reset values -/

/-- The registers other than those of ledger DIE whose reset value the fields of the register table do not give. -/
def resetApart : List RegName := [.opBind, .calLimit, .calTpoint, .mcVersion, .mcSecver, .mcMinsec, .mcPending, .revision]

/-- Every instance of r resets to w, the word of its fields' Reset column. -/
abbrev ResetsTo (r : RegName) (w : Word) : Prop := r ∉ resetApart ∧ dieReset r = none ∧ resetWord r.desc.fields = w

theorem regReset_eq {r : RegName} {w : Word} (h : ResetsTo r w) (i j : Nat) : regReset r i j = w := by
  obtain ⟨hapart, hdie, hfields⟩ := h
  unfold regReset
  split
  case h_9 => simp [hdie, hfields]
  all_goals simp [resetApart] at hapart

/-- R297: the registers of ledger DIE, instance 16. -/
theorem regReset_die {r : RegName} {v : Nat} (h : dieReset r = some v) (j : Nat) : regReset r 16 j = BitVec.ofNat 32 v := by
  unfold regReset
  split
  case h_9 => simp [h]
  all_goals simp [dieReset] at h

/-- R123: voice v of every port is bound to carrier v. -/
theorem regReset_opBind_staged (p v : Nat) (hv : v < 16) : (regReset .opBind p v).toNat % 32 = v := by
  simp only [regReset, BitVec.toNat_ofNat]
  omega

theorem fld_reset_zero {f : Fld} (h : ResetsTo f.reg 0) (i j k : Nat) : State.reset.dev.fld f i j k = 0 := by
  simp [Device.fld, regReset_eq h, getField, bitsOf]

theorem flag_reset_false {f : Fld} (h : ResetsTo f.reg 0) (i j k : Nat) : State.reset.dev.flag f i j k = false := by
  simp [Device.flag, fld_reset_zero h]

/-- R297: the two words of C of ledger DIE join to the listed 64-bit value. -/
theorem reg64_reset_budC_die : State.reset.dev.reg64 .budCLo .budCHi 16 = 120000000000000 := by
  have hlo : State.reset.dev.reg .budCLo 16 = BitVec.ofNat 32 (120000000000000 % 2 ^ 32) :=
    (reg_reset ..).trans (regReset_die rfl 0)
  have hhi : State.reset.dev.reg .budCHi 16 = BitVec.ofNat 32 (120000000000000 / 2 ^ 32) :=
    (reg_reset ..).trans (regReset_die rfl 0)
  calc State.reset.dev.reg64 .budCLo .budCHi 16
      = (State.reset.dev.reg .budCLo 16).toNat + 2 ^ 32 * (State.reset.dev.reg .budCHi 16).toNat := rfl
    _ = (BitVec.ofNat 32 (120000000000000 % 2 ^ 32)).toNat + 2 ^ 32 * (BitVec.ofNat 32 (120000000000000 / 2 ^ 32)).toNat := by
      rw [hlo, hhi]
    _ = 120000000000000 := by decide

/-! ### The statement -/

/-- Settles O58, clause by clause: the flags and the link states from registers that reset to 0, ledger DIE and the voice bindings
from their own reset values. -/
theorem resetState : Obligations.ResetState := by
  unfold Obligations.ResetState
  refine ⟨rfl, rfl, healthy_reset, ?regState, ssi_reset, ?ports, ?formes, ?sessions, reg64_reset_budC_die, ?tlim, ?bind, ?ident⟩
  case regState => exact fld_reset_zero (by decide) 0 0 0
  case ports => exact fun p => ⟨flag_reset_false (by decide) p 0 0, fld_reset_zero (by decide) p 0 0⟩
  case formes => exact fun f => ⟨flag_reset_false (by decide) f 0 0, flag_reset_false (by decide) f 0 0⟩
  case sessions => exact fun n => ⟨by rw [session_reset], (reg_reset ..).trans (regReset_eq (by decide) n 0)⟩
  case tlim => exact (reg_reset ..).trans (regReset_die rfl 0)
  case bind => exact fun p v => regReset_opBind_staged p v v.isLt
  case ident => exact (reg_reset ..).trans (regReset_eq (by decide) 0 0)

end Sys2Proof.Proofs
end

section
/-! PROOFS. The address map (R30, R31): what finding a register says of its address, and where none is found. -/

namespace Sys2Proof.Proofs

open Sys2Proof Sys2Proof.Machine

/-- An index of stride 0 is 0, as division by 0 has it. -/
theorem div_or_zero (x n : Nat) : (if n = 0 then 0 else x / n) = x / n := by
  split
  · simp [*]
  · rfl

/-- What is found over segments of which the first counts from i0: the place n in them, and the address. -/
theorem matchSegs_sound (d : RegDesc) (a : Nat) {segs : List (Nat × Nat)} {i0 i j k : Nat}
    (h : matchSegs d a segs i0 = some (i, j, k)) :
    ∃ n, i = i0 + n ∧ n < (segs.map Prod.snd).sum ∧
      segBase d.stride segs n + d.off + j * d.dim2.2 + k * d.dim3.2 = a ∧ j < d.dim2.1 ∧ k < d.dim3.1 := by
  induction segs generalizing i0 with
  | nil => simp [matchSegs] at h
  | cons seg t ih =>
    obtain ⟨b, m⟩ := seg
    simp only [matchSegs, div_or_zero] at h
    split at h
    case isTrue hc =>
      obtain ⟨hb, hi, hj, hk, hr⟩ := hc
      simp only [Option.some.injEq, Prod.mk.injEq] at h
      obtain ⟨rfl, rfl, rfl⟩ := h
      refine ⟨_, rfl, by simp only [List.map_cons, List.sum_cons]; omega, ?_, hj, hk⟩
      have hx := Nat.div_mul_le_self (a - (b + d.off)) d.stride
      have hy := Nat.div_mul_le_self (a - (b + d.off) - (a - (b + d.off)) / d.stride * d.stride) d.dim2.2
      rw [segBase, if_pos hi, Nat.mul_comm d.stride]
      omega
    case isFalse =>
      obtain ⟨n, rfl, hn, ha, hjk⟩ := ih h
      refine ⟨m + n, by omega, by simp only [List.map_cons, List.sum_cons]; omega, ?_, hjk⟩
      rw [segBase, if_neg (by omega), Nat.add_sub_cancel_left]
      exact ha

/-- A register found in a list is of the list, and the address matches it. -/
theorem findIn_sound {a : Nat} {l : List RegName} {r : RegName} {i j k : Nat} (h : findIn a l = some (r, i, j, k)) :
    r ∈ l ∧ matchSegs r.desc a r.desc.segs 0 = some (i, j, k) := by
  induction l with
  | nil => simp [findIn] at h
  | cons q t ih =>
    rw [findIn] at h
    split at h
    · rename_i hq
      simp only [Option.some.injEq, Prod.mk.injEq] at h
      obtain ⟨rfl, rfl, rfl, rfl⟩ := h
      exact ⟨List.mem_cons_self, hq⟩
    · exact ⟨List.mem_cons_of_mem q (ih h).1, (ih h).2⟩

/-- No register of a list lies at an address that matches none of them. -/
theorem findIn_eq_none {a : Nat} {l : List RegName} (h : ∀ r ∈ l, matchSegs r.desc a r.desc.segs 0 = none) :
    findIn a l = none := by
  induction l with
  | nil => rfl
  | cons q t ih =>
    rw [List.forall_mem_cons] at h
    rw [findIn, h.1]
    exact ih h.2

theorem findReg_sound {a : Nat} {r : RegName} {i j k : Nat} (h : findReg a = some (r, i, j, k)) :
    r ∈ blockAt a ∧ matchSegs r.desc a r.desc.segs 0 = some (i, j, k) := by
  rw [findReg] at h
  split at h
  · exact findIn_sound h
  · simp at h

/-- R31: the addresses at which no register is found. -/
theorem findReg_eq_none {a : Nat}
    (h : a % 4 ≠ 0 ∨ blockAt a = [] ∨ ∀ r ∈ blockAt a, matchSegs r.desc a r.desc.segs 0 = none) : findReg a = none := by
  rw [findReg]
  split
  case isFalse => rfl
  case isTrue aligned =>
    obtain unaligned | outside | unnamed := h
    · exact absurd aligned unaligned
    · rw [outside, findIn]
    · exact findIn_eq_none unnamed

/-- Settles O54: what the search over the segments of a register says of the indices it answers. -/
theorem addressMap : Obligations.AddressMap := by
  unfold Obligations.AddressMap
  intro a r i j k h
  obtain ⟨hr, hm⟩ := findReg_sound h
  obtain ⟨n, rfl, hn, ha, hj, hk⟩ := matchSegs_sound r.desc a hm
  simp only [Nat.zero_add]
  exact ⟨ha, hn, hj, hk, hr⟩

end Sys2Proof.Proofs
end

section
/-! PROOFS. Commands from their operation on the accepted device: what acceptance leaves, and the ends of a command that changes
registers alone or nothing. -/

namespace Sys2Proof.Proofs

open Sys2Proof Sys2Proof.Machine

/-! ### What acceptance leaves -/

@[simp] theorem accept_keeps (d : Device) (c : Ctx) (op : Nat) : (d.accept c op).latch = d.latch ∧
    (d.accept c op).hwNow = d.hwNow ∧ (d.accept c op).sess = d.sess := by
  obtain ⟨o, e⟩ := accept_parts d c op
  rw [e]
  exact ⟨rfl, rfl, rfl⟩

/-- R13: acceptance adds to CE_ACCEPTED alone. -/
theorem sfind_addNow_accept (d : Device) (c : Ctx) (op : Nat) {a : Nat} (h : a ≠ RegName.addr .ceAccepted) :
    sfind (d.accept c op).addNow a = sfind d.addNow a := by
  obtain ⟨o, e⟩ := accept_parts d c op
  rw [e]
  exact sfind_sput_other _ _ _ _ h

theorem seqWritable_accept (d : Device) (c : Ctx) (op k t : Nat) :
    (d.accept c op).seqWritable k t = d.seqWritable k t := by
  have away : RegName.addr .secOwn 0 k ≠ RegName.addr .ceAccepted := by
    have own : RegName.addr .secOwn 0 k = 0x80900 + k * 4 := by
      simp [RegName.addr, RegName.desc, mkDesc, segBase]
    have count : RegName.addr .ceAccepted = 0x80010 := by decide
    omega
  simp only [Device.seqWritable, Device.seqOwner, Device.seqSealed, Device.flag, Device.fld, reg_accept d c op _ _ _ _ away]

/-! ### The ends of a command -/

/-- What two frames, one after the other, leave. -/
theorem frame_trans {x d e : Device} {l m : List Nat} {evs evs' : List Ev} (h : Machine.Frame x d l evs)
    (h' : Machine.Frame d e m evs') : Machine.Frame x e (l ++ m) (evs ++ evs') := by
  obtain ⟨parts, evc, regs⟩ := h
  obtain ⟨parts', evc', regs'⟩ := h'
  refine ⟨?_, fun none => ?_, fun r i j k hr => ?_⟩
  · have e1 := congrArg (fun t : Device => { t with
      regs := e.regs, hwNow := e.hwNow, addNow := e.addNow, former := e.former
      ev := { t.ev with now := t.ev.now ++ evs', evc := e.ev.evc } }) parts
    rw [parts'.trans e1, List.append_assoc]
  · obtain ⟨none, none'⟩ := List.append_eq_nil_iff.mp none
    exact (evc' none').trans (evc none)
  · rw [List.mem_append, not_or] at hr
    exact (regs' r i j k hr.2).trans (regs r i j k hr.1)

/-- A final reply in the terms of Frame. -/
theorem frame_reply {x e : Device} {l : List Nat} {evs : List Ev} (h : Machine.Frame x e l evs) (q : List Reply)
    (y : SMap Session) : Machine.Frame { x with eng := { x.eng with out := q }, sess := y }
      { e with eng := { e.eng with out := q }, sess := y } l evs :=
  ⟨congrArg (fun d : Device => { d with eng := { d.eng with out := q }, sess := y }) h.1, h.2.1, h.2.2⟩

variable {i cmd : Instr} {c : Ctx} {op : Nat} {f : Device → CmdOut} {s : State}

/-- A command whose operation changes registers of l alone, CE_ACCEPTED not among them. -/
theorem ends_direct_regs {l : List Nat} {P : Device → Prop} {e : Device} {status steps detail at_ : Nat} {data : List Byte}
    (he : exec i s = .next (s.act (direct cmd c op f))) (ht : Takes s c)
    (ho : f (s.dev.accept c op) = ⟨e, status, detail, data, at_, steps, false⟩) (hf : Machine.Frame (s.dev.accept c op) e l)
    (hl : RegName.addr .ceAccepted ∉ l) (hP : ∀ q y, P { e with eng := { e.eng with out := q }, sess := y }) :
    Ends i c op s status steps detail data s.dev l [] P := by
  have hframe := frame_trans (accept_frame s.dev c op) hf
  obtain ⟨parts, -, regs⟩ := hf
  apply ends_direct he ht <;> rw [ho]
  case hout => rw [parts]
  case hsess => rw [parts]; simp
  case hacc => exact regs _ 0 0 0 hl
  case hx => exact fun q y => frame_reply hframe q y
  case hP => exact hP

/-- A command that answers and leaves the device. -/
theorem onlyAnswers_direct {data : List Byte} (he : exec i s = .next (s.act (direct cmd c op f))) (ht : Takes s c)
    (ho : f (s.dev.accept c op) = done (s.dev.accept c op) data) : OnlyAnswers i c op s data :=
  ends_direct_regs he ht ho (frame_refl _ _) List.not_mem_nil fun _ _ => trivial

/-- A command that is refused. -/
theorem refuses_direct {status detail : Nat} (he : exec i s = .next (s.act (direct cmd c op f))) (ht : Takes s c)
    (ho : f (s.dev.accept c op) = refuse (s.dev.accept c op) status detail) : Refuses i c op s status detail :=
  ends_direct_regs he ht ho (frame_refl _ _) List.not_mem_nil fun _ _ => trivial

end Sys2Proof.Proofs
end

section
/-! PROOFS. Reading and writing registers that have no rule of their own (R11, R13, R24, R31). -/

namespace Sys2Proof.Proofs

open Sys2Proof Sys2Proof.Machine

/-! ### Addresses with no register -/

theorem regRead_refused {s : State} {c : Ctx} {a : Nat} (ht : Takes s c) (ha : findReg a = none) :
    Refuses (.regRead c a) c 0x0201 s stBadArg 0 :=
  refuses_direct rfl ht (by rw [regReadOp, ha])

theorem regWrite_refused {s : State} {c : Ctx} {a v : Nat} (ht : Takes s c) (ha : findReg a = none) :
    Refuses (.regWrite c a v) c 0x0202 s stBadArg 0 :=
  refuses_direct rfl ht (by rw [regWriteOp, ha])

/-- Settles O53: no register is found at such an address, and where none is found both commands are refused. -/
theorem unmappedAddresses : Obligations.UnmappedAddresses := by
  unfold Obligations.UnmappedAddresses
  exact ⟨fun s c a ht ha => regRead_refused ht (findReg_eq_none ha), fun s c a v ht ha => regWrite_refused ht (findReg_eq_none ha)⟩

/-! ### Reading -/

/-- A single register that every session may read, whose value is the word it holds and whose read latches no other word. -/
structure ReadsWord (r : RegName) : Prop where
  found : findReg r.addr = some (r, 0, 0, 0)
  other : r.addr ≠ RegName.addr .ceAccepted
  mayRead : ∀ (d : Device) t, d.mayReadReg t r 0 r.addr = true
  value : ∀ d : Device, d.view r 0 0 0 = d.reg r
  alone : latchedBy r 0 = []

theorem readsWord_ceStale : ReadsWord .ceStale := ⟨by decide, by decide, fun _ _ => rfl, fun _ => rfl, rfl⟩

/-- The registers of the statements that a read leaves unchanged. -/
theorem readsWord_plain {r : RegName}
    (h : r ∈ [.ceAlertEn, .tbSyncDelay, .tbSyncPer, .bnScanmask, .calCommitper, .tbEpochLo, .tbEpochHi]) :
    ReadsWord r ∧ ∀ f ∈ r.desc.fields, f.acc ≠ .rc := by
  simp only [List.mem_cons, List.not_mem_nil, or_false] at h
  obtain rfl | rfl | rfl | rfl | rfl | rfl | rfl := h <;>
    exact ⟨⟨by decide, by decide, fun _ _ => rfl, fun _ => rfl, rfl⟩, by decide⟩

section
variable {r : RegName} {t : Nat} {d : Device}

theorem readReg_word (hr : ReadsWord r) (hl : sfind d.latch r.addr = none) :
    readReg r 0 0 0 d =
      (r.desc.fields.filter fun f => f.acc == .rc).foldl (fun x f => readRc r.addr (d.reg r) f x) (d.reg r, d) := by
  simp [readReg, latchWords, hr.alone, forAllDo, Device.readValue, hl, hr.value]

theorem regReadOp_word (hr : ReadsWord r) :
    regReadOp t r.addr d = done (readReg r 0 0 0 d).2 (leBytes 4 (readReg r 0 0 0 d).1.toNat) := by
  simp [regReadOp, hr.found, hr.mayRead]

/-- R31: a read of a register with no RC field changes nothing. -/
theorem regReadOp_plain (hr : ReadsWord r) (hf : ∀ f ∈ r.desc.fields, f.acc ≠ .rc) (hl : sfind d.latch r.addr = none) :
    regReadOp t r.addr d = done d (leBytes 4 (d.reg r).toNat) := by
  have none_rc : (r.desc.fields.filter fun f => f.acc == .rc) = [] := by simpa [List.filter_eq_nil_iff] using hf
  rw [regReadOp_word hr, readReg_word hr hl, none_rc]
  rfl

/-- The field that is the whole word. -/
theorem getField_word (w : Word) : getField w 31 0 = w.toNat := by
  have := w.isLt
  simp only [getField, bitsOf]
  omega

/-- R13: a read of a register that is one RC field answers the word and clears it. -/
theorem regReadOp_rc (hr : ReadsWord r) {z : Nat} (hf : r.desc.fields = [⟨31, 0, .rc, z⟩]) (hl : sfind d.latch r.addr = none)
    (hn : sfind d.addNow r.addr = none) : regReadOp t r.addr d = done (d.putReg r 0) (leBytes 4 (d.reg r).toNat) := by
  rw [regReadOp_word hr, readReg_word hr hl, hf]
  simp [readRc, hn, getField_word, putField_word, Device.putReg]

/-- REG_READ_MULTI of two registers, of which the first leaves the device. -/
theorem regReadMultiOp_pair {first : Nat} {x y : List Byte} (hx : regReadOp t first d = done d x)
    (hy : regReadOp t (first + 4) d = done d y) : regReadMultiOp t first 2 d = done d (x ++ y) := by
  simp [regReadMultiOp, List.range_succ, readFault, hx, hy, done]

end

/-- Settles O1: each clause from what its operation answers on the accepted device. -/
theorem registerReads : Obligations.RegisterReads := by
  unfold Obligations.RegisterReads
  refine ⟨?plain, ?rc, fun s c a => regRead_refused, ?multi⟩
  case plain =>
    intro s c r h ht hl
    obtain ⟨hr, hf⟩ := readsWord_plain (List.mem_append_left [.tbEpochLo, .tbEpochHi] h)
    rw [← reg_accept s.dev c 0x0201 r 0 0 0 hr.other]
    exact onlyAnswers_direct rfl ht (regReadOp_plain hr hf (by simpa using hl))
  case rc =>
    intro s c ht hl hn
    have hr := readsWord_ceStale
    rw [← reg_accept s.dev c 0x0201 .ceStale 0 0 0 hr.other]
    refine ends_direct_regs rfl ht
      (regReadOp_rc hr rfl (by simpa using hl) (by rwa [sfind_addNow_accept _ _ _ hr.other]))
      (frame_putReg (frame_refl _ _) .ceStale 0 0 0 0 List.mem_cons_self) (by decide) fun q y => ?_
    exact reg_putReg _ .ceStale 0 0 0 0
  case multi =>
    intro s c ht hlo hhi
    obtain ⟨lo, flo⟩ := readsWord_plain (r := .tbEpochLo) (by simp)
    obtain ⟨hi, fhi⟩ := readsWord_plain (r := .tbEpochHi) (by simp)
    rw [← reg_accept s.dev c 0x0203 .tbEpochLo 0 0 0 lo.other, ← reg_accept s.dev c 0x0203 .tbEpochHi 0 0 0 hi.other]
    exact onlyAnswers_direct rfl ht
      (regReadMultiOp_pair (regReadOp_plain lo flo (by simpa using hlo)) (regReadOp_plain hi fhi (by simpa using hhi)))

/-! ### Writing -/

@[simp] theorem remember_hwNow (r : RegName) (i j k : Nat) (d : Device) : (remember r i j k d).hwNow = d.hwNow := by
  simp only [remember]
  split <;> rfl

/-- Register r with the word v written over all of it, the word it held kept for the cycle (R24, R279). -/
def writeWord (r : RegName) (v : Nat) (d : Device) : Device := plainWrite r 0 0 0 v (remember r 0 0 0 d)

/-- A single register that is one RW field, that every session may write and whose write has no rule of its own. -/
structure WritesWord (r : RegName) : Prop where
  found : findReg r.addr = some (r, 0, 0, 0)
  field : ∃ z, r.desc.fields = [⟨31, 0, .rw, z⟩]
  plain : ∀ t v d, writeReg t r 0 0 0 v d = done (writeWord r v d)

theorem writesWord_of_mem {r : RegName} (h : r ∈ [.ceAlertEn, .tbEpochLo, .tbEpochHi]) : WritesWord r := by
  simp only [List.mem_cons, List.not_mem_nil, or_false] at h
  obtain rfl | rfl | rfl := h <;> exact ⟨by decide, ⟨_, rfl⟩, fun _ _ _ => rfl⟩

section
variable {r : RegName} {t : Nat} {d : Device}

theorem regWriteOp_word (hr : WritesWord r) (v : Nat) : regWriteOp t r.addr v d = done (writeWord r v d) := by
  rw [regWriteOp, hr.found]
  exact hr.plain t v d

@[simp] theorem writeWord_hwNow (v : Nat) : (writeWord r v d).hwNow = d.hwNow := by
  simp [writeWord, plainWrite]

/-- R24: the word written stands where the device wrote none of its bits in this cycle. -/
theorem reg_writeWord (hr : WritesWord r) (v : Nat) (hw : sget 0 d.hwNow r.addr = 0) :
    (writeWord r v d).reg r = BitVec.ofNat 32 v := by
  obtain ⟨z, hf⟩ := hr.field
  have all : maskOf 31 0 = BitVec.allOnes 32 := by decide
  rw [writeWord, plainWrite, reg_putReg, remember_hwNow, hw, hf]
  simp only [List.foldl_cons, List.foldl_nil, writeField, all, BitVec.and_allOnes, BitVec.not_allOnes]
  simp

theorem frame_writeWord (r : RegName) (v : Nat) (d : Device) : Machine.Frame d (writeWord r v d) [r.addr] :=
  frame_plainWrite (frame_remember (frame_refl d _) r 0 0 0) r 0 0 0 v List.mem_cons_self

theorem reg_writeWord_other {q : RegName} {v i j k : Nat} (h : q.addr i j k ∉ [r.addr]) :
    (writeWord r v d).reg q i j k = d.reg q i j k :=
  (frame_writeWord r v d).2.2 q i j k h

theorem regWriteListOp_pair {a b v w : Nat} {x y : Device} (hx : regWriteOp t a v d = done x)
    (hy : regWriteOp t b w x = done y) :
    regWriteListOp t [(a, v), (b, w)] d = ⟨y, stOk, 0, [], y.ssi, 2, false⟩ := by
  simp [regWriteListOp, writePairs, hx, hy, done, stOk]

/-- R497: a write by a session that may not write the register's resource. -/
theorem writeReg_away {i j k v : Nat} (h : d.mayWriteReg t i (r.addr i j k) = false) :
    writeReg t r i j k v d = refuse d stNotOwner := by
  simp [writeReg, h]

end

/-- R497: who may write a port's registers may write its sequencer. -/
theorem mayWriteReg_opMode (d : Device) (t : Nat) (p : Fin 512) :
    d.mayWriteReg t p (RegName.addr .opMode p) = d.seqWritable p t := by
  have at_ : RegName.addr .opMode p = 0x100000 + 0x1000 * p := by
    simp [RegName.addr, RegName.desc, mkDesc, segBase]
  have port : 0x10 ≤ RegName.addr .opMode p / 0x10000 ∧ RegName.addr .opMode p / 0x10000 < 0x30 := by omega
  simp only [Device.mayWriteReg, if_pos port]

/-- Settles O3: each clause from what its operation answers on the accepted device. -/
theorem registerWrites : Obligations.RegisterWrites := by
  unfold Obligations.RegisterWrites
  refine ⟨?word, fun s c a v => regWrite_refused, ?list, ?away⟩
  case word =>
    intro s c v ht hw
    have hr : WritesWord .ceAlertEn := writesWord_of_mem (by simp)
    refine ends_direct_regs rfl ht (regWriteOp_word hr (v % 2 ^ 32)) (frame_writeWord ..) (by decide) fun q y => ?_
    exact (reg_writeWord hr (v % 2 ^ 32) (by simpa using hw)).trans (BitVec.eq_of_toNat_eq (by simp))
  case list =>
    intro s c v w ht _ _ hlo hhi
    have lo : WritesWord .tbEpochLo := writesWord_of_mem (by simp)
    have hi : WritesWord .tbEpochHi := writesWord_of_mem (by simp)
    refine ends_direct_regs rfl ht (regWriteListOp_pair (regWriteOp_word lo v) (regWriteOp_word hi w))
      (frame_trans (frame_writeWord ..) (frame_writeWord ..)) (by decide) fun q y => ⟨?_, ?_⟩
    · exact (reg_writeWord_other (by decide)).trans (reg_writeWord lo v (by simpa using hlo))
    · exact reg_writeWord hi w (by simpa using hhi)
  case away =>
    intro s c p v ht hp
    exact refuses_direct rfl ht (writeReg_away (by rw [mayWriteReg_opMode, seqWritable_accept, hp]))

end Sys2Proof.Proofs
end
